-- ==== Sys2Proof/Word.lean ====
section
/-! DEFINITION. The plain types of the JZ840: bytes and fields of the Core Link, and the numberings of
spec 00 (The chassis the part serves). -/

namespace Sys2Proof

/-- One byte on the Core Link (R173). -/
abbrev Byte := BitVec 8

/-- A two-byte field: query tag, origin, request number, generation (R33, R175, R52). -/
abbrev Word16 := BitVec 16

/-- A fabric address, 0x000000..0xFFFFFF (spec 00, Terms). -/
abbrev Addr := BitVec 24

/-- A raw conversion code, 0..1023 (R104). -/
abbrev RawCode := BitVec 10

/-- Ports 0..255. -/
abbrev PortId := Fin 256

/-- Blades 0..7. -/
abbrev BladeId := Fin 8

/-- Fan trays 0..7. -/
abbrev TrayId := Fin 8

/-- Supply slots 0..3. -/
abbrev SlotId := Fin 4

/-- Measurement channels 0..15. -/
abbrev ChanId := Fin 16

/-- A rate class, 1..4, with 4 the highest (spec 00, Terms). -/
inductive RateClass where
  | c1 | c2 | c3 | c4
  deriving DecidableEq, Repr

/-- The twenty alarm kinds of R154, in the order of their codes (spec 09, Alarm kinds). -/
inductive AlarmKind where
  | fanTrayFailed | fanTrayAbsent | supplyFault | supplyAbsent | redundancyLost
  | overTemperature | underTemperature | overVoltage | underVoltage | thermalEmergency
  | sensorTrustLost | powerShedActive | powerWait | licenseExpiryNear | licenseExpired
  | graceRunning | zoneCommitFailed | storeFault | supplyDip | alarmTableFull
  deriving DecidableEq, Repr

/-- One command of a management request's list as it stands on the link (spec 09, Command and
result entries): the command code and the parameter bytes; the length byte is the list's length. -/
structure CmdEntry where
  code   : Byte
  params : List Byte
  deriving DecidableEq, Repr

end Sys2Proof
end

