-- ==== Sys2Proof/Config.lean ====
section
/-! DEFINITION. The constants of the part that the spec fixes, and the free values that it leaves open. -/

namespace Sys2Proof

/-- FREE VALUE (log entry 19). Power Read reports an entry's time on the grant wait list in whole
seconds in a field of two bytes (R152; spec 09, Power Read). The spec states no value for a time above
65,535 s: the field is then this value of the port, the time in seconds and the millisecond of the read.
It has no body, so nothing can be proved of it. -/
opaque Config.waitSecondsOver : Nat → Nat → Nat → Word16

/-- FREE VALUE (log entry 28). A reading that is none stands in a fixed layout beside a present flag of 0
(spec 09, Environment Read, Cooling Read, Power Read); the spec states no value for the reading's own two
bytes then. They are this value of the field's place: 0 to 15 the channel values and 16 to 31 the whole
degrees of Environment Read, 32 its inlet reading, 33 the excess of Cooling Read, 34 the inlet reading of
Power Read, 35 its milliseconds left of a pacing window that does not run. It has no body. -/
opaque Config.absentField : Nat → Word16

/-- R33, R34: queries the core may have outstanding. -/
def Config.queryCredits : Nat := 64
/-- R175: requests the inbound request queue holds. -/
def Config.requestCredits : Nat := 8
/-- R29: entries of the answer list. -/
def Config.answerCap : Nat := 64
/-- R26: entries of the login table. -/
def Config.loginCap : Nat := 1024
/-- R26: entries of the login table for one port. -/
def Config.loginPortCap : Nat := 16
/-- R49: zones of a set. -/
def Config.zoneCap : Nat := 512
/-- R50: members of a zone. -/
def Config.zoneMemberCap : Nat := 256
/-- R50: members of a set over all its zones. -/
def Config.setMemberCap : Nat := 4096
/-- R78: records of the licence table. -/
def Config.licenceCap : Nat := 32
/-- R155: entries of the alarm table, the reserved place apart. -/
def Config.alarmCap : Nat := 64
/-- R165: notices of the notice queue. -/
def Config.noticeCap : Nat := 32
/-- R150: grants in one pacing window. -/
def Config.paceCap : Nat := 16
/-- R150: length of a pacing window, ms. -/
def Config.paceMs : Nat := 250
/-- R148: time after which a POWER-WAIT entry makes Power Wait stand, ms. -/
def Config.powerWaitMs : Nat := 10000
/-- R163: length of a relay pulse, ms. -/
def Config.pulseMs : Nat := 2000
/-- R104: length of one conversion, ms. -/
def Config.conversionMs : Nat := 10
/-- R106: settling time of the scanner, ms. -/
def Config.settleMs : Nat := 50
/-- R117: time between supply samples, ms. -/
def Config.sampleMs : Nat := 100
/-- R147: the highest join number. -/
def Config.joinMax : Nat := 4294967295

end Sys2Proof
end

