-- ==== Sys2Proof/Syntax.lean ====
section
/-! DEFINITION. The commands the part takes: one constructor for each row of spec/opcode_table.json, in
the table's order.

The frames of the Core Link carry their fields (spec 09, layouts). A row of a management command
(PORT_ENABLE to IDENTITY_READ, and UNKNOWN_COMMAND_CODE) is the step in which the request processor
carries out the next command of the request it executes (R178); that command's operands are its parameter
bytes, which stand in the request's list and came with the MANAGEMENT_REQUEST (log entry 5). -/

namespace Sys2Proof

/-- The commands of the part. -/
inductive Instr where
  /-- ADMISSION_QUERY (R33): tag, ingress port, source, destination, class byte. -/
  | admissionQuery (tag : Word16) (ingress : PortId) (src dst : Addr) (cls : Byte)
  /-- LINK_UP (R8): port and the rate class byte. -/
  | linkUp (port : PortId) (cls : Byte)
  /-- LINK_DOWN (R9). -/
  | linkDown (port : PortId)
  /-- PORT_FAULT (R10). -/
  | portFault (port : PortId)
  /-- FAULT_CLEARED (R11). -/
  | faultCleared (port : PortId)
  /-- LOGIN (R27). -/
  | login (port : PortId) (addr : Addr)
  /-- LOGOUT (R30). -/
  | logout (port : PortId) (addr : Addr)
  /-- BLADE_EVENT_INSERTED (R3): the blade byte. -/
  | bladeEventInserted (blade : Byte)
  /-- BLADE_EVENT_REMOVED (R4): the blade byte. -/
  | bladeEventRemoved (blade : Byte)
  /-- MANAGEMENT_REQUEST (R175): origin, privilege byte, request number, command list. -/
  | managementRequest (origin : Word16) (privilege : Byte) (number : Word16) (cmds : List CmdEntry)
  /-- DISCARDED_FRAME (R173): the bytes of the frame. -/
  | discardedFrame (bytes : List Byte)
  /-- LINE_ACTIVITY (R170). -/
  | lineActivity
  /-- TRAINING_COMPLETE (R172). -/
  | trainingComplete
  /-- LOSS_OF_SYNC (R171). -/
  | lossOfSync
  /-- OUTBOUND_FRAME_END (R176). -/
  | outboundFrameEnd
  /-- QUERY_EVALUATION (R35). -/
  | queryEvaluation
  /-- UNKNOWN_COMMAND_CODE (R179). -/
  | unknownCommandCode
  /-- PORT_ENABLE (R12). -/
  | portEnable
  /-- PORT_DISABLE (R13). -/
  | portDisable
  /-- PORT_SET (R14). -/
  | portSet
  /-- PORT_READ (R15). -/
  | portRead
  /-- LOGIN_READ (R46). -/
  | loginRead
  /-- EDIT_BEGIN (R54). -/
  | editBegin
  /-- EDIT_ABORT (R57). -/
  | editAbort
  /-- SET_RENAME (R59). -/
  | setRename
  /-- DEFAULT_ACCESS_SET (R59). -/
  | defaultAccessSet
  /-- ZONE_CREATE (R60). -/
  | zoneCreate
  /-- ZONE_DELETE (R61). -/
  | zoneDelete
  /-- ZONE_RENAME (R62). -/
  | zoneRename
  /-- MEMBER_ADD (R63). -/
  | memberAdd
  /-- MEMBER_REMOVE (R64). -/
  | memberRemove
  /-- ZONE_COMMIT (R66). -/
  | zoneCommit
  /-- ZONE_READ (R75, R76). -/
  | zoneRead
  /-- CLAIM_TIME_SET (R55). -/
  | claimTimeSet
  /-- LICENCE_INSTALL (R80). -/
  | licenceInstall
  /-- LICENCE_REVOKE (R81). -/
  | licenceRevoke
  /-- LICENCE_REMOVE (R82). -/
  | licenceRemove
  /-- LICENCE_WARN_SET (R93). -/
  | licenceWarnSet
  /-- GRACE_SET (R88). -/
  | graceSet
  /-- LICENCE_READ (R98). -/
  | licenceRead
  /-- CHANNEL_SET (R103). -/
  | channelSet
  /-- SCANNER_SET (R106). -/
  | scannerSet
  /-- READ_NOW (R114). -/
  | readNow
  /-- READ_NOW_CONVERSION_END (R114): the raw code the conversion yields. -/
  | readNowConversionEnd (code : RawCode)
  /-- ENVIRONMENT_READ (R119). -/
  | environmentRead
  /-- COOLING_SET (R125). -/
  | coolingSet
  /-- COOLING_READ (R132). -/
  | coolingRead
  /-- SUPPLY_SET (R134). -/
  | supplySet
  /-- POWER_SET (R138). -/
  | powerSet
  /-- POWER_READ (R152). -/
  | powerRead
  /-- ACKNOWLEDGE (R159). -/
  | acknowledge
  /-- ALARM_SET (R162). -/
  | alarmSet
  /-- ALARM_READ (R167). -/
  | alarmRead
  /-- ADDRESS_SET (R183). -/
  | addressSet
  /-- SAVE (R189). -/
  | save
  /-- RESTART (R191): the Restart command. -/
  | restart
  /-- IDENTITY_READ (R193). -/
  | identityRead
  /-- SECONDS_COUNTER_ADVANCE (R91). -/
  | secondsCounterAdvance
  /-- HOUR_TICK (R92). -/
  | hourTick
  /-- DRAIN_TIMER_EXPIRY (R17) of one port. -/
  | drainTimerExpiry (port : PortId)
  /-- HOLDOFF_EXPIRY (R146). -/
  | holdoffExpiry
  /-- PACING_WINDOW_END (R150). -/
  | pacingWindowEnd
  /-- WAIT_TIMER_EXPIRY (R148). -/
  | waitTimerExpiry
  /-- CLAIM_TIMER_EXPIRY (R56). -/
  | claimTimerExpiry
  /-- VALIDATION_END (R68). -/
  | validationEnd
  /-- SETTLING_END (R106). -/
  | settlingEnd
  /-- REST_INTERVAL_END (R106). -/
  | restIntervalEnd
  /-- CONVERSION_END (R107): the raw code of the channel's conversion. -/
  | conversionEnd (code : RawCode)
  /-- ROUND_END (R108): the reference code. -/
  | roundEnd (refCode : RawCode)
  /-- TACH_PULSE (R115) on the input of a tray. -/
  | tachPulse (tray : TrayId)
  /-- GATE_END (R115) of a tray. -/
  | gateEnd (tray : TrayId)
  /-- PRESENCE_LOST (R116): the tray's presence line goes absent. -/
  | presenceLost (tray : TrayId)
  /-- PRESENCE_GAINED (R116): the tray's presence line goes present. -/
  | presenceGained (tray : TrayId)
  /-- SUPPLY_SAMPLE (R117): the seated and output-good lines of the four slots, bit k slot k. -/
  | supplySample (seated outputGood : BitVec 4)
  /-- PULSE_TIMER_EXPIRY (R163) of the entry under a key. -/
  | pulseTimerExpiry (kind : AlarmKind) (subject : Nat)
  /-- RAIL_BELOW_WARNING (R190). -/
  | railBelowWarning
  /-- STANDBY_LOW_ENTRY (R190). -/
  | standbyLowEntry
  /-- STANDBY_RETURN_NORMAL (R190). -/
  | standbyReturnNormal
  /-- STANDBY_LOST (R190). -/
  | standbyLost
  /-- COLD_START (R191): whether the rail is then at or above the warning level. -/
  | coldStart (railNormal : Bool)
  /-- RESET_LINE_ASSERT (R191). -/
  | resetLineAssert
  /-- RESET_LINE_RELEASE (R192). -/
  | resetLineRelease
  /-- WRITE_COMPLETION (R187). -/
  | writeCompletion
  deriving DecidableEq, Repr

end Sys2Proof
end

