-- ==== Sys2Proof/WellFormed.lean ====
section
/-! DEFINITION. Which commands are well formed: the field ranges of inbound frames that R173 gives, where
a field's bits can hold more than its range. The other operands fill their fields exactly. A frame that is
not well formed is a frame LINK discards (R173; log entry 26). -/

namespace Sys2Proof

/-- R173: a command entry fits its layout, parameters 0..255 bytes. -/
def CmdEntry.wf (c : CmdEntry) : Bool := c.params.length ≤ 255

/-- The range checks of R173 on the fields of an inbound frame. -/
def Instr.wf : Instr → Bool
  | .admissionQuery _ _ _ _ cls => cls.toNat ≤ 1
  | .linkUp _ cls => 1 ≤ cls.toNat && cls.toNat ≤ 4
  | .bladeEventInserted blade => blade.toNat ≤ 7
  | .bladeEventRemoved blade => blade.toNat ≤ 7
  | .managementRequest origin priv _ cmds =>
    origin.toNat ≠ 0 && priv.toNat ≤ 2 && 1 ≤ cmds.length && cmds.length ≤ 16 && cmds.all CmdEntry.wf
  | _ => true

end Sys2Proof
end

