-- ==== Sys2Proof/Machine/State.lean ====
section
/-! DEFINITION. The state of the JZ840, block by block, and its value after reset.

Timers are held as the millisecond of running time at which they run out (log entry 2). `Chassis` holds
what PORT, ADMIT's login table, SEAT, PWR and ALM own and what one event of theirs can move in another;
the other blocks stand beside it in `State`. -/

namespace Sys2Proof.Machine

/-! ## Settings (the Settings section, spec 10, THE SECTIONS) -/

/-- The administrative fields of a port record (R1). -/
structure PortAdmin where
  enabled   : Bool
  reqClass  : RateClass
  priority  : Nat
  reducedOk : Bool
  drainSecs : Nat
  deriving DecidableEq, Repr

/-- Channel kinds (R102). -/
inductive ChanKind where
  | temperature | voltage
  deriving DecidableEq, Repr

/-- Channel roles (R102). -/
inductive Role where
  | none | inlet | cooling | critical
  deriving DecidableEq, Repr

/-- The twelve kept fields of a channel record (R102). -/
structure ChanCfg where
  enabled    : Bool
  kind       : ChanKind
  input      : Fin 16
  divider    : Nat
  role       : Role
  hiLimit    : Int
  hiEnable   : Bool
  loLimit    : Int
  loEnable   : Bool
  hysteresis : Nat
  critical   : Int
  target     : Nat
  deriving DecidableEq, Repr

/-- The four scanner settings (R105); the gate window in seconds. -/
structure ScannerCfg where
  enable    : Bool
  restMs    : Nat
  tolerance : Nat
  gateSecs  : Nat
  deriving DecidableEq, Repr

/-- The three cooling settings (R125). -/
structure CoolingCfg where
  minRpm  : Nat
  minDuty : Nat
  gain    : Nat
  deriving DecidableEq, Repr

/-- The supply mode (R134). -/
inductive SupplyMode where
  | spareOne | combined
  deriving DecidableEq, Repr

/-- The supply settings (R134). -/
structure SupplyCfg where
  ratings : Vector Nat 4
  mode    : SupplyMode
  deriving DecidableEq, Repr

/-- The power settings (R138). -/
structure PowerCfg where
  knee           : Nat
  slope          : Nat
  untrustedInlet : Nat
  trayCapacity   : Nat
  reserve        : Nat
  chassisBase    : Nat
  bladeBase      : Nat
  trayDraw       : Nat
  d1             : Nat
  d2             : Nat
  d3             : Nat
  d4             : Nat
  margin         : Nat
  holdoffSecs    : Nat
  deriving DecidableEq, Repr

/-- Relay modes (R162). -/
inductive RelayMode where
  | held | pulsed
  deriving DecidableEq, Repr

/-- The relay settings of one alarm kind (R162). -/
structure RelayCfg where
  mode   : RelayMode
  enable : Bool
  deriving DecidableEq, Repr

/-- Everything the Settings section keeps (spec 10, THE SECTIONS); relay settings by the kind's code. -/
structure Settings where
  ports        : Vector PortAdmin 256
  channels     : Vector ChanCfg 16
  scanner      : ScannerCfg
  cooling      : CoolingCfg
  supply       : SupplyCfg
  power        : PowerCfg
  relays       : Vector RelayCfg 20
  noticeOrigin : Word16
  mgmtAddr     : Addr
  claimIdle    : Nat
  graceLen     : Nat
  deriving DecidableEq, Repr

/-- R1: factory values of a port's administrative fields. -/
def PortAdmin.factory : PortAdmin := ⟨true, .c4, 3, true, 2⟩

/-- R102: factory values of channel `i`; the analog input is the channel's own index. -/
def ChanCfg.factory (i : Fin 16) : ChanCfg :=
  { enabled := false, kind := .temperature, input := i, divider := 1, role := .none,
    hiLimit := 70, hiEnable := false, loLimit := 0, loEnable := false, hysteresis := 2,
    critical := 95, target := 35 }

/-- The factory values of every setting (R1, R102, R105, R125, R134, R138, R162, R183, R55, R88). -/
def Settings.factory : Settings :=
  { ports := Vector.replicate 256 PortAdmin.factory
    channels := #v[.factory 0, .factory 1, .factory 2, .factory 3, .factory 4, .factory 5, .factory 6,
      .factory 7, .factory 8, .factory 9, .factory 10, .factory 11, .factory 12, .factory 13,
      .factory 14, .factory 15]
    scanner := ⟨true, 500, 12, 1⟩
    cooling := ⟨1500, 30, 5⟩
    supply := ⟨Vector.replicate 4 2500, .spareOne⟩
    power :=
      { knee := 40, slope := 20, untrustedInlet := 50, trayCapacity := 900, reserve := 200
        chassisBase := 450, bladeBase := 120, trayDraw := 45, d1 := 3, d2 := 5, d3 := 8, d4 := 12
        margin := 150, holdoffSecs := 30 }
    relays := Vector.replicate 20 ⟨.held, true⟩
    noticeOrigin := 0
    mgmtAddr := 0x0000E0#24
    claimIdle := 300
    graceLen := 72 }

/-! ## PORT -/

/-- Where a drain ends (R16). -/
inductive DrainTarget where
  | disabled | unseated
  deriving DecidableEq, Repr

/-- The nine port states (R1). A port in DRAINING carries its drain target and the millisecond at which
its drain timer runs out; in every other state the target is none and the timer stopped (R1, R17). -/
inductive PortState where
  | absent | disabled | unseated | powerWait | linkWait | online
  | draining (target : DrainTarget) (dueMs : Nat)
  | shed | fault
  deriving DecidableEq, Repr

/-- The seat binding of a port (R1). -/
inductive Binding where
  | none
  | licence (id : Word16)
  | counted
  | drainHold
  deriving DecidableEq, Repr

/-- The control state of a port (R5). -/
inductive Control where
  | disable
  | enable (c : RateClass)
  deriving DecidableEq, Repr

/-- The volatile and mirror fields of a port record (R1). `granted` is also PWR's grant record (R140):
the two agree between events (R141) and are one field here (log entry 24). -/
structure PortRec where
  state      : PortState
  negotiated : Option RateClass
  binding    : Binding
  seatCeil   : Option RateClass
  effCeil    : Option RateClass
  granted    : Option RateClass
  deriving DecidableEq, Repr

/-- R25: a port record after a reset. -/
def PortRec.reset : PortRec := ⟨.absent, none, .none, none, none, none⟩

/-- One entry of the login table (R26). -/
structure LoginEntry where
  addr : Addr
  port : PortId
  deriving DecidableEq, Repr

/-! ## SEAT -/

/-- What only a Term licence has (R78). -/
structure Term where
  hours     : Nat
  remaining : Nat
  warn      : Nat
  deriving DecidableEq, Repr

/-- Licence states (R78). -/
inductive LicState where
  | active | expired | revoked
  deriving DecidableEq, Repr

/-- The stored fields of a licence record (R78); `term` is none for a Permanent licence. -/
structure LicenceRec where
  id      : Word16
  seats   : Nat
  ceiling : RateClass
  scope   : List BladeId
  term    : Option Term
  state   : LicState
  deriving DecidableEq, Repr

/-- A licence with its bound seat list, in binding order (R79). -/
structure Licence where
  record : LicenceRec
  bound  : List PortId
  deriving DecidableEq, Repr

/-! ## PWR -/

/-- Supply slot states (R117). -/
inductive SlotState where
  | unknown | absent | good | fault
  deriving DecidableEq, Repr

/-- Trust states (R109). -/
inductive Trust where
  | unproven | trusted | lost
  deriving DecidableEq, Repr

/-- PWR's own copies of what it is told (R133). -/
structure PwrInputs where
  slots   : Vector SlotState 4
  settled : Bool
  inlet   : Option Int
  trust   : Trust
  thermal : Bool
  good    : Nat
  present : Nat
  blades  : Nat
  deriving DecidableEq, Repr

/-- Stages 2 to 6 of the last evaluation's budget (R135 to R137). -/
structure Stages where
  inletT     : Int
  raw        : Nat
  factor     : Nat
  electrical : Nat
  cooling    : Nat
  available  : Nat
  deriving DecidableEq, Repr

/-- Kinds of an entry of the grant wait list (R147). -/
inductive WaitKind where
  | powerWait | shed
  deriving DecidableEq, Repr

/-- One entry of the grant wait list (R147). -/
structure WaitEntry where
  port   : PortId
  kind   : WaitKind
  joinNo : Nat
  joinMs : Nat
  deriving DecidableEq, Repr

/-- A running pacing window: its count and its end (R150). -/
structure Pacing where
  count : Nat
  dueMs : Nat
  deriving DecidableEq, Repr

/-- The power governor, its grant records apart (`PortRec.granted`). `waitList` stands in order of
joining; its order by priority is computed from it (R147). -/
structure Pwr where
  inputs         : PwrInputs
  stages         : Option Stages
  budget         : Nat
  waitList       : List WaitEntry
  nextJoin       : Nat
  holdoff        : Option Nat
  episode        : Bool
  pacing         : Option Pacing
  waitTimer      : Option Nat
  powerWait      : Bool
  redundancyLost : Bool
  deriving DecidableEq, Repr

/-! ## ALM -/

/-- States of an alarm entry (R155). -/
inductive EntryState where
  | raised | acknowledged | clearedUnack
  deriving DecidableEq, Repr

/-- One alarm entry (R155). The key is `kind` with `subject`; a subject of none is 0 (spec 09, Alarm
kinds). `pulse` is the millisecond at which a running pulse timer runs out (R163). -/
structure AlarmEntry where
  kind     : AlarmKind
  subject  : Nat
  state    : EntryState
  raiseSec : Nat
  pulse    : Option Nat
  deriving DecidableEq, Repr

/-- Severities (R154). -/
inductive Severity where
  | minor | major | critical
  deriving DecidableEq, Repr

/-- Transitions of a notice (R164). -/
inductive Transition where
  | raised | cleared | event
  deriving DecidableEq, Repr

/-- What a notice names: an alarm kind, or one of the four events (R164). -/
inductive NoticeKind where
  | alarm (k : AlarmKind)
  | commitDone | commitFailed | editExpired | restartComplete
  deriving DecidableEq, Repr

/-- A notice (R164). -/
structure Notice where
  addressee  : Word16
  kind       : NoticeKind
  subject    : Nat
  severity   : Severity
  transition : Transition
  seconds    : Nat
  overflow   : Bool
  deriving DecidableEq, Repr

/-- The alarm unit: table in order of creation, reserved place, dip flag, notice queue (R155, R157,
R160, R165). -/
structure Alm where
  entries : List AlarmEntry
  full    : Option AlarmEntry
  dip     : Bool
  notices : List Notice
  deriving DecidableEq, Repr

/-! ## What PORT, ADMIT's login table, SEAT, PWR and ALM hold -/

/-- The state that one event of PORT, SEAT or PWR can move in any of these blocks. `slots` are LINK's
port-control slots in their pending order (R177); `logins` is the login table in order of joining, so a
port's login order is its entries in this order (R26); `licencesDirty` is STORE's mark (R186);
`passDue` is the model's own: a binding pass caused and not yet run (log entry 7). -/
structure Chassis where
  blades        : Vector Bool 8
  ports         : Vector PortRec 256
  logins        : List LoginEntry
  slots         : List (PortId × Control)
  licences      : List Licence
  grace         : Vector Nat 256
  seatWait      : List PortId
  graceRunning  : Bool
  licencesDirty : Bool
  passDue       : Bool
  pwr           : Pwr
  alm           : Alm
  deriving DecidableEq, Repr

/-! ## ADMIT -/

/-- Frame classes (R33). -/
inductive FrameClass where
  | exchange | fabricService
  deriving DecidableEq, Repr

/-- An admission query (R33). -/
structure Query where
  tag     : Word16
  ingress : PortId
  src     : Addr
  dst     : Addr
  cls     : FrameClass
  deriving DecidableEq, Repr

/-- Verdict outcomes (R44). -/
inductive VerdictOutcome where
  | permit | denyZone | denyPort | denySource | denyOverload
  deriving DecidableEq, Repr

/-- A verdict (R44). -/
structure Verdict where
  tag        : Word16
  outcome    : VerdictOutcome
  generation : Word16
  zone       : Option Nat
  deriving DecidableEq, Repr

/-- Results of a Login Answer (R29). -/
inductive LoginResult where
  | accepted | rejectedFull | rejectedPortLimit | rejectedPortState
  deriving DecidableEq, Repr

/-! ## ZONE -/

/-- Default access (R49). -/
inductive Access where
  | none | all
  deriving DecidableEq, Repr

/-- A member of a zone (R50). -/
inductive Member where
  | port (p : PortId)
  | range (base limit : Addr)
  deriving DecidableEq, Repr

/-- A zone; the name as its character codes (R50). -/
structure Zone where
  name    : List Byte
  members : List Member
  deriving DecidableEq, Repr

/-- A zone set; a zone's index is its place in `zones` (R49). -/
structure ZoneSet where
  name   : List Byte
  access : Access
  zones  : List Zone
  deriving DecidableEq, Repr

/-- R49: the set built from factory defaults; its name is the seven characters of "default". -/
def ZoneSet.factory : ZoneSet :=
  ⟨[0x64#8, 0x65#8, 0x66#8, 0x61#8, 0x75#8, 0x6C#8, 0x74#8], .none, []⟩

/-- The commit state (R65), with the millisecond at which validation ends (R68). -/
inductive Commit where
  | idle | armed
  | validating (dueMs : Nat)
  deriving DecidableEq, Repr

/-- The last commit outcome (R75). -/
inductive CommitOutcome where
  | none
  | swapped (generation origin : Word16)
  | failed (zone : Nat) (origin : Word16)
  deriving DecidableEq, Repr

/-- The zone set store (R48, R52, R53, R65, R75). -/
structure ZoneUnit where
  active     : ZoneSet
  edit       : ZoneSet
  generation : Word16
  owner      : Option Word16
  claimDue   : Option Nat
  commit     : Commit
  outcome    : CommitOutcome
  deriving DecidableEq, Repr

/-! ## ENV -/

/-- The volatile part of a channel record (R102): the raw code that gave the value, and which conditions
stand. The value is a function of the raw code and the record (R104, R103; log entry 24). -/
structure ChanVol where
  raw       : Option RawCode
  hi        : Bool
  lo        : Bool
  emergency : Bool
  deriving DecidableEq, Repr

/-- A channel as a round or a Read Now took it (R107, R114). `void` marks one whose record a Channel Set
has changed since, so that the round does not take its reading (R103). -/
structure Taken where
  chan    : ChanId
  kind    : ChanKind
  input   : Fin 16
  divider : Nat
  void    : Bool
  deriving DecidableEq, Repr

/-- A round under way (R107): channels still to convert, and codes held so far. -/
structure Round where
  left : List Taken
  held : List (Taken × RawCode)
  deriving DecidableEq, Repr

/-- Scanner states (R106). A rest whose interval has run out while a Read Now conversion lasts is
`resting none` (R114). -/
inductive Scanner where
  | off
  | settling (dueMs : Nat)
  | converting (r : Round)
  | resting (dueMs : Option Nat)
  deriving DecidableEq, Repr

/-- The conversion under way (R107, R114). -/
inductive Conv where
  | channel
  | reference
  | readNow (t : Taken)
  deriving DecidableEq, Repr

/-- A tach gate under way (R115). -/
structure Gate where
  count : Nat
  secs  : Nat
  dueMs : Nat
  deriving DecidableEq, Repr

/-- A supply slot's state and candidate (R117). -/
structure SlotRec where
  state     : SlotState
  candidate : Option (SlotState × Nat)
  deriving DecidableEq, Repr

/-- The environment scanner (chapter 5). `readNow` is a Read Now placed whose conversion has not begun. -/
structure Env where
  chans     : Vector ChanVol 16
  scanner   : Scanner
  turnOff   : Bool
  conv      : Option (Conv × Nat)
  readNow   : Option ChanId
  trust     : Trust
  fails     : Nat
  passes    : Nat
  refCode   : Option RawCode
  thermal   : Bool
  inlet     : Option Int
  gates     : Vector (Option Gate) 8
  lastRpm   : Vector (Option Nat) 8
  slots     : Vector SlotRec 4
  sampleDue : Nat
  deriving DecidableEq, Repr

/-! ## FAN -/

/-- Tray states (R121). -/
inductive TrayState where
  | absent | good | failed
  deriving DecidableEq, Repr

/-- A tray record (R121). -/
structure Tray where
  state : TrayState
  low   : Nat
  high  : Nat
  deriving DecidableEq, Repr

/-- Cooling control (chapter 6). -/
structure Fan where
  trays    : Vector Tray 8
  current  : Nat
  computed : Nat
  excess   : Option Int
  deriving DecidableEq, Repr

/-! ## LINK -/

/-- Link states (R170). -/
inductive LinkState where
  | down | training | up
  deriving DecidableEq, Repr

/-- Privilege classes (spec 00, Privilege). -/
inductive Privilege where
  | observer | operator | administrator
  deriving DecidableEq, Repr

/-- Status values (R182). -/
inductive Status where
  | done | started | armed | busy | skipped
  | refusedPrivilege | refusedState | refusedRange | refusedFull | refusedDuplicate
  | refusedClaimed | refusedNoClaim | refusedUnknown
  deriving DecidableEq, Repr

/-- One result entry (R181). -/
structure Result where
  status : Status
  data   : List Byte
  deriving DecidableEq, Repr

/-- A management request (R175). -/
structure Request where
  origin    : Word16
  privilege : Privilege
  number    : Word16
  cmds      : List CmdEntry
  deriving DecidableEq, Repr

/-- A management response (R181); `restart` marks the response of a list whose Restart acts after it. -/
structure Response where
  origin  : Word16
  number  : Word16
  addr    : Addr
  entries : List Result
  restart : Bool
  deriving DecidableEq, Repr

/-- The request processor with the request it executes (R178). `live`: the link has not left UP since
the execution began (R171, R181). `left` begins with the command now to be carried out; `holding`: a Read
Now holds the processor (R114). `restart`: a Restart of the list was carried out. -/
structure Proc where
  origin    : Word16
  privilege : Privilege
  number    : Word16
  live      : Bool
  results   : List Result
  left      : List CmdEntry
  holding   : Bool
  restart   : Bool
  deriving DecidableEq, Repr

/-- An item of the verdict queue (R176). -/
inductive VerdictItem where
  | verdict (v : Verdict)
  | flush (generation : Word16)
  deriving DecidableEq, Repr

/-- An item of the answer list (R29). -/
inductive Answer where
  | login (port : PortId) (addr : Addr) (result : LoginResult)
  | overload (v : Verdict)
  deriving DecidableEq, Repr

/-- An outbound frame (spec 09, Message kinds and bodies); a notice carries the management address in
force when its frame starts (R183). -/
inductive OutFrame where
  | verdict (v : Verdict)
  | loginAnswer (port : PortId) (addr : Addr) (result : LoginResult)
  | permitFlush (generation : Word16)
  | portControl (port : PortId) (control : Control)
  | response (r : Response)
  | notice (n : Notice) (addr : Addr)
  deriving DecidableEq, Repr

/-- The Core Link interface, its port-control slots apart (`Chassis.slots`). `waiting` are the Waiting
requests; `proc` the Executing one; `responses` those of the Answered ones (R175). `resync` is the number
of Port Controls of the resync started so far (R172). `resyncDone` is the model's own (log entry 18). -/
structure Link where
  state          : LinkState
  queryCredits   : Nat
  requestCredits : Nat
  verdicts       : List VerdictItem
  answers        : List Answer
  responses      : List Response
  overload       : Option Response
  waiting        : List Request
  proc           : Option Proc
  resync         : Option Nat
  resyncDone     : Bool
  frame          : Option OutFrame
  deriving DecidableEq, Repr

/-! ## STORE -/

/-- The contents of the Zones section. -/
structure ZoneImage where
  set        : ZoneSet
  generation : Word16
  deriving DecidableEq, Repr

/-- The contents of the Licences section. -/
structure LicenceImage where
  records : List LicenceRec
  grace   : Vector Nat 256
  deriving DecidableEq, Repr

/-- A section with the contents a write captured (R187). -/
inductive SectionImage where
  | settings (c : Settings)
  | zones (z : ZoneImage)
  | licences (l : LicenceImage)
  deriving DecidableEq, Repr

/-- The writer (R187). -/
inductive Writer where
  | idle | held
  | writing (image : SectionImage)
  deriving DecidableEq, Repr

/-- The standby monitor (R190). -/
inductive Monitor where
  | normal | low | lost
  deriving DecidableEq, Repr

/-- Causes of the last reset (R191). -/
inductive ResetCause where
  | powerOn | lossOfRetention | line | command
  deriving DecidableEq, Repr

/-- The configuration store (chapter 10), the Licences mark apart (`Chassis.licencesDirty`). A section
that would fail its check is none (log entry 12). `railLow`: the 1 ms qualification runs (R190), with
the millisecond at which it ends. -/
structure Store where
  settings      : Option Settings
  zones         : Option ZoneImage
  licences      : Option LicenceImage
  settingsDirty : Bool
  zonesDirty    : Bool
  settingsValid : Bool
  zonesValid    : Bool
  licencesValid : Bool
  writer        : Writer
  monitor       : Monitor
  railLow       : Option Nat
  marker        : Bool
  cause         : ResetCause
  startUp       : Bool
  deriving DecidableEq, Repr

/-! ## The output lines -/

/-- The lines the part drives: the three relay lines (R163), and each fan output's duty, none while it is
not driven (R129, R190). -/
structure Lines where
  crit  : Bool
  major : Bool
  minor : Bool
  fans  : Vector (Option Nat) 8
  deriving DecidableEq, Repr

/-! ## The whole part -/

/-- The state of the part, with the queue of commands that wait. `clockMs` is the running time in
milliseconds and `secondDueMs` the end of the second under way (log entry 2); `trayPresent` are the fan
presence lines and `resetHeld` the RESET line. -/
structure State where
  cfg         : Settings
  clockMs     : Nat
  secondDueMs : Nat
  seconds     : Nat
  hourSeconds : Nat
  chassis     : Chassis
  queries     : List Query
  env         : Env
  fan         : Fan
  zone        : ZoneUnit
  link        : Link
  store       : Store
  trayPresent : Vector Bool 8
  resetHeld   : Bool
  lines       : Lines
  pending     : List Instr
  deriving DecidableEq, Repr

/-- The part has no fault: no rule of the spec stops a run, a frame or command that is not accepted is
discarded or answered with a status (R173, R182), and below the retention level the part takes no event
(R190). No meaning raises one (safe). -/
inductive Fault where
  deriving DecidableEq, Repr

/-- Refusals. -/
inductive Refusal where
  /-- Raised only by an arm of `exec` whose command has no meaning yet; no arm raises it (safe). -/
  | notModelled (mnemonic : String)
  deriving DecidableEq, Repr

/-! ## Reset -/

/-- R168, R185, R131: the alarm table after the Cold Start of a part whose three sections fail their
check, with the rail at the warning level and no tray present. -/
def Alm.reset : Alm :=
  { entries :=
      [⟨.supplyDip, 0, .clearedUnack, 0, some 2000⟩,
       ⟨.storeFault, 0, .raised, 0, some 2000⟩, ⟨.storeFault, 1, .raised, 0, some 2000⟩,
       ⟨.storeFault, 2, .raised, 0, some 2000⟩,
       ⟨.fanTrayAbsent, 0, .raised, 0, some 2000⟩, ⟨.fanTrayAbsent, 1, .raised, 0, some 2000⟩,
       ⟨.fanTrayAbsent, 2, .raised, 0, some 2000⟩, ⟨.fanTrayAbsent, 3, .raised, 0, some 2000⟩,
       ⟨.fanTrayAbsent, 4, .raised, 0, some 2000⟩, ⟨.fanTrayAbsent, 5, .raised, 0, some 2000⟩,
       ⟨.fanTrayAbsent, 6, .raised, 0, some 2000⟩, ⟨.fanTrayAbsent, 7, .raised, 0, some 2000⟩]
    full := none, dip := false, notices := [] }

/-- R153: PWR's inputs after a reset, with the trays FAN hands on. -/
def PwrInputs.reset (good present : Nat) : PwrInputs :=
  ⟨Vector.replicate 4 .unknown, false, none, .unproven, false, good, present, 0⟩

/-- R153: PWR after a reset. -/
def Pwr.reset (good present : Nat) : Pwr :=
  { inputs := PwrInputs.reset good present, stages := none, budget := 0, waitList := [], nextJoin := 0,
    holdoff := none, episode := false, pacing := none, waitTimer := none, powerWait := false,
    redundancyLost := false }

/-- R184: LINK after a reset; the credit counts have no meaning there (log entry 30). -/
def Link.reset : Link :=
  { state := .down, queryCredits := 0, requestCredits := 0, verdicts := [], answers := [],
    responses := [], overload := none, waiting := [], proc := none, resync := none,
    resyncDone := false, frame := none }

/-- R77: ZONE after a reset that loads `image`. -/
def ZoneUnit.reset (image : ZoneImage) : ZoneUnit :=
  ⟨image.set, image.set, image.generation, none, none, .idle, .none⟩

/-- The machine right after the Cold Start of a part as it leaves the factory: no section is valid, so
every setting is at its factory value, Store Fault is raised three times and the writer has started with
Licences (R185, R187). The rail is at its warning level, no tray shows present and the RESET line is
released (log entry 4, DESIGN CHOICE). -/
def State.reset : State :=
  { cfg := Settings.factory
    clockMs := 0
    secondDueMs := 1000
    seconds := 0
    hourSeconds := 0
    chassis :=
      { blades := Vector.replicate 8 false
        ports := Vector.replicate 256 PortRec.reset
        logins := [], slots := [], licences := []
        grace := Vector.replicate 256 0
        seatWait := [], graceRunning := false, licencesDirty := false, passDue := false
        pwr := Pwr.reset 0 0
        alm := Alm.reset }
    queries := []
    env :=
      { chans := Vector.replicate 16 ⟨none, false, false, false⟩
        scanner := .settling 50
        turnOff := false, conv := none, readNow := none
        trust := .unproven, fails := 0, passes := 0, refCode := none
        thermal := false, inlet := none
        gates := Vector.replicate 8 none
        lastRpm := Vector.replicate 8 none
        slots := Vector.replicate 4 ⟨.unknown, none⟩
        sampleDue := 100 }
    fan := { trays := Vector.replicate 8 ⟨.absent, 0, 0⟩, current := 100, computed := 100, excess := none }
    zone := ZoneUnit.reset ⟨ZoneSet.factory, 0⟩
    link := Link.reset
    store :=
      { settings := none, zones := none, licences := none
        settingsDirty := true, zonesDirty := true
        settingsValid := false, zonesValid := false, licencesValid := false
        writer := .writing (.licences ⟨[], Vector.replicate 256 0⟩)
        monitor := .normal, railLow := none, marker := false, cause := .powerOn, startUp := true }
    trayPresent := Vector.replicate 8 false
    resetHeld := false
    lines := { crit := false, major := true, minor := false, fans := Vector.replicate 8 (some 100) }
    pending := [] }

end Sys2Proof.Machine
end

