-- ==== Sys2Proof/Machine/Operands.lean ====
section
/-! DEFINITION. The operand forms of the management commands (spec 09, Commands): the command catalogue,
and for each command the reading of its parameter bytes. A reading answers none exactly where check 2 of
R179 answers Refused-Range: a length that differs from the one the code and the contents call for, an
empty or undefined field mask, or a form byte, selector, member type or licence kind that names none of
its values. A value that fits its field but not its range is read as it stands (R179, R180). -/

namespace Sys2Proof

/-- The number of a rate class. -/
def RateClass.num : RateClass → Nat
  | .c1 => 1 | .c2 => 2 | .c3 => 3 | .c4 => 4

/-- The rate class of a number 1..4. -/
def RateClass.ofNum? : Nat → Option RateClass
  | 1 => some .c1 | 2 => some .c2 | 3 => some .c3 | 4 => some .c4
  | _ => none

/-- The lower of two rate classes. -/
def RateClass.lower (a b : RateClass) : RateClass := if a.num ≤ b.num then a else b

/-- The classes from `c` down to class 1 (R149). -/
def RateClass.downFrom : RateClass → List RateClass
  | .c1 => [.c1]
  | .c2 => [.c2, .c1]
  | .c3 => [.c3, .c2, .c1]
  | .c4 => [.c4, .c3, .c2, .c1]

/-- The code of an alarm kind (spec 09, Alarm kinds). -/
def AlarmKind.code : AlarmKind → Fin 20
  | .fanTrayFailed => 0 | .fanTrayAbsent => 1 | .supplyFault => 2 | .supplyAbsent => 3
  | .redundancyLost => 4 | .overTemperature => 5 | .underTemperature => 6 | .overVoltage => 7
  | .underVoltage => 8 | .thermalEmergency => 9 | .sensorTrustLost => 10 | .powerShedActive => 11
  | .powerWait => 12 | .licenseExpiryNear => 13 | .licenseExpired => 14 | .graceRunning => 15
  | .zoneCommitFailed => 16 | .storeFault => 17 | .supplyDip => 18 | .alarmTableFull => 19

/-- The alarm kind of a code, none for a code that is not one of the twenty. -/
def AlarmKind.ofCode? : Nat → Option AlarmKind
  | 0 => some .fanTrayFailed | 1 => some .fanTrayAbsent | 2 => some .supplyFault
  | 3 => some .supplyAbsent | 4 => some .redundancyLost | 5 => some .overTemperature
  | 6 => some .underTemperature | 7 => some .overVoltage | 8 => some .underVoltage
  | 9 => some .thermalEmergency | 10 => some .sensorTrustLost | 11 => some .powerShedActive
  | 12 => some .powerWait | 13 => some .licenseExpiryNear | 14 => some .licenseExpired
  | 15 => some .graceRunning | 16 => some .zoneCommitFailed | 17 => some .storeFault
  | 18 => some .supplyDip | 19 => some .alarmTableFull
  | _ => none

namespace Machine

/-! ## The command catalogue -/

/-- The management commands (spec 09, The command catalogue). -/
inductive Cmd where
  | portEnable | portDisable | portSet | portRead | loginRead
  | editBegin | editAbort | setRename | defaultAccessSet | zoneCreate | zoneDelete | zoneRename
  | memberAdd | memberRemove | zoneCommit | zoneRead | claimTimeSet
  | licenceInstall | licenceRevoke | licenceRemove | licenceWarnSet | graceSet | licenceRead
  | channelSet | scannerSet | readNow | environmentRead
  | coolingSet | coolingRead
  | supplySet | powerSet | powerRead
  | acknowledge | alarmSet | alarmRead
  | addressSet | save | restart | identityRead
  deriving DecidableEq, Repr

/-- The command that a command code names (spec 09, Commands); none for a code that names none. -/
def Cmd.ofCode? (code : Byte) : Option Cmd :=
  match code.toNat with
  | 0x01 => some .portEnable | 0x02 => some .portDisable | 0x03 => some .portSet
  | 0x04 => some .portRead | 0x05 => some .loginRead
  | 0x10 => some .editBegin | 0x11 => some .editAbort | 0x12 => some .setRename
  | 0x13 => some .defaultAccessSet | 0x14 => some .zoneCreate | 0x15 => some .zoneDelete
  | 0x16 => some .zoneRename | 0x17 => some .memberAdd | 0x18 => some .memberRemove
  | 0x19 => some .zoneCommit | 0x1A => some .zoneRead | 0x1B => some .claimTimeSet
  | 0x20 => some .licenceInstall | 0x21 => some .licenceRevoke | 0x22 => some .licenceRemove
  | 0x23 => some .licenceWarnSet | 0x24 => some .graceSet | 0x25 => some .licenceRead
  | 0x30 => some .channelSet | 0x31 => some .scannerSet | 0x32 => some .readNow
  | 0x33 => some .environmentRead
  | 0x40 => some .coolingSet | 0x41 => some .coolingRead
  | 0x50 => some .supplySet | 0x51 => some .powerSet | 0x52 => some .powerRead
  | 0x60 => some .acknowledge | 0x61 => some .alarmSet | 0x62 => some .alarmRead
  | 0x70 => some .addressSet | 0x71 => some .save | 0x72 => some .restart
  | 0x73 => some .identityRead
  | _ => none

/-- The code of a command (spec 09, Commands). -/
def Cmd.code : Cmd → Byte
  | .portEnable => 0x01#8 | .portDisable => 0x02#8 | .portSet => 0x03#8
  | .portRead => 0x04#8 | .loginRead => 0x05#8
  | .editBegin => 0x10#8 | .editAbort => 0x11#8 | .setRename => 0x12#8
  | .defaultAccessSet => 0x13#8 | .zoneCreate => 0x14#8 | .zoneDelete => 0x15#8
  | .zoneRename => 0x16#8 | .memberAdd => 0x17#8 | .memberRemove => 0x18#8
  | .zoneCommit => 0x19#8 | .zoneRead => 0x1A#8 | .claimTimeSet => 0x1B#8
  | .licenceInstall => 0x20#8 | .licenceRevoke => 0x21#8 | .licenceRemove => 0x22#8
  | .licenceWarnSet => 0x23#8 | .graceSet => 0x24#8 | .licenceRead => 0x25#8
  | .channelSet => 0x30#8 | .scannerSet => 0x31#8 | .readNow => 0x32#8
  | .environmentRead => 0x33#8
  | .coolingSet => 0x40#8 | .coolingRead => 0x41#8
  | .supplySet => 0x50#8 | .powerSet => 0x51#8 | .powerRead => 0x52#8
  | .acknowledge => 0x60#8 | .alarmSet => 0x61#8 | .alarmRead => 0x62#8
  | .addressSet => 0x70#8 | .save => 0x71#8 | .restart => 0x72#8
  | .identityRead => 0x73#8

/-- The lowest privilege that may issue a command (spec 09, The command catalogue). -/
def Cmd.privilege : Cmd → Privilege
  | .portEnable | .portDisable | .readNow | .acknowledge => .operator
  | .portRead | .loginRead | .zoneRead | .licenceRead | .environmentRead | .coolingRead
  | .powerRead | .alarmRead | .identityRead => .observer
  | .portSet | .editBegin | .editAbort | .setRename | .defaultAccessSet | .zoneCreate | .zoneDelete
  | .zoneRename | .memberAdd | .memberRemove | .zoneCommit | .claimTimeSet | .licenceInstall
  | .licenceRevoke | .licenceRemove | .licenceWarnSet | .graceSet | .channelSet | .scannerSet
  | .coolingSet | .supplySet | .powerSet | .alarmSet | .addressSet | .save | .restart => .administrator

/-- The rank of a privilege: Observer < Operator < Administrator. -/
def Privilege.rank : Privilege → Nat
  | .observer => 0 | .operator => 1 | .administrator => 2

/-- The privilege of a privilege byte (spec 09, Management Request). -/
def Privilege.ofByte? (b : Byte) : Option Privilege :=
  match b.toNat with
  | 0 => some .observer | 1 => some .operator | 2 => some .administrator
  | _ => none

/-! ## Reading bytes: every multi-byte field is most significant byte first (spec 09, layouts) -/

/-- The number that bytes spell, most significant first. -/
def beNat (bs : List Byte) : Nat := bs.foldl (fun n b => n * 256 + b.toNat) 0

/-- The first `w` bytes as a number, and the rest. -/
def takeNat (w : Nat) (bs : List Byte) : Option (Nat × List Byte) :=
  if bs.length < w then none else some (beNat (bs.take w), bs.drop w)

/-- A name: a length byte, then that many bytes (spec 09, Field encodings). -/
def takeName : List Byte → Option (List Byte × List Byte)
  | [] => none
  | n :: bs => if bs.length < n.toNat then none else some (bs.take n.toNat, bs.drop n.toNat)

/-- A field that bit `bit` of the mask names, `w` bytes wide; none where the mask does not name it. -/
def takeField (mask bit w : Nat) (bs : List Byte) : Option (Option Nat × List Byte) :=
  if mask.testBit bit then (takeNat w bs).map (fun r => (some r.1, r.2)) else some (none, bs)

/-- A field mask of `bits` named bits: not 0, and no bit set that names no field. -/
def maskOk (mask bits : Nat) : Bool := mask ≠ 0 && mask < 2 ^ bits

/-- Two's complement of two bytes (spec 09, Field encodings). -/
def signed16 (n : Nat) : Int := if n < 32768 then (n : Int) else (n : Int) - 65536

/-- A value, where no byte is left over. -/
def ended {α : Type} (r : Option (α × List Byte)) : Option α :=
  match r with
  | some (a, []) => some a
  | _ => none

/-- A flag byte: 0 no, 1 yes; none outside its range. -/
def flagOf? : Nat → Option Bool
  | 0 => some false
  | 1 => some true
  | _ => none

/-! ## Parameter forms -/

/-- No parameters. -/
def readUnit : List Byte → Option Unit
  | [] => some ()
  | _ => none

/-- One byte that names a port. -/
def readPort : List Byte → Option PortId
  | [p] => some p.toFin
  | _ => none

/-- One number of `w` bytes. -/
def readNat (w : Nat) (bs : List Byte) : Option Nat := ended (takeNat w bs)

/-- One name. -/
def readName (bs : List Byte) : Option (List Byte) := ended (takeName bs)

/-- Port Set: the port and the named fields. -/
structure PortSetForm where
  port      : PortId
  reqClass  : Option Nat
  priority  : Option Nat
  reducedOk : Option Nat
  drainSecs : Option Nat
  deriving DecidableEq, Repr

/-- Port Set (0x03): port, mask of four, the named values of one byte each. -/
def readPortSet : List Byte → Option PortSetForm
  | p :: m :: bs => do
    if maskOk m.toNat 4 then
      let (a, bs) ← takeField m.toNat 0 1 bs
      let (b, bs) ← takeField m.toNat 1 1 bs
      let (c, bs) ← takeField m.toNat 2 1 bs
      let (d, bs) ← takeField m.toNat 3 1 bs
      if bs = [] then some ⟨p.toFin, a, b, c, d⟩ else none
    else none
  | _ => none

/-- Login Read: by port or by address. -/
inductive LoginReadForm where
  | byPort (p : PortId)
  | byAddr (a : Addr)
  deriving DecidableEq, Repr

/-- Login Read (0x05). -/
def readLoginRead : List Byte → Option LoginReadForm
  | [f, p] => if f = 0#8 then some (.byPort p.toFin) else none
  | [f, a, b, c] => if f = 1#8 then some (.byAddr (BitVec.ofNat 24 (beNat [a, b, c]))) else none
  | _ => none

/-- Zone Create: the name and, where given, the position. -/
structure ZoneCreateForm where
  name     : List Byte
  position : Option Nat
  deriving DecidableEq, Repr

/-- Zone Create (0x14): name; position of two bytes, where given. -/
def readZoneCreate (bs : List Byte) : Option ZoneCreateForm :=
  match takeName bs with
  | some (n, []) => some ⟨n, none⟩
  | some (n, [a, b]) => some ⟨n, some (beNat [a, b])⟩
  | _ => none

/-- Zone Rename: present name, new name. -/
structure ZoneRenameForm where
  old : List Byte
  new : List Byte
  deriving DecidableEq, Repr

/-- Zone Rename (0x16). -/
def readZoneRename (bs : List Byte) : Option ZoneRenameForm := do
  let (o, bs) ← takeName bs
  let n ← readName bs
  some ⟨o, n⟩

/-- Member Add and Member Remove: zone name and member. -/
structure MemberForm where
  zone   : List Byte
  member : Member
  deriving DecidableEq, Repr

/-- Member Add (0x17) and Member Remove (0x18): zone name; member type 0 with a port, or 1 with base and
limit. -/
def readMember (bs : List Byte) : Option MemberForm :=
  match takeName bs with
  | some (n, [t, p]) => if t = 0#8 then some ⟨n, .port p.toFin⟩ else none
  | some (n, [t, a, b, c, d, e, f]) =>
    if t = 1#8 then
      some ⟨n, .range (BitVec.ofNat 24 (beNat [a, b, c])) (BitVec.ofNat 24 (beNat [d, e, f]))⟩
    else none
  | _ => none

/-- Zone Read in its forms; `set` is the set byte, 0 Active, 1 Edit. -/
inductive ZoneReadForm where
  | summary
  | list (set start count : Nat)
  | byIndex (set index : Nat)
  | byName (set : Nat) (name : List Byte)
  deriving DecidableEq, Repr

/-- Zone Read (0x1A). -/
def readZoneRead : List Byte → Option ZoneReadForm
  | [f] => if f = 0#8 then some .summary else none
  | f :: s :: bs =>
    if f = 1#8 then
      match bs with
      | [a, b, c] => some (.list s.toNat (beNat [a, b]) c.toNat)
      | _ => none
    else if f = 2#8 then
      match bs with
      | sel :: bs =>
        if sel = 0#8 then (readNat 2 bs).map (.byIndex s.toNat)
        else if sel = 1#8 then (readName bs).map (.byName s.toNat)
        else none
      | _ => none
    else none
  | _ => none

/-- Licence Install: `term` is the kind byte's value 1; the rest as carried. -/
structure LicenceInstallForm where
  id      : Nat
  term    : Bool
  seats   : Nat
  ceiling : Nat
  scope   : List Nat
  hours   : Option Nat
  warn    : Option Nat
  deriving DecidableEq, Repr

/-- Licence Install (0x20): id 2; kind 1; seat count 2; ceiling 1; scope count 1; the blades; then, for a Term
licence, term hours 2 and, where carried, warn threshold 2. The kind fixes the length (R179, check 2; log entry 23):
a Permanent licence carries nothing after the scope, a Term licence its hours. -/
def readLicenceInstall : List Byte → Option LicenceInstallForm
  | i1 :: i2 :: k :: s1 :: s2 :: c :: n :: bs =>
    match flagOf? k.toNat with
    | none => none
    | some t =>
      if bs.length < n.toNat then none
      else
        let scope := (bs.take n.toNat).map BitVec.toNat
        match t, bs.drop n.toNat with
        | false, [] => some ⟨beNat [i1, i2], t, beNat [s1, s2], c.toNat, scope, none, none⟩
        | true, [h1, h2] => some ⟨beNat [i1, i2], t, beNat [s1, s2], c.toNat, scope, some (beNat [h1, h2]), none⟩
        | true, [h1, h2, w1, w2] =>
          some ⟨beNat [i1, i2], t, beNat [s1, s2], c.toNat, scope, some (beNat [h1, h2]), some (beNat [w1, w2])⟩
        | _, _ => none
  | _ => none

/-- Licence Warn Set: id and threshold. -/
structure WarnForm where
  id   : Nat
  warn : Nat
  deriving DecidableEq, Repr

/-- Licence Warn Set (0x23). -/
def readWarn : List Byte → Option WarnForm
  | [a, b, c, d] => some ⟨beNat [a, b], beNat [c, d]⟩
  | _ => none

/-- Licence Read: the summary, or one licence. -/
inductive LicenceReadForm where
  | summary
  | one (id : Nat)
  deriving DecidableEq, Repr

/-- Licence Read (0x25). -/
def readLicenceRead : List Byte → Option LicenceReadForm
  | [f] => if f = 0#8 then some .summary else none
  | [f, a, b] => if f = 1#8 then some (.one (beNat [a, b])) else none
  | _ => none

/-- Channel Set: the channel and the named fields, in bit order. -/
structure ChannelSetForm where
  chan       : Nat
  enabled    : Option Nat
  kind       : Option Nat
  input      : Option Nat
  divider    : Option Nat
  role       : Option Nat
  hiLimit    : Option Nat
  hiEnable   : Option Nat
  loLimit    : Option Nat
  loEnable   : Option Nat
  hysteresis : Option Nat
  critical   : Option Nat
  target     : Option Nat
  deriving DecidableEq, Repr

/-- Channel Set (0x30): channel; mask of twelve in two bytes; the three limits 2 bytes, the others 1. -/
def readChannelSet : List Byte → Option ChannelSetForm
  | ch :: m1 :: m2 :: bs => do
    let m := beNat [m1, m2]
    if maskOk m 12 then
      let (en, bs) ← takeField m 0 1 bs
      let (ki, bs) ← takeField m 1 1 bs
      let (inp, bs) ← takeField m 2 1 bs
      let (dv, bs) ← takeField m 3 1 bs
      let (ro, bs) ← takeField m 4 1 bs
      let (hl, bs) ← takeField m 5 2 bs
      let (he, bs) ← takeField m 6 1 bs
      let (ll, bs) ← takeField m 7 2 bs
      let (le, bs) ← takeField m 8 1 bs
      let (hy, bs) ← takeField m 9 1 bs
      let (cr, bs) ← takeField m 10 2 bs
      let (tg, bs) ← takeField m 11 1 bs
      if bs = [] then some ⟨ch.toNat, en, ki, inp, dv, ro, hl, he, ll, le, hy, cr, tg⟩ else none
    else none
  | _ => none

/-- Scanner Set: the named settings. -/
structure ScannerSetForm where
  enable    : Option Nat
  restMs    : Option Nat
  tolerance : Option Nat
  gateSecs  : Option Nat
  deriving DecidableEq, Repr

/-- Scanner Set (0x31). -/
def readScannerSet : List Byte → Option ScannerSetForm
  | m :: bs => do
    if maskOk m.toNat 4 then
      let (a, bs) ← takeField m.toNat 0 1 bs
      let (b, bs) ← takeField m.toNat 1 2 bs
      let (c, bs) ← takeField m.toNat 2 1 bs
      let (d, bs) ← takeField m.toNat 3 1 bs
      if bs = [] then some ⟨a, b, c, d⟩ else none
    else none
  | _ => none

/-- Cooling Set: the named settings. -/
structure CoolingSetForm where
  minRpm  : Option Nat
  minDuty : Option Nat
  gain    : Option Nat
  deriving DecidableEq, Repr

/-- Cooling Set (0x40). -/
def readCoolingSet : List Byte → Option CoolingSetForm
  | m :: bs => do
    if maskOk m.toNat 3 then
      let (a, bs) ← takeField m.toNat 0 2 bs
      let (b, bs) ← takeField m.toNat 1 1 bs
      let (c, bs) ← takeField m.toNat 2 1 bs
      if bs = [] then some ⟨a, b, c⟩ else none
    else none
  | _ => none

/-- Supply Set: the named ratings and the mode. -/
structure SupplySetForm where
  r0   : Option Nat
  r1   : Option Nat
  r2   : Option Nat
  r3   : Option Nat
  mode : Option Nat
  deriving DecidableEq, Repr

/-- Supply Set (0x50). -/
def readSupplySet : List Byte → Option SupplySetForm
  | m :: bs => do
    if maskOk m.toNat 5 then
      let (a, bs) ← takeField m.toNat 0 2 bs
      let (b, bs) ← takeField m.toNat 1 2 bs
      let (c, bs) ← takeField m.toNat 2 2 bs
      let (d, bs) ← takeField m.toNat 3 2 bs
      let (e, bs) ← takeField m.toNat 4 1 bs
      if bs = [] then some ⟨a, b, c, d, e⟩ else none
    else none
  | _ => none

/-- Power Set: the named settings, in bit order. -/
structure PowerSetForm where
  knee           : Option Nat
  slope          : Option Nat
  untrustedInlet : Option Nat
  trayCapacity   : Option Nat
  reserve        : Option Nat
  chassisBase    : Option Nat
  bladeBase      : Option Nat
  trayDraw       : Option Nat
  d1             : Option Nat
  d2             : Option Nat
  d3             : Option Nat
  d4             : Option Nat
  margin         : Option Nat
  holdoffSecs    : Option Nat
  deriving DecidableEq, Repr

/-- Power Set (0x51): mask of fourteen in two bytes; six settings 2 bytes, the others 1. -/
def readPowerSet : List Byte → Option PowerSetForm
  | m1 :: m2 :: bs => do
    let m := beNat [m1, m2]
    if maskOk m 14 then
      let (kn, bs) ← takeField m 0 1 bs
      let (sl, bs) ← takeField m 1 1 bs
      let (ui, bs) ← takeField m 2 1 bs
      let (tc, bs) ← takeField m 3 2 bs
      let (rs, bs) ← takeField m 4 2 bs
      let (cb, bs) ← takeField m 5 2 bs
      let (bb, bs) ← takeField m 6 2 bs
      let (td, bs) ← takeField m 7 1 bs
      let (d1, bs) ← takeField m 8 1 bs
      let (d2, bs) ← takeField m 9 1 bs
      let (d3, bs) ← takeField m 10 1 bs
      let (d4, bs) ← takeField m 11 1 bs
      let (mg, bs) ← takeField m 12 2 bs
      let (ho, bs) ← takeField m 13 2 bs
      if bs = [] then some ⟨kn, sl, ui, tc, rs, cb, bb, td, d1, d2, d3, d4, mg, ho⟩ else none
    else none
  | _ => none

/-- Acknowledge: one key or every entry. -/
inductive AckForm where
  | key (kind subject : Nat)
  | all
  deriving DecidableEq, Repr

/-- Acknowledge (0x60). -/
def readAck : List Byte → Option AckForm
  | [f] => if f = 1#8 then some .all else none
  | [f, k, a, b, c] => if f = 0#8 then some (.key k.toNat (beNat [a, b, c])) else none
  | _ => none

/-- Alarm Set: the notice origin, or the named relay settings of a kind. -/
inductive AlarmSetForm where
  | origin (n : Nat)
  | kind (k : Nat) (mode enable : Option Nat)
  deriving DecidableEq, Repr

/-- Alarm Set (0x61). -/
def readAlarmSet : List Byte → Option AlarmSetForm
  | f :: a :: b :: bs => do
    if f = 0#8 then
      if bs = [] then some (.origin (beNat [a, b])) else none
    else if f = 1#8 then
      if maskOk b.toNat 2 then
        let (m, bs) ← takeField b.toNat 0 1 bs
        let (e, bs) ← takeField b.toNat 1 1 bs
        if bs = [] then some (.kind a.toNat m e) else none
      else none
    else none
  | _ => none

end Machine

end Sys2Proof
end

