-- ==== Sys2Proof/Machine/Flags.lean ====
section
/-! DEFINITION. Codes and field encodings of what the part answers (spec 09, Field encodings in commands
and result data; Codes), the frame check (R173), and the properties of an alarm kind (R154). -/

namespace Sys2Proof.Machine

/-! ## Numbers to bytes, most significant byte first -/

/-- `w` bytes of a number. -/
def beBytes : Nat → Nat → List Byte
  | 0, _ => []
  | w + 1, n => BitVec.ofNat 8 (n / 256 ^ w) :: beBytes w n

/-- One byte. -/
def u8 (n : Nat) : List Byte := beBytes 1 n
/-- Two bytes. -/
def u16 (n : Nat) : List Byte := beBytes 2 n
/-- Three bytes. -/
def u24 (n : Nat) : List Byte := beBytes 3 n
/-- Four bytes. -/
def u32 (n : Nat) : List Byte := beBytes 4 n
/-- Two bytes, signed, two's complement. -/
def i16 (n : Int) : List Byte := u16 (n % 65536).toNat
/-- A flag: 0 no, 1 yes. -/
def flag (b : Bool) : List Byte := if b then [1#8] else [0#8]
/-- A rate class or ceiling: 0 for none. -/
def classByte : Option RateClass → List Byte
  | some c => u8 c.num
  | none => [0#8]
/-- A name with its length byte. -/
def nameBytes (n : List Byte) : List Byte := u8 n.length ++ n
/-- Seconds left on a timer, rounded up; 0xFFFF for stopped. -/
def secsLeft16 (now : Nat) : Option Nat → List Byte
  | some due => u16 ((due - now + 999) / 1000)
  | none => u16 0xFFFF
/-- An RPM; 0xFFFFFF for none. -/
def rpmBytes : Option Nat → List Byte
  | some r => u24 r
  | none => u24 0xFFFFFF
/-- A raw or reference code; 0xFFFF for none. -/
def codeBytes : Option RawCode → List Byte
  | some c => u16 c.toNat
  | none => u16 0xFFFF
/-- A member (spec 09, Field encodings). -/
def Member.bytes : Member → List Byte
  | .port p => [0#8] ++ u8 p.val
  | .range b l => [1#8] ++ u24 b.toNat ++ u24 l.toNat

/-! ## Codes -/

/-- Port state codes. -/
def PortState.code : PortState → Nat
  | .absent => 0 | .disabled => 1 | .unseated => 2 | .powerWait => 3 | .linkWait => 4 | .online => 5
  | .draining _ _ => 6 | .shed => 7 | .fault => 8

/-- Seat binding codes. -/
def Binding.code : Binding → Nat
  | .none => 0 | .licence _ => 1 | .counted => 2 | .drainHold => 3

/-- Drain target codes; a port that does not drain has none. -/
def PortState.targetCode : PortState → Nat
  | .draining .disabled _ => 1
  | .draining .unseated _ => 2
  | _ => 0

/-- Default access codes. -/
def Access.code : Access → Nat
  | .none => 0 | .all => 1

/-- The default access of a value, none where it is neither. -/
def Access.ofNat? : Nat → Option Access
  | 0 => some .none | 1 => some .all
  | _ => none

/-- Commit state codes. -/
def Commit.code : Commit → Nat
  | .idle => 0 | .armed => 1 | .validating _ => 2

/-- Licence state codes. -/
def LicState.code : LicState → Nat
  | .active => 0 | .expired => 1 | .revoked => 2

/-- Channel kind codes. -/
def ChanKind.code : ChanKind → Nat
  | .temperature => 0 | .voltage => 1

/-- The channel kind of a value. -/
def ChanKind.ofNat? : Nat → Option ChanKind
  | 0 => some .temperature | 1 => some .voltage
  | _ => none

/-- Role codes. -/
def Role.code : Role → Nat
  | .none => 0 | .inlet => 1 | .cooling => 2 | .critical => 3

/-- The role of a value. -/
def Role.ofNat? : Nat → Option Role
  | 0 => some .none | 1 => some .inlet | 2 => some .cooling | 3 => some .critical
  | _ => none

/-- Scanner state codes. -/
def Scanner.code : Scanner → Nat
  | .off => 0 | .settling _ => 1 | .converting _ => 2 | .resting _ => 3

/-- Trust codes. -/
def Trust.code : Trust → Nat
  | .unproven => 0 | .trusted => 1 | .lost => 2

/-- Slot state codes. -/
def SlotState.code : SlotState → Nat
  | .unknown => 0 | .absent => 1 | .good => 2 | .fault => 3

/-- Tray state codes. -/
def TrayState.code : TrayState → Nat
  | .absent => 0 | .good => 1 | .failed => 2

/-- Supply mode codes. -/
def SupplyMode.code : SupplyMode → Nat
  | .spareOne => 0 | .combined => 1

/-- The supply mode of a value. -/
def SupplyMode.ofNat? : Nat → Option SupplyMode
  | 0 => some .spareOne | 1 => some .combined
  | _ => none

/-- Grant wait list kind codes. -/
def WaitKind.code : WaitKind → Nat
  | .powerWait => 0 | .shed => 1

/-- Alarm entry state codes. -/
def EntryState.code : EntryState → Nat
  | .raised => 0 | .acknowledged => 1 | .clearedUnack => 2

/-- Severity codes; Minor < Major < Critical (R154). -/
def Severity.code : Severity → Nat
  | .minor => 0 | .major => 1 | .critical => 2

/-- Relay mode codes. -/
def RelayMode.code : RelayMode → Nat
  | .held => 0 | .pulsed => 1

/-- The relay mode of a value. -/
def RelayMode.ofNat? : Nat → Option RelayMode
  | 0 => some .held | 1 => some .pulsed
  | _ => none

/-- Transition codes. -/
def Transition.code : Transition → Nat
  | .raised => 0 | .cleared => 1 | .event => 2

/-- Notice kind or event codes. -/
def NoticeKind.code : NoticeKind → Nat
  | .alarm k => k.code.val
  | .commitDone => 20 | .commitFailed => 21 | .editExpired => 22 | .restartComplete => 23

/-- Section codes: 0 Settings, 1 Zones, 2 Licences. -/
def SectionImage.code : SectionImage → Nat
  | .settings _ => 0 | .zones _ => 1 | .licences _ => 2

/-- Writer state codes. -/
def Writer.code : Writer → Nat
  | .idle => 0 | .held => 1 | .writing _ => 2

/-- The section the writer writes; 0xFF for none. -/
def Writer.sectionCode : Writer → Nat
  | .writing i => i.code
  | _ => 0xFF

/-- Standby monitor codes; a part in Lost answers nothing (R190). -/
def Monitor.code : Monitor → Nat
  | .normal => 0 | .low => 1 | .lost => 1

/-- Reset cause codes. -/
def ResetCause.code : ResetCause → Nat
  | .powerOn => 0 | .lossOfRetention => 1 | .line => 2 | .command => 3

/-- Verdict outcome codes. -/
def VerdictOutcome.code : VerdictOutcome → Nat
  | .permit => 0 | .denyZone => 1 | .denyPort => 2 | .denySource => 3 | .denyOverload => 4

/-- Login result codes. -/
def LoginResult.code : LoginResult → Nat
  | .accepted => 0 | .rejectedFull => 1 | .rejectedPortLimit => 2 | .rejectedPortState => 3

/-- Status codes. Armed is not carried on the link (R180); no response holds it. -/
def Status.code : Status → Nat
  | .done => 0 | .started => 1 | .busy => 2 | .skipped => 3 | .refusedPrivilege => 4
  | .refusedState => 5 | .refusedRange => 6 | .refusedFull => 7 | .refusedDuplicate => 8
  | .refusedClaimed => 9 | .refusedNoClaim => 10 | .refusedUnknown => 11 | .armed => 1

/-- R180: whether a status leaves the list going on. -/
def Status.goesOn : Status → Bool
  | .done | .started | .armed => true
  | _ => false

/-! ## Alarm kinds (R154) -/

/-- The severity of a kind (R154). -/
def severityOf : AlarmKind → Severity
  | .thermalEmergency => .critical
  | .fanTrayFailed | .fanTrayAbsent | .supplyFault | .redundancyLost | .overTemperature | .overVoltage
  | .underVoltage | .sensorTrustLost | .powerShedActive | .licenseExpired | .storeFault | .supplyDip => .major
  | .supplyAbsent | .underTemperature | .powerWait | .licenseExpiryNear | .graceRunning
  | .zoneCommitFailed | .alarmTableFull => .minor

/-- Whether a kind is latched (R154). -/
def latchedKind : AlarmKind → Bool
  | .fanTrayFailed | .supplyFault | .sensorTrustLost | .licenseExpired | .zoneCommitFailed | .storeFault
  | .supplyDip => true
  | .fanTrayAbsent | .supplyAbsent | .redundancyLost | .overTemperature | .underTemperature
  | .overVoltage | .underVoltage | .thermalEmergency | .powerShedActive | .powerWait
  | .licenseExpiryNear | .graceRunning | .alarmTableFull => false

/-- Whether a subject is one that the kind's subject takes (R154; a kind without subject takes 0). -/
def subjectOk (k : AlarmKind) (n : Nat) : Bool :=
  match k with
  | .fanTrayFailed | .fanTrayAbsent => n ≤ 7
  | .supplyFault | .supplyAbsent => n ≤ 3
  | .overTemperature | .underTemperature | .overVoltage | .underVoltage | .thermalEmergency => n ≤ 15
  | .licenseExpiryNear | .licenseExpired => 1 ≤ n && n ≤ 65535
  | .storeFault => n ≤ 2
  | .redundancyLost | .sensorTrustLost | .powerShedActive | .powerWait | .graceRunning
  | .zoneCommitFailed | .supplyDip | .alarmTableFull => n == 0

/-! ## The frame check (R173) -/

/-- One bit of the CRC: polynomial 0x1021, most significant bit first. -/
def crcBit (crc : Word16) : Word16 :=
  if crc.msb then (crc <<< 1) ^^^ 0x1021#16 else crc <<< 1

/-- One byte of the CRC. -/
def crcByte (crc : Word16) (b : Byte) : Word16 :=
  let c := crc ^^^ (b.setWidth 16 <<< 8)
  crcBit (crcBit (crcBit (crcBit (crcBit (crcBit (crcBit (crcBit c)))))))

/-- The frame check over header and body: initial value 0xFFFF, no final inversion (R173). -/
def frameCheck (bs : List Byte) : Word16 := bs.foldl crcByte 0xFFFF#16

/-- A frame: kind, body length, body, check (spec 09, Frame). -/
def frameOf (kind : Byte) (body : List Byte) : List Byte :=
  let head := kind :: (u16 body.length ++ body)
  head ++ u16 (frameCheck head).toNat

/-! ## Outbound frames (spec 09, Message kinds and bodies) -/

/-- A result entry: status, data length, data. -/
def Result.bytes (r : Result) : List Byte := u8 r.status.code ++ u16 r.data.length ++ r.data

/-- The message kind code of an outbound frame. -/
def OutFrame.kindCode : OutFrame → Byte
  | .verdict _ => 0x21#8
  | .loginAnswer _ _ _ => 0x22#8
  | .permitFlush _ => 0x23#8
  | .portControl _ _ => 0x24#8
  | .response _ => 0x25#8
  | .notice _ _ => 0x26#8

/-- The body of an outbound frame. -/
def OutFrame.body : OutFrame → List Byte
  | .verdict v =>
    u16 v.tag.toNat ++ u8 v.outcome.code ++ u16 v.generation.toNat
      ++ (match v.zone with | some z => u16 z | none => [])
  | .loginAnswer p a r => u8 p.val ++ u24 a.toNat ++ u8 r.code
  | .permitFlush g => u16 g.toNat
  | .portControl p .disable => u8 p.val ++ [0#8] ++ [0#8]
  | .portControl p (.enable c) => u8 p.val ++ [1#8] ++ u8 c.num
  | .response r =>
    u16 r.origin.toNat ++ u16 r.number.toNat ++ u24 r.addr.toNat ++ u8 r.entries.length
      ++ r.entries.flatMap Result.bytes
  | .notice n a =>
    u16 n.addressee.toNat ++ u24 a.toNat ++ u8 n.kind.code ++ u24 n.subject ++ u8 n.severity.code
      ++ u8 n.transition.code ++ u32 n.seconds ++ flag n.overflow

/-- The bytes of an outbound frame on the link, with its check (R173). -/
def OutFrame.bytes (f : OutFrame) : List Byte := frameOf f.kindCode f.body

end Sys2Proof.Machine
end

