-- ==== Sys2Proof/Decode.lean ====
section
/-! DEFINITION. The words of the table, and the inbound frames of the Core Link.

No row of spec/opcode_table.json has bits, so no word spells a command. What does have an encoding are the
frames of spec 09: `parseFrame` reads the bytes of one inbound frame as LINK does (R173), answering none for a
frame it discards, and `Instr.frame?` writes them. -/

namespace Sys2Proof

/-- The command that a word spells by the table's bits: none, since no row has any (log entry 35). -/
def decodeTableWord (_nbits _w : Nat) : Option Instr := none

/-- `n` command entries that fill the bytes (spec 09, Command and result entries). -/
def takeEntries : Nat → List Byte → Option (List CmdEntry)
  | 0, [] => some []
  | 0, _ :: _ => none
  | n + 1, c :: l :: bs =>
    if bs.length < l.toNat then none
    else (takeEntries n (bs.drop l.toNat)).map (fun es => ⟨c, bs.take l.toNat⟩ :: es)
  | _ + 1, _ => none

/-- A fabric address from its three bytes. -/
def addrOf (a b c : Byte) : Addr := BitVec.ofNat 24 (Machine.beNat [a, b, c])

/-- A two-byte field from its bytes. -/
def wordOf (a b : Byte) : Word16 := BitVec.ofNat 16 (Machine.beNat [a, b])

/-- A Port Event body: port, event code, parameter (spec 09, Message kinds and bodies). -/
def parsePortEvent : List Byte → Option Instr
  | [p, e, k] => if e = 0#8 then some (.linkUp p.toFin k) else none
  | [p, e] =>
    if e = 1#8 then some (.linkDown p.toFin)
    else if e = 2#8 then some (.portFault p.toFin)
    else if e = 3#8 then some (.faultCleared p.toFin)
    else none
  | [p, e, a, b, c] =>
    if e = 4#8 then some (.login p.toFin (addrOf a b c))
    else if e = 5#8 then some (.logout p.toFin (addrOf a b c))
    else none
  | _ => none

/-- An Admission Query body. -/
def parseQuery : List Byte → Option Instr
  | [t1, t2, p, s1, s2, s3, d1, d2, d3, k] =>
    some (.admissionQuery (wordOf t1 t2) p.toFin (addrOf s1 s2 s3) (addrOf d1 d2 d3) k)
  | _ => none

/-- A Blade Event body. -/
def parseBlade : List Byte → Option Instr
  | [b, e] =>
    if e = 0#8 then some (.bladeEventInserted b)
    else if e = 1#8 then some (.bladeEventRemoved b)
    else none
  | _ => none

/-- A Management Request body. -/
def parseRequest : List Byte → Option Instr
  | o1 :: o2 :: pv :: n1 :: n2 :: k :: bs =>
    (takeEntries k.toNat bs).map (.managementRequest (wordOf o1 o2) pv (wordOf n1 n2))
  | _ => none

/-- The body of a frame by its kind; none for a kind that is not one of the four inbound kinds. -/
def parseBody (kind : Byte) (body : List Byte) : Option Instr :=
  if kind = 0x11#8 then parseQuery body
  else if kind = 0x12#8 then parsePortEvent body
  else if kind = 0x13#8 then parseBlade body
  else if kind = 0x14#8 then parseRequest body
  else none

/-- R173: the command of an inbound frame; none for one that LINK discards: a check that does not match, a
kind that is not inbound, a wrong length, or a field out of its range. -/
def parseFrame : List Byte → Option Instr
  | k :: l1 :: l2 :: rest =>
    let n := Machine.beNat [l1, l2]
    let head := k :: l1 :: l2 :: rest.take n
    if rest.length = n + 2 ∧ rest.drop n = Machine.u16 (Machine.frameCheck head).toNat then
      (parseBody k (rest.take n)).filter Instr.wf
    else none
  | _ => none

/-- The bytes of a command entry. -/
def CmdEntry.bytes (c : CmdEntry) : List Byte := c.code :: (Machine.u8 c.params.length ++ c.params)

/-- A port's byte. -/
def portByte (p : PortId) : Byte := BitVec.ofFin p

/-- Kind and body of the frame that carries a command; none for a command that is no frame. -/
def Instr.body? : Instr → Option (Byte × List Byte)
  | .admissionQuery t p s d k =>
    some (0x11#8, Machine.u16 t.toNat ++ portByte p :: (Machine.u24 s.toNat ++ Machine.u24 d.toNat ++ [k]))
  | .linkUp p k => some (0x12#8, [portByte p, 0#8, k])
  | .linkDown p => some (0x12#8, [portByte p, 1#8])
  | .portFault p => some (0x12#8, [portByte p, 2#8])
  | .faultCleared p => some (0x12#8, [portByte p, 3#8])
  | .login p a => some (0x12#8, portByte p :: 4#8 :: Machine.u24 a.toNat)
  | .logout p a => some (0x12#8, portByte p :: 5#8 :: Machine.u24 a.toNat)
  | .bladeEventInserted b => some (0x13#8, [b, 0#8])
  | .bladeEventRemoved b => some (0x13#8, [b, 1#8])
  | .managementRequest o pv n cs =>
    some (0x14#8, Machine.u16 o.toNat ++ pv :: (Machine.u16 n.toNat ++ Machine.u8 cs.length ++ cs.flatMap CmdEntry.bytes))
  | _ => none

/-- The bytes of the inbound frame that carries a command (spec 09, Frame). -/
def Instr.frame? (i : Instr) : Option (List Byte) := i.body?.map (fun f => Machine.frameOf f.1 f.2)

end Sys2Proof
end

