-- ==== Sys2Proof/Machine/Ops.lean ====
section
/-! DEFINITION. Named operations over the chassis state: the alarm unit (chapter 8), the login table
(chapter 2), the port-control slots (R177), port records (R1), the grant wait list (R147) and seats (R83),
each alone. What ties the blocks together stands in Port, Seat and Power. -/

namespace Sys2Proof.Machine

/-- What an operation on the chassis reads and never changes: the settings in force, the millisecond
clock, the running seconds, and whether the link is UP. -/
structure Ctx where
  cfg     : Settings
  clockMs : Nat
  seconds : Nat
  linkUp  : Bool
  deriving DecidableEq, Repr

/-! ## ALM: notices (R164, R165) -/

/-- R165: a notice joins the queue of at most 32. Into a full queue it takes the place of the newest
notice of lower severity and is marked; where there is none it is lost and the newest notice is marked. -/
def enqueueNotice (n : Notice) (q : List Notice) : List Notice :=
  if q.length < Config.noticeCap then q ++ [n]
  else if q.any (fun m => m.severity.code < n.severity.code) then
    (q.reverse.eraseP (fun m => m.severity.code < n.severity.code)).reverse ++ [{ n with overflow := true }]
  else
    match q.reverse with
    | [] => []
    | m :: r => ({ m with overflow := true } :: r).reverse

/-- R164: a notice is formed while the notice origin is not 0. -/
def Alm.notify (x : Ctx) (k : NoticeKind) (subject : Nat) (sev : Severity) (t : Transition) (a : Alm) : Alm :=
  if x.cfg.noticeOrigin = 0#16 then a
  else { a with notices := enqueueNotice ⟨x.cfg.noticeOrigin, k, subject, sev, t, x.seconds, false⟩ a.notices }

/-- The notice of an alarm's raise or clear (R164). -/
def Alm.notifyAlarm (x : Ctx) (k : AlarmKind) (subject : Nat) (t : Transition) (a : Alm) : Alm :=
  a.notify x (.alarm k) subject (severityOf k) t

/-- The notice of an event, Minor (R164). -/
def Alm.notifyEvent (x : Ctx) (k : NoticeKind) (subject : Nat) (a : Alm) : Alm :=
  a.notify x k subject .minor .event

/-! ## ALM: raise and clear (R156 to R158) -/

/-- Whether an entry stands under a key. -/
def AlarmEntry.hasKey (k : AlarmKind) (subject : Nat) (e : AlarmEntry) : Bool :=
  e.kind == k && e.subject == subject

/-- The entry under a key, outside the reserved place. -/
def Alm.entry? (a : Alm) (k : AlarmKind) (subject : Nat) : Option AlarmEntry :=
  a.entries.find? (AlarmEntry.hasKey k subject)

/-- R156: a new entry, Raised, with its raise time and its pulse timer started (R163: 2 s). -/
def AlarmEntry.new (x : Ctx) (k : AlarmKind) (subject : Nat) : AlarmEntry :=
  ⟨k, subject, .raised, x.seconds, some (x.clockMs + Config.pulseMs)⟩

/-- R156, R157: a raise request. A raise refused by the full table raises Alarm Table Full. -/
def Alm.raise (x : Ctx) (k : AlarmKind) (subject : Nat) (a : Alm) : Alm :=
  if a.entries.any (AlarmEntry.hasKey k subject) then a
  else if a.entries.length < Config.alarmCap then
    Alm.notifyAlarm x k subject .raised { a with entries := a.entries ++ [AlarmEntry.new x k subject] }
  else
    match a.full with
    | some _ => a
    | none =>
      Alm.notifyAlarm x .alarmTableFull 0 .raised
        { a with full := some (AlarmEntry.new x .alarmTableFull 0) }

/-- R157: a removal that leaves fewer than 64 entries ends Alarm Table Full. -/
def Alm.freed (x : Ctx) (a : Alm) : Alm :=
  if a.full.isSome && a.entries.length < Config.alarmCap then
    Alm.notifyAlarm x .alarmTableFull 0 .cleared { a with full := none }
  else a

/-- The entry under a key takes a state. -/
def Alm.setState (k : AlarmKind) (subject : Nat) (st : EntryState) (a : Alm) : Alm :=
  { a with entries := a.entries.map (fun e => if e.hasKey k subject then { e with state := st } else e) }

/-- The entry under a key leaves the table. -/
def Alm.remove (k : AlarmKind) (subject : Nat) (a : Alm) : Alm :=
  { a with entries := a.entries.filter (fun e => !e.hasKey k subject) }

/-- R158: a clear request. -/
def Alm.clear (x : Ctx) (k : AlarmKind) (subject : Nat) (a : Alm) : Alm :=
  match a.entry? k subject with
  | none => a
  | some e =>
    match e.state with
    | .clearedUnack => a
    | .raised =>
      if latchedKind k then Alm.notifyAlarm x k subject .cleared (a.setState k subject .clearedUnack)
      else Alm.freed x (Alm.notifyAlarm x k subject .cleared (a.remove k subject))
    | .acknowledged => Alm.freed x (Alm.notifyAlarm x k subject .cleared (a.remove k subject))

/-- Raise or clear, by whether a condition begins or ends. -/
def Alm.judge (x : Ctx) (k : AlarmKind) (subject : Nat) (stood stands : Bool) (a : Alm) : Alm :=
  match stood, stands with
  | false, true => a.raise x k subject
  | true, false => a.clear x k subject
  | _, _ => a

/-- R159: what Acknowledge does to one entry: a Raised one becomes Acknowledged and its pulse timer stops,
a Cleared-Unacknowledged one is removed, an Acknowledged one stays. -/
def AlarmEntry.acknowledge (e : AlarmEntry) : Option AlarmEntry :=
  match e.state with
  | .raised => some { e with state := .acknowledged, pulse := none }
  | .clearedUnack => none
  | .acknowledged => some e

/-- R159: Acknowledge on the entries that `p` picks. -/
def Alm.acknowledgeWhere (x : Ctx) (p : AlarmEntry → Bool) (a : Alm) : Alm :=
  Alm.freed x
    { a with
      entries := a.entries.filterMap (fun e => if p e then e.acknowledge else some e)
      full := match a.full with
        | some e => if p e then e.acknowledge else some e
        | none => none }

/-- R160: the standby monitor's raise of Supply Dip, which sets the dip flag whatever it does to the
entry. -/
def Alm.dipRaise (x : Ctx) (a : Alm) : Alm := { a.raise x .supplyDip 0 with dip := true }

/-- R160: the standby monitor's clear of Supply Dip. -/
def Alm.dipClear (x : Ctx) (a : Alm) : Alm := { a.clear x .supplyDip 0 with dip := false }

/-- R163: whether an entry drives its severity's line at a relay setting. -/
def AlarmEntry.drives (relays : Vector RelayCfg 20) (e : AlarmEntry) : Bool :=
  let r := relays[e.kind.code.val]
  r.enable &&
    match r.mode with
    | .held => e.state == .raised || e.state == .clearedUnack
    | .pulsed => e.state == .raised && e.pulse.isSome

/-- R163: whether the line of a severity is driven. -/
def Alm.lineDriven (relays : Vector RelayCfg 20) (sev : Severity) (a : Alm) : Bool :=
  (a.entries ++ a.full.toList).any (fun e => severityOf e.kind == sev && e.drives relays)

/-! ## The chassis: alarms -/

/-- A raise request from a block of the chassis. -/
def Chassis.raise (x : Ctx) (k : AlarmKind) (subject : Nat) (c : Chassis) : Chassis :=
  { c with alm := c.alm.raise x k subject }

/-- A clear request from a block of the chassis. -/
def Chassis.clear (x : Ctx) (k : AlarmKind) (subject : Nat) (c : Chassis) : Chassis :=
  { c with alm := c.alm.clear x k subject }

/-! ## PORT: records -/

/-- The record of a port. -/
def Chassis.port (c : Chassis) (p : PortId) : PortRec := c.ports[p.val]

/-- The record of a port takes a value. -/
def Chassis.setPort (c : Chassis) (p : PortId) (r : PortRec) : Chassis :=
  { c with ports := c.ports.set p.val r }

/-- The administrative fields of a port. -/
def Settings.port (s : Settings) (p : PortId) : PortAdmin := s.ports[p.val]

/-- R1: the blade of a port, the port number divided by 32, fraction discarded. -/
def bladeOf (p : PortId) : BladeId := ⟨p.val / 32, by omega⟩

/-- The 256 ports in ascending number. -/
def allPorts : List PortId := List.finRange 256

/-- The 32 ports of a blade in ascending number (R3, R4). -/
def portsOf (b : BladeId) : List PortId := allPorts.filter (fun p => bladeOf p == b)

/-- R2: the effective ceiling for a requested rate class and a seat ceiling. -/
def effective (req : RateClass) (seat : Option RateClass) : Option RateClass :=
  seat.map (RateClass.lower req)

/-- R5: the control state of a port: Enable with its granted class in LINK-WAIT, ONLINE and DRAINING,
Disable in every other state. -/
def PortRec.control (r : PortRec) : Control :=
  match r.state, r.granted with
  | .linkWait, some g => .enable g
  | .online, some g => .enable g
  | .draining _ _, some g => .enable g
  | _, _ => .disable

/-- Whether a port is DRAINING. -/
def PortState.isDraining : PortState → Bool
  | .draining _ _ => true
  | _ => false

/-! ## LINK: port-control slots (R177) -/

/-- R177: a control placed in a slot that holds an unsent one replaces it in place; in an empty slot it
puts its port at the tail of the pending order. -/
def placeSlot (p : PortId) (k : Control) (slots : List (PortId × Control)) : List (PortId × Control) :=
  if slots.any (fun e => e.1 == p) then slots.map (fun e => if e.1 == p then (p, k) else e)
  else slots ++ [(p, k)]

/-- R5, R177: PORT puts a Port Control in the port's slot; while the link is not UP it reaches none. -/
def Chassis.putControl (x : Ctx) (p : PortId) (k : Control) (c : Chassis) : Chassis :=
  if x.linkUp then { c with slots := placeSlot p k c.slots } else c

/-! ## ADMIT: the login table (R26) -/

/-- The number of login entries of a port. -/
def Chassis.loginCount (c : Chassis) (p : PortId) : Nat := (c.logins.filter (fun e => e.port == p)).length

/-- The port an address is logged in on. -/
def Chassis.loginOf (c : Chassis) (a : Addr) : Option PortId :=
  (c.logins.find? (fun e => e.addr == a)).map LoginEntry.port

/-- R31: every login entry of a port is removed. -/
def Chassis.removeLogins (p : PortId) (c : Chassis) : Chassis :=
  { c with logins := c.logins.filter (fun e => e.port != p) }

/-! ## PWR: demand (R139) and the grant wait list (R147, R148) -/

/-- The class draw of a rate class (R138). -/
def PowerCfg.draw (w : PowerCfg) : RateClass → Nat
  | .c1 => w.d1 | .c2 => w.d2 | .c3 => w.d3 | .c4 => w.d4

/-- The draw counted for a grant record; none draws nothing (R139). -/
def PowerCfg.drawOf (w : PowerCfg) : Option RateClass → Nat
  | some g => w.draw g
  | none => 0

/-- R139: the draw of every granted port. -/
def Chassis.portDraw (x : Ctx) (c : Chassis) : Nat :=
  (c.ports.toList.map (fun r => x.cfg.power.drawOf r.granted)).sum

/-- R139: the committed demand: chassis base, blades, trays, granted ports. -/
def Chassis.demand (x : Ctx) (c : Chassis) : Nat :=
  x.cfg.power.chassisBase + c.pwr.inputs.blades * x.cfg.power.bladeBase
    + c.pwr.inputs.present * x.cfg.power.trayDraw + c.portDraw x

/-- PWR takes a value. -/
def Chassis.setPwr (c : Chassis) (w : Pwr) : Chassis := { c with pwr := w }

/-- R147: entries renumbered from 0 in their order of joining. -/
def renumber (ws : List WaitEntry) : List WaitEntry :=
  ws.zipIdx.map (fun e => { e.1 with joinNo := e.2 })

/-- R147: a port joins the grant wait list. The first POWER-WAIT entry to stand sets the wait timer
(R148). -/
def Chassis.joinWait (x : Ctx) (p : PortId) (k : WaitKind) (c : Chassis) : Chassis :=
  let wrap : Bool := Config.joinMax < c.pwr.nextJoin
  let ws := if wrap then renumber c.pwr.waitList else c.pwr.waitList
  let n := if wrap then ws.length else c.pwr.nextJoin
  let timer :=
    if k == .powerWait && !ws.any (fun e => e.kind == .powerWait) then some (x.clockMs + Config.powerWaitMs)
    else c.pwr.waitTimer
  c.setPwr { c.pwr with waitList := ws ++ [⟨p, k, n, x.clockMs⟩], nextJoin := n + 1, waitTimer := timer }

/-- R148: the Power Wait judgement, on the earliest-joined POWER-WAIT entry. -/
def Chassis.judgePowerWait (x : Ctx) (c : Chassis) : Chassis :=
  match c.pwr.waitList.find? (fun e => e.kind == .powerWait) with
  | none =>
    let c' := if c.pwr.powerWait then c.clear x .powerWait 0 else c
    c'.setPwr { c'.pwr with powerWait := false, waitTimer := none }
  | some e =>
    if e.joinMs + Config.powerWaitMs ≤ x.clockMs then
      let c' := if c.pwr.powerWait then c else c.raise x .powerWait 0
      c'.setPwr { c'.pwr with powerWait := true, waitTimer := none }
    else
      let c' := if c.pwr.powerWait then c.clear x .powerWait 0 else c
      c'.setPwr { c'.pwr with powerWait := false, waitTimer := some (e.joinMs + Config.powerWaitMs) }

/-- Whether a port stands on the grant wait list. -/
def Chassis.onWaitList (c : Chassis) (p : PortId) : Bool := c.pwr.waitList.any (fun e => e.port == p)

/-- R147, R148: a port leaves the grant wait list; the departure of a POWER-WAIT entry is judged. -/
def Chassis.leaveWait (x : Ctx) (p : PortId) (c : Chassis) : Chassis :=
  let c' := c.setPwr { c.pwr with waitList := c.pwr.waitList.filter (fun e => e.port != p) }
  if c.pwr.waitList.any (fun e => e.port == p && e.kind == .powerWait) then c'.judgePowerWait x else c'

/-- An entry into a list that is ordered by shed priority, descending; it stands behind those of its own
priority. -/
def insertWait (prio : PortId → Nat) (e : WaitEntry) : List WaitEntry → List WaitEntry
  | [] => [e]
  | f :: fs => if prio e.port ≤ prio f.port then f :: insertWait prio e fs else e :: f :: fs

/-- R147: the grant wait list in its order, by shed priority descending and then by joining. -/
def Chassis.waitOrder (x : Ctx) (c : Chassis) : List WaitEntry :=
  c.pwr.waitList.foldl (fun acc e => insertWait (fun p => (x.cfg.port p).priority) e acc) []

/-! ## SEAT: choice and bindings (R79, R83) -/

/-- R78: a licence is in scope for a blade when its scope is empty or holds the blade. -/
def LicenceRec.inScope (l : LicenceRec) (b : BladeId) : Bool := l.scope.isEmpty || l.scope.contains b

/-- R83: a candidate is Active, has a free seat (R79) and is in scope. -/
def Licence.candidate (b : BladeId) (l : Licence) : Bool :=
  l.record.state == .active && l.bound.length < l.record.seats && l.record.inScope b

/-- R83: the rank of a candidate for a requested rate class; the lowest is chosen. Ceilings at or above
the request come first, the lowest of them before the others; below it, the highest first; then Permanent
before Term; then the lower id. -/
def LicenceRec.rank (r : RateClass) (l : LicenceRec) : Nat :=
  let ceil := if r.num ≤ l.ceiling.num then l.ceiling.num else 16 - l.ceiling.num
  (ceil * 2 + (if l.term.isSome then 1 else 0)) * 65536 + l.id.toNat

/-- The element of lowest rank, the first of equals. -/
def lowest {α : Type} (rank : α → Nat) : List α → Option α
  | [] => none
  | a :: as =>
    match lowest rank as with
    | none => some a
    | some b => if rank b < rank a then some b else some a

/-- R83: seat choice for a port. -/
def Chassis.seatChoice (x : Ctx) (p : PortId) (c : Chassis) : Option LicenceRec :=
  (lowest (fun l => l.record.rank (x.cfg.port p).reqClass) (c.licences.filter (Licence.candidate (bladeOf p)))).map
    Licence.record

/-- A change of the record with an id. -/
def Chassis.onLicence (id : Word16) (f : Licence → Licence) (c : Chassis) : Chassis :=
  { c with licences := c.licences.map (fun l => if l.record.id == id then f l else l) }

/-- R79: a port joins the tail of a licence's bound seat list. -/
def Chassis.bindSeat (id : Word16) (p : PortId) (c : Chassis) : Chassis :=
  c.onLicence id (fun l => { l with bound := l.bound ++ [p] })

/-- R79: a port leaves a licence's bound seat list. -/
def Chassis.unbindSeat (id : Word16) (p : PortId) (c : Chassis) : Chassis :=
  c.onLicence id (fun l => { l with bound := l.bound.filter (fun q => q != p) })

/-- The grace record of a port (R89). -/
def Chassis.graceOf (c : Chassis) (p : PortId) : Nat := c.grace[p.val]

/-- R89: a grace record takes a value; each change marks the Licences section dirty. -/
def Chassis.setGrace (p : PortId) (n : Nat) (c : Chassis) : Chassis :=
  if c.graceOf p = n then c else { c with grace := c.grace.set p.val n, licencesDirty := true }

/-- Whether a binding is a grace binding of either kind. -/
def Binding.isGrace : Binding → Bool
  | .counted | .drainHold => true
  | _ => false

/-- The number of ports whose binding is `b`. -/
def Chassis.bindingCount (b : Binding) (c : Chassis) : Nat :=
  (c.ports.toList.filter (fun r => r.binding == b)).length

/-- R90: Grace Running stands while at least one port holds a grace binding of either kind. -/
def Chassis.judgeGrace (x : Ctx) (c : Chassis) : Chassis :=
  let stands := c.ports.toList.any (fun r => r.binding.isGrace)
  { c with graceRunning := stands, alm := c.alm.judge x .graceRunning 0 c.graceRunning stands }

/-- R86: a port joins the tail of the seat wait list. -/
def Chassis.joinSeatWait (p : PortId) (c : Chassis) : Chassis := { c with seatWait := c.seatWait ++ [p] }

/-- R86: a port leaves the seat wait list. -/
def Chassis.leaveSeatWait (p : PortId) (c : Chassis) : Chassis :=
  { c with seatWait := c.seatWait.filter (fun q => q != p) }

end Sys2Proof.Machine
end

