-- ==== Sys2Proof/Machine/Port.lean ====
section
/-! DEFINITION. PORT's moves (chapter 1) with what they ask of SEAT (R84, R85), PWR (R141, R142) and ADMIT
(R31).

A move can give PWR cause for an evaluation (R143) and SEAT cause for a binding pass (R87), and both can
move ports in turn. `Hooks` says what those two causes do where the move is made: outside, an evaluation
and a pass run at once; inside an evaluation a cause of evaluation is taken into the one under way (R143);
inside a pass or a rebinding a cause of a pass is kept for its end (log entry 7). -/

namespace Sys2Proof.Machine

/-- What a cause of evaluation and a cause of a binding pass do. -/
structure Hooks where
  eval : Chassis → Chassis
  pass : Chassis → Chassis

/-- A cause of a binding pass that waits for the end of the pass or rebinding under way. -/
def Chassis.markPass (c : Chassis) : Chassis := { c with passDue := true }

/-! ## PWR's side (R141, R142) -/

/-- R141: a grant request places the port on the grant wait list with kind POWER-WAIT and causes an
evaluation; for a port on the list, or whose record holds a class, it changes nothing. -/
def Chassis.grantRequest (x : Ctx) (h : Hooks) (p : PortId) (c : Chassis) : Chassis :=
  if c.onWaitList p || (c.port p).granted.isSome then c else h.eval (c.joinWait x p .powerWait)

/-- R141: a release makes the record none and takes the port off the grant wait list, and causes an
evaluation; where neither holds it changes nothing. -/
def Chassis.grantRelease (x : Ctx) (h : Hooks) (p : PortId) (c : Chassis) : Chassis :=
  if c.onWaitList p || (c.port p).granted.isSome then
    h.eval ((c.setPort p { c.port p with granted := none }).leaveWait x p)
  else c

/-! ## SEAT's side (R84, R85) -/

/-- R85: a port's seat binding is given back, and with it the record's binding, seat ceiling and effective
ceiling (R13, R17). A licence seat gives cause for a binding pass; the end of a grace binding has Grace
Running judged (R90). -/
def Chassis.seatRelease (x : Ctx) (h : Hooks) (p : PortId) (c : Chassis) : Chassis :=
  let cleared := c.setPort p { c.port p with binding := .none, seatCeil := none, effCeil := none }
  match (c.port p).binding with
  | .none => cleared
  | .licence id => h.pass (cleared.unbindSeat id p)
  | .counted => (cleared.setGrace p 0).judgeGrace x
  | .drainHold => cleared.judgeGrace x

/-- R6: a seat bound: binding and seat ceiling are set, the effective ceiling computed, the port moves to
POWER-WAIT and asks PWR for a grant. -/
def Chassis.seatBound (x : Ctx) (h : Hooks) (p : PortId) (b : Binding) (ceil : RateClass) (c : Chassis) : Chassis :=
  Chassis.grantRequest x h p
    (c.setPort p { c.port p with
      state := .powerWait, binding := b, seatCeil := some ceil,
      effCeil := effective (x.cfg.port p).reqClass (some ceil) })

/-- R84, R6: a seat request. A seat found clears a grace record; without one a stored grace remainder
becomes a counted grace binding at the requested rate class; without either the port joins the seat wait
list in UNSEATED. -/
def Chassis.seatRequest (x : Ctx) (h : Hooks) (p : PortId) (c : Chassis) : Chassis :=
  match c.seatChoice x p with
  | some l => ((c.bindSeat l.id p).setGrace p 0).seatBound x h p (.licence l.id) l.ceiling
  | none =>
    if 0 < c.graceOf p then c.seatBound x h p .counted (x.cfg.port p).reqClass
    else (c.setPort p { c.port p with state := .unseated }).joinSeatWait p

/-! ## Drains (R16 to R18) -/

/-- R17: the end of a drain toward `t`: logins removed, grant released, Port Control Disable, negotiated
class none; then the seat is released, and toward UNSEATED a seat request follows. -/
def Chassis.drainEnd (x : Ctx) (h : Hooks) (p : PortId) (t : DrainTarget) (c : Chassis) : Chassis :=
  let c := c.removeLogins p
  let c := c.grantRelease x h p
  let c := c.putControl x p .disable
  let c := c.setPort p { c.port p with state := .disabled, negotiated := none }
  let c := c.seatRelease x h p
  match t with
  | .disabled => c
  | .unseated => c.seatRequest x h p

/-- R18: a drain in progress ends at once toward its target; a port that does not drain stays. -/
def Chassis.endDrainOf (x : Ctx) (h : Hooks) (p : PortId) (c : Chassis) : Chassis :=
  match (c.port p).state with
  | .draining t _ => c.drainEnd x h p t
  | _ => c

/-- R16: a drain starts toward `t` with the port's drain time; without logins, or with drain time 0, it
ends in the same event. -/
def Chassis.startDrain (x : Ctx) (h : Hooks) (p : PortId) (t : DrainTarget) (c : Chassis) : Chassis :=
  let secs := (x.cfg.port p).drainSecs
  let c := c.setPort p { c.port p with state := .draining t (x.clockMs + secs * 1000) }
  if secs = 0 || c.loginCount p = 0 then c.drainEnd x h p t else c

/-- R17, R28, R30: after a login has left a port, a drain whose last login that was ends. -/
def Chassis.afterLoginRemoved (x : Ctx) (h : Hooks) (p : PortId) (c : Chassis) : Chassis :=
  if c.loginCount p = 0 then c.endDrainOf x h p else c

/-! ## Ceilings (R14, R22) -/

/-- R14, R22: the port is re-enabled lower: the grant record is reduced in place to `e` (R142), the port
moves to LINK-WAIT, Port Control Enable at `e` is put in its slot, logins and negotiated class go, and the
reduction causes an evaluation. -/
def Chassis.reenableLower (x : Ctx) (h : Hooks) (p : PortId) (e : RateClass) (c : Chassis) : Chassis :=
  let c := c.setPort p { c.port p with granted := some e, state := .linkWait, negotiated := none }
  let c := c.putControl x p (.enable e)
  let c := c.removeLogins p
  h.eval c

/-- R14, R22: what follows a change of the effective ceiling. Where the port holds a grant above it, a
port in LINK-WAIT or ONLINE is re-enabled lower and a drain ends. -/
def Chassis.ceilingFell (x : Ctx) (h : Hooks) (p : PortId) (c : Chassis) : Chassis :=
  let r := c.port p
  match r.granted, r.effCeil with
  | some g, some e =>
    if e.num < g.num then
      match r.state with
      | .linkWait => c.reenableLower x h p e
      | .online => c.reenableLower x h p e
      | .draining t _ => c.drainEnd x h p t
      | _ => c
    else c
  | _, _ => c

/-- R22: a seat notice sets binding and seat ceiling and computes the effective ceiling again. -/
def Chassis.seatNotice (x : Ctx) (h : Hooks) (p : PortId) (b : Binding) (ceil : Option RateClass) (c : Chassis) :
    Chassis :=
  Chassis.ceilingFell x h p
    (c.setPort p { c.port p with
      binding := b, seatCeil := ceil, effCeil := effective (x.cfg.port p).reqClass ceil })

/-- R23: a seat loss without grace. In LINK-WAIT and ONLINE the binding becomes a drain-hold grace binding
and a drain toward UNSEATED starts; a drain goes on with a drain-hold binding; POWER-WAIT, SHED and FAULT
move straight to UNSEATED, at the tail of the seat wait list and off the grant wait list. -/
def Chassis.seatLoss (x : Ctx) (h : Hooks) (p : PortId) (c : Chassis) : Chassis :=
  let r := c.port p
  match r.state with
  | .linkWait => (c.setPort p { r with binding := .drainHold }).startDrain x h p .unseated
  | .online => (c.setPort p { r with binding := .drainHold }).startDrain x h p .unseated
  | .draining _ _ => c.setPort p { r with binding := .drainHold }
  | .powerWait | .shed | .fault =>
    let c := c.setPort p { r with state := .unseated, binding := .none, seatCeil := none, effCeil := none }
    (c.joinSeatWait p).grantRelease x h p
  | .absent | .disabled | .unseated => c

/-! ## Grants and revocations at PORT (R7, R20) -/

/-- R7: a grant, or a restore grant: granted class, LINK-WAIT, Port Control Enable at that class. -/
def Chassis.takeGrant (x : Ctx) (p : PortId) (g : RateClass) (c : Chassis) : Chassis :=
  (c.setPort p { c.port p with state := .linkWait, granted := some g }).putControl x p (.enable g)

/-- R145, R20: a revocation. The record becomes none; LINK-WAIT and ONLINE move to SHED, with Port Control
Disable, logins removed, and a SHED entry on the grant wait list; a drain ends toward its target. -/
def Chassis.revoke (x : Ctx) (h : Hooks) (p : PortId) (c : Chassis) : Chassis :=
  let r := c.port p
  let shed : Chassis :=
    (((c.setPort p { r with state := .shed, granted := none, negotiated := none }).putControl x p .disable).removeLogins
      p).joinWait x p .shed
  match r.state with
  | .linkWait => shed
  | .online => shed
  | .draining t _ => (c.setPort p { r with granted := none }).drainEnd x h p t
  | _ => c.setPort p { r with granted := none }

/-! ## Port events (R8 to R11) -/

/-- R8: Link Up with a rate class. -/
def Chassis.linkUp (p : PortId) (k : RateClass) (c : Chassis) : Chassis :=
  let r := c.port p
  match r.state with
  | .linkWait => c.setPort p { r with state := .online, negotiated := some k }
  | .online => c.setPort p { r with negotiated := some k }
  | .draining _ _ => c.setPort p { r with negotiated := some k }
  | _ => c

/-- R9: Link Down. -/
def Chassis.linkDown (x : Ctx) (h : Hooks) (p : PortId) (c : Chassis) : Chassis :=
  let r := c.port p
  match r.state with
  | .online => (c.setPort p { r with state := .linkWait, negotiated := none }).removeLogins p
  | .draining t _ => c.drainEnd x h p t
  | _ => c

/-- R10: Port Fault. -/
def Chassis.portFault (x : Ctx) (h : Hooks) (p : PortId) (c : Chassis) : Chassis :=
  let toFault : Chassis :=
    let c := c.setPort p { c.port p with state := .fault }
    let c := c.grantRelease x h p
    let c := c.putControl x p .disable
    let c := c.removeLogins p
    c.setPort p { c.port p with negotiated := none }
  match (c.port p).state with
  | .linkWait => toFault
  | .online => toFault
  | .draining t _ => c.drainEnd x h p t
  | _ => c

/-- R11: Fault Cleared. -/
def Chassis.faultCleared (x : Ctx) (h : Hooks) (p : PortId) (c : Chassis) : Chassis :=
  match (c.port p).state with
  | .fault => (c.setPort p { c.port p with state := .powerWait }).grantRequest x h p
  | _ => c

/-! ## Port Enable and Port Disable (R12, R13), the admin state apart -/

/-- R12: what Port Enable does to the port. -/
def Chassis.enablePort (x : Ctx) (h : Hooks) (p : PortId) (c : Chassis) : Chassis :=
  let r := c.port p
  match r.state with
  | .disabled => c.seatRequest x h p
  | .draining .disabled due =>
    if r.binding = .drainHold then c.setPort p { r with state := .draining .unseated due }
    else c.setPort p { r with state := .online }
  | _ => c

/-- R13: what Port Disable does to the port. -/
def Chassis.disablePort (x : Ctx) (h : Hooks) (p : PortId) (c : Chassis) : Chassis :=
  let r := c.port p
  match r.state with
  | .linkWait => c.startDrain x h p .disabled
  | .online => c.startDrain x h p .disabled
  | .draining .unseated due => c.setPort p { r with state := .draining .disabled due }
  | .unseated => (c.setPort p { r with state := .disabled }).leaveSeatWait p
  | .powerWait | .shed | .fault =>
    ((c.setPort p { r with state := .disabled }).grantRelease x h p).seatRelease x h p
  | .draining .disabled _ | .disabled | .absent => c

/-! ## Blades (R3, R4) -/

/-- R4: what blade removal does to one port: the record returns to its reset values but for the
administrative fields kept in the settings; grant, seat and grace record are given back, logins removed,
and a port that was Enable gets Port Control Disable. -/
def Chassis.removePort (x : Ctx) (h : Hooks) (p : PortId) (c : Chassis) : Chassis :=
  let was := (c.port p).control
  let c := c.grantRelease x h p
  let c := c.seatRelease x h p
  let c := (c.leaveSeatWait p).setGrace p 0
  let c := c.removeLogins p
  let c := c.setPort p PortRec.reset
  if was = .disable then c else c.putControl x p .disable

end Sys2Proof.Machine
end

