-- ==== Sys2Proof/Machine/Seat.lean ====
section
/-! DEFINITION. SEAT's passes (chapter 4): the binding pass (R87), the rebind choice of revoked and expired
licences (R81, R95), grace hours (R96) and warn thresholds (R94). -/

namespace Sys2Proof.Machine

/-! ## Binding passes (R87) -/

/-- R87, first part, one port: a counted grace binding is rebound where seat choice finds a seat. -/
def Chassis.serveGrace (x : Ctx) (h : Hooks) (c : Chassis) (p : PortId) : Chassis :=
  if (c.port p).binding = .counted then
    match c.seatChoice x p with
    | some l => ((c.bindSeat l.id p).setGrace p 0).seatNotice x h p (.licence l.id) (some l.ceiling)
    | none => c
  else c

/-- R87, second part, one port of the seat wait list: where a seat is found it leaves the list and moves
from UNSEATED to POWER-WAIT (R6). -/
def Chassis.serveWaiting (x : Ctx) (h : Hooks) (c : Chassis) (p : PortId) : Chassis :=
  if c.seatWait.contains p then
    match c.seatChoice x p with
    | some l => ((c.leaveSeatWait p).bindSeat l.id p).seatBound x h p (.licence l.id) l.ceiling
    | none => c
  else c

/-- R87: one binding pass: the counted grace bindings in ascending port number, then the seat wait list
from its head to its tail. -/
def Chassis.onePass (x : Ctx) (h : Hooks) (c : Chassis) : Chassis :=
  let c := allPorts.foldl (Chassis.serveGrace x h) c
  c.seatWait.foldl (Chassis.serveWaiting x h) c

/-- A binding pass, and one more for as long as the last one released a licence seat (log entry 7). Each
such release moves a port out of DRAINING, so that 257 passes are always enough. -/
def Chassis.passes (x : Ctx) (eval : Chassis → Chassis) : Nat → Chassis → Chassis
  | 0, c => { c with passDue := false }
  | n + 1, c =>
    let c := Chassis.onePass x ⟨eval, Chassis.markPass⟩ { c with passDue := false }
    if c.passDue then Chassis.passes x eval n c else c

/-- R87: the binding pass, with what a cause of evaluation does in it. -/
def Chassis.bindingPass (x : Ctx) (eval : Chassis → Chassis) (c : Chassis) : Chassis :=
  c.passes x eval 257

/-- The binding pass, where one was caused and has not run. -/
def Chassis.passIfDue (x : Ctx) (eval : Chassis → Chassis) (c : Chassis) : Chassis :=
  if c.passDue then c.bindingPass x eval else c

/-! ## Rebinding (R81, R95) -/

/-- The record with an id. -/
def Chassis.licence? (c : Chassis) (id : Word16) : Option Licence :=
  c.licences.find? (fun l => l.record.id == id)

/-- R81, R95: one port of the taken bound seat list of licence `old` goes through the rebind choice. A seat
found binds it; otherwise a grace length above 0 gives a counted grace binding, and 0 a seat loss without
grace. A port that has given up that seat meanwhile is passed over (R85). -/
def Chassis.rebindOne (x : Ctx) (h : Hooks) (old : Word16) (graceLen : Nat) (c : Chassis) (p : PortId) : Chassis :=
  if (c.port p).binding = .licence old then
    match c.seatChoice x p with
    | some l => (c.bindSeat l.id p).seatNotice x h p (.licence l.id) (some l.ceiling)
    | none =>
      if 0 < graceLen then (c.setGrace p graceLen).seatNotice x h p .counted (c.port p).seatCeil
      else c.seatLoss x h p
  else c

/-- A licence stops being Active: its state is set, its bound seat list taken and emptied (R79), and each
port of the list goes through the rebind choice, in binding order. -/
def Chassis.unseatAll (x : Ctx) (h : Hooks) (id : Word16) (st : LicState) (graceLen : Nat) (c : Chassis) : Chassis :=
  match c.licence? id with
  | none => c
  | some l =>
    let c := c.onLicence id (fun l => ⟨{ l.record with state := st }, []⟩)
    l.bound.foldl (Chassis.rebindOne x h id graceLen) c

/-- R95: a Term licence expires. -/
def Chassis.expire (x : Ctx) (h : Hooks) (c : Chassis) (id : Word16) : Chassis :=
  let c := (c.raise x .licenseExpired id.toNat).clear x .licenseExpiryNear id.toNat
  c.unseatAll x h id .expired x.cfg.graceLen

/-- R81: an Active licence is revoked; no port is given grace. -/
def Chassis.revokeLicence (x : Ctx) (h : Hooks) (id : Word16) (c : Chassis) : Chassis :=
  (c.clear x .licenseExpiryNear id.toNat).unseatAll x h id .revoked 0

/-! ## The hour tick (R92) -/

/-- R96: one counted grace binding loses an hour; at 0 the port suffers a seat loss without grace. -/
def Chassis.graceHour (x : Ctx) (h : Hooks) (c : Chassis) (p : PortId) : Chassis :=
  if (c.port p).binding = .counted then
    let n := c.graceOf p - 1
    let c := c.setGrace p n
    if n = 0 then c.seatLoss x h p else c
  else c

/-- R92 step 1: the counted grace bindings that stand at the tick, in ascending port number. -/
def Chassis.graceHours (x : Ctx) (h : Hooks) (c : Chassis) : Chassis :=
  ((allPorts.filter (fun p => (c.port p).binding == .counted)).foldl (Chassis.graceHour x h) c).judgeGrace x

/-- R92 step 2, one licence: an Active Term licence with a bound port loses one remaining hour. -/
def Licence.hour (l : Licence) : Licence :=
  match l.record.term with
  | some t =>
    if l.record.state = .active ∧ l.bound ≠ [] then
      { l with record := { l.record with term := some { t with remaining := t.remaining - 1 } } }
    else l
  | none => l

/-- R92 step 2, with step 5 for it: where remaining hours changed the Licences section is marked dirty. -/
def Chassis.termHours (c : Chassis) : Chassis :=
  let ls := c.licences.map Licence.hour
  { c with licences := ls, licencesDirty := c.licencesDirty || ls != c.licences }

/-- R92 step 3: an Active Term licence whose remaining hours are 0. -/
def Licence.runOut (l : Licence) : Bool :=
  l.record.state == .active &&
    match l.record.term with
    | some t => t.remaining == 0
    | none => false

/-- R92 step 3: such licences expire in the order of the table. -/
def Chassis.expiries (x : Ctx) (h : Hooks) (c : Chassis) : Chassis :=
  ((c.licences.filter Licence.runOut).map (fun l => l.record.id)).foldl (Chassis.expire x h) c

/-- R94: one licence is judged against its warn threshold. -/
def Chassis.judgeWarn (x : Ctx) (c : Chassis) (l : Licence) : Chassis :=
  match l.record.term with
  | some t =>
    if l.record.state = .active then
      if t.remaining ≤ t.warn then c.raise x .licenseExpiryNear l.record.id.toNat
      else c.clear x .licenseExpiryNear l.record.id.toNat
    else c
  | none => c

/-- R92: the hour tick, in its order. A binding pass that the rebinding caused runs after the expiries
(log entry 7). -/
def Chassis.hourTick (x : Ctx) (h : Hooks) (pass : Chassis → Chassis) (c : Chassis) : Chassis :=
  let c := c.graceHours x h
  let c := c.termHours
  let c := c.expiries x h
  let c := pass c
  c.licences.foldl (Chassis.judgeWarn x) c

end Sys2Proof.Machine
end

