-- ==== Sys2Proof/Machine/Power.lean ====
section
/-! DEFINITION. The power governor (chapter 7): the budget in its stages (R135 to R137), the evaluation
(R143), the shed pass (R144, R145), the grant pass (R149, R150); and the two hooks that close the circle of
PORT, SEAT and PWR. -/

namespace Sys2Proof.Machine

/-! ## The budget (R135 to R137) -/

/-- The ratings of the Good slots (R135). -/
def PwrInputs.goodRatings (i : PwrInputs) (s : SupplyCfg) : List Nat :=
  ((i.slots.toList.zip s.ratings.toList).filter (fun e => e.1 == .good)).map Prod.snd

/-- R135, stage 1: the raw supply. In Spare-One one largest rating is left out of two or more. -/
def rawSupply (mode : SupplyMode) (good : List Nat) : Nat :=
  match mode, good with
  | .spareOne, _ :: _ :: _ => good.sum - good.foldl max 0
  | _, _ => good.sum

/-- R136, stage 2: the inlet temperature T. -/
def PwrInputs.inletT (i : PwrInputs) (w : PowerCfg) : Int :=
  match i.trust, i.inlet with
  | .trusted, some t => t
  | _, _ => w.untrustedInlet

/-- R136, stage 3: the derate factor in per-mille. -/
def derate (w : PowerCfg) (t : Int) : Nat :=
  if t ≤ (w.knee : Int) then 1000
  else max 500 (1000 - w.slope * (t - w.knee).toNat)

/-- R135 to R137, stages 1 to 6. -/
def PwrInputs.stages (i : PwrInputs) (cfg : Settings) : Stages :=
  let raw := rawSupply cfg.supply.mode (i.goodRatings cfg.supply)
  let t := i.inletT cfg.power
  let factor := derate cfg.power t
  let electrical := raw * factor / 1000
  let cooling := i.good * cfg.power.trayCapacity
  { inletT := t, raw := raw, factor := factor, electrical := electrical, cooling := cooling
    available := if i.thermal then 0 else min electrical cooling }

/-- R137, stage 7: the available power less the reserve, not below 0. -/
def Stages.budget (s : Stages) (w : PowerCfg) : Nat := s.available - w.reserve

/-- R135: the condition of Redundancy Lost. -/
def PwrInputs.redundancyLost (i : PwrInputs) (cfg : Settings) : Bool :=
  i.settled && cfg.supply.mode == .spareOne && (i.goodRatings cfg.supply).length < 2

/-! ## The shed pass (R144 to R146) -/

/-- R144: the place of a sheddable grant in the shed order, lowest first: priority, then LINK-WAIT and
DRAINING before ONLINE, then the highest port number. -/
def shedRank (prio : Nat) (st : PortState) (p : PortId) : Nat :=
  prio * 512 + (if st = .online then 256 else 0) + (255 - p.val)

/-- R144: the next grant to revoke, where one is sheddable. -/
def Chassis.nextShed (x : Ctx) (c : Chassis) : Option PortId :=
  lowest (fun p => shedRank (x.cfg.port p).priority (c.port p).state p)
    (allPorts.filter (fun p => (c.port p).granted.isSome && (x.cfg.port p).priority ≤ 6))

/-- R144, R145: revocations in shed order until the demand is within the budget or none is sheddable. Each
takes one grant away, so that 256 steps are always enough. The flag says whether any was revoked. -/
def Chassis.shedLoop (x : Ctx) (h : Hooks) (budget : Nat) : Nat → Chassis → Bool → Chassis × Bool
  | 0, c, any => (c, any)
  | n + 1, c, any =>
    if c.demand x ≤ budget then (c, any)
    else
      match c.nextShed x with
      | none => (c, any)
      | some p => Chassis.shedLoop x h budget n (c.revoke x h p) true

/-- R146: whether a SHED entry stands on the grant wait list. -/
def Pwr.hasShed (w : Pwr) : Bool := w.waitList.any (fun e => e.kind == .shed)

/-- R146: an episode opens where a SHED entry stands and none is open. -/
def Chassis.openEpisode (x : Ctx) (c : Chassis) : Chassis :=
  if c.pwr.hasShed && !c.pwr.episode then
    let c := c.raise x .powerShedActive 0
    c.setPwr { c.pwr with episode := true }
  else c

/-- R144, R146: the shed pass; one that revokes a grant starts the holdoff. -/
def Chassis.shedPass (x : Ctx) (h : Hooks) (c : Chassis) : Chassis :=
  let r := c.shedLoop x h c.pwr.budget 256 false
  let c := r.1
  if r.2 then
    (c.setPwr { c.pwr with holdoff := some (x.clockMs + x.cfg.power.holdoffSecs * 1000) }).openEpisode x
  else c

/-- R146: the episode closes where no SHED entry stands. -/
def Chassis.closeEpisode (x : Ctx) (c : Chassis) : Chassis :=
  if c.pwr.episode && !c.pwr.hasShed then
    let c := c.clear x .powerShedActive 0
    c.setPwr { c.pwr with episode := false }
  else c

/-! ## The grant pass (R149, R150) -/

/-- R149: the classes offered to a port, from the top down. -/
def offers (ceil : Option RateClass) (reducedOk : Bool) : List RateClass :=
  match ceil with
  | none => []
  | some c => if reducedOk then c.downFrom else [c]

/-- R150: whether pacing holds back further grants. -/
def Pwr.paced (w : Pwr) : Bool :=
  match w.pacing with
  | some g => Config.paceCap ≤ g.count
  | none => false

/-- R150: a grant is counted in the pacing window, and the first starts it. -/
def Pwr.countGrant (now : Nat) (w : Pwr) : Pwr :=
  { w with
    pacing := match w.pacing with
      | some g => some { g with count := g.count + 1 }
      | none => some ⟨1, now + Config.paceMs⟩ }

/-- R149: the margin: the restore margin while an episode is open. -/
def Chassis.margin (x : Ctx) (c : Chassis) : Nat := if c.pwr.episode then x.cfg.power.margin else 0

/-- R149: one entry of the grant wait list: the first class offered that fits is granted. -/
def Chassis.offerGrant (x : Ctx) (c : Chassis) (e : WaitEntry) : Chassis :=
  if c.pwr.paced then c
  else
    let fits := fun g => c.demand x + x.cfg.power.draw g + c.margin x ≤ c.pwr.budget
    match (offers (c.port e.port).effCeil (x.cfg.port e.port).reducedOk).find? fits with
    | none => c
    | some g =>
      let c := (c.takeGrant x e.port g).leaveWait x e.port
      c.setPwr (c.pwr.countGrant x.clockMs)

/-- R149: the grant pass, along the grant wait list from its head. -/
def Chassis.grantPass (x : Ctx) (c : Chassis) : Chassis := (c.waitOrder x).foldl (Chassis.offerGrant x) c

/-! ## The evaluation (R143) -/

/-- R143 steps 1 and 2: the budget is formed and Redundancy Lost judged. -/
def Chassis.formBudget (x : Ctx) (c : Chassis) : Chassis :=
  let st := c.pwr.inputs.stages x.cfg
  let lost := c.pwr.inputs.redundancyLost x.cfg
  { c with
    alm := c.alm.judge x .redundancyLost 0 c.pwr.redundancyLost lost
    pwr := { c.pwr with stages := some st, budget := st.budget x.cfg.power, redundancyLost := lost } }

/-- R143 steps 3 to 5: a shed pass where the demand is above the budget, otherwise a grant pass where the
holdoff does not run. -/
def Chassis.shedOrGrant (x : Ctx) (h : Hooks) (c : Chassis) : Chassis :=
  if c.pwr.budget < c.demand x then c.shedPass x h
  else if c.pwr.holdoff = none then c.grantPass x
  else c

/-- R143: the evaluation, with what a cause of a binding pass does in it. While supply is not settled none
runs. A cause of evaluation inside it is taken into it. -/
def Chassis.evaluateWith (x : Ctx) (pass : Chassis → Chassis) (c : Chassis) : Chassis :=
  if c.pwr.inputs.settled then
    (((c.formBudget x).shedOrGrant x ⟨id, pass⟩).closeEpisode x).judgePowerWait x
  else c

/-! ## The hooks -/

/-- The evaluation that an event causes outside any pass: a binding pass inside it runs at once, and its
causes of evaluation are taken into it (R143). -/
def Chassis.evaluate (x : Ctx) (c : Chassis) : Chassis := c.evaluateWith x (Chassis.bindingPass x id)

/-- The evaluation inside a binding pass or a rebinding: a cause of a pass waits for its end. -/
def Chassis.evaluateInPass (x : Ctx) (c : Chassis) : Chassis := c.evaluateWith x Chassis.markPass

/-- The binding pass that an event causes outside any evaluation. -/
def Chassis.pass (x : Ctx) (c : Chassis) : Chassis := c.bindingPass x (Chassis.evaluateInPass x)

/-- The hooks of an event: evaluation and pass run at once. -/
def outer (x : Ctx) : Hooks := ⟨Chassis.evaluate x, Chassis.pass x⟩

/-- The hooks inside a rebinding: evaluations run at once, a pass waits for the end. -/
def inRebind (x : Ctx) : Hooks := ⟨Chassis.evaluateInPass x, Chassis.markPass⟩

/-- The hooks of a blade's removal: neither an evaluation nor a pass runs until all 32 ports are ABSENT
(R4). -/
def recording : Hooks := ⟨id, Chassis.markPass⟩

/-! ## What the governor is told (R133) -/

/-- R133: a change is handed to PWR, which records it and evaluates. -/
def Chassis.handPwr (x : Ctx) (f : PwrInputs → PwrInputs) (c : Chassis) : Chassis :=
  (c.setPwr { c.pwr with inputs := f c.pwr.inputs }).evaluate x

/-- R133, R108: a change is recorded; one evaluation follows the last of the event's changes. -/
def Chassis.recordPwr (f : PwrInputs → PwrInputs) (c : Chassis) : Chassis :=
  c.setPwr { c.pwr with inputs := f c.pwr.inputs }

/-! ## Blades (R3, R4) -/

/-- The presence flag of a blade. -/
def Chassis.blade (c : Chassis) (b : BladeId) : Bool := c.blades[b.val]

/-- R3: a Blade Event Inserted. -/
def Chassis.insertBlade (x : Ctx) (b : BladeId) (c : Chassis) : Chassis :=
  if c.blade b then c
  else
    let c : Chassis := { c with blades := c.blades.set b.val true }
    let c := (portsOf b).foldl (fun c p => c.setPort p { c.port p with state := .disabled }) c
    let c := c.handPwr x (fun i => { i with blades := i.blades + 1 })
    ((portsOf b).filter (fun p => (x.cfg.port p).enabled)).foldl (fun c p => c.seatRequest x (outer x) p) c

/-- R4: a Blade Event Removed. -/
def Chassis.removeBlade (x : Ctx) (b : BladeId) (c : Chassis) : Chassis :=
  if c.blade b then
    let c : Chassis := { c with blades := c.blades.set b.val false }
    let c := (portsOf b).foldl (fun c p => c.removePort x recording p) c
    let c := c.handPwr x (fun i => { i with blades := i.blades - 1 })
    c.passIfDue x (Chassis.evaluateInPass x)
  else c

end Sys2Proof.Machine
end

