-- ==== Sys2Proof/Machine/Event.lean ====
section
/-! DEFINITION. One event of the whole part: what the blocks outside the chassis share, what is done at
the end of every event (the writer R187, the arbiter R176, Restart Complete R192, the lines R163 and R129),
the request processor's common part (R178 to R181), and the two resets (R191). -/

namespace Sys2Proof.Machine

/-! ## Reaching the chassis -/

/-- What the chassis reads of the rest of the part. -/
def State.ctx (s : State) : Ctx := ⟨s.cfg, s.clockMs, s.seconds, s.link.state == .up⟩

/-- An operation on the chassis. -/
def State.onChassis (f : Ctx → Chassis → Chassis) (s : State) : State :=
  { s with chassis := f s.ctx s.chassis }

/-- A raise request from a block (R156). -/
def State.raise (k : AlarmKind) (subject : Nat) (s : State) : State :=
  s.onChassis (fun x => Chassis.raise x k subject)

/-- A clear request from a block (R158). -/
def State.clear (k : AlarmKind) (subject : Nat) (s : State) : State :=
  s.onChassis (fun x => Chassis.clear x k subject)

/-- The notice of an event (R164). -/
def State.notifyEvent (k : NoticeKind) (subject : Nat) (s : State) : State :=
  s.onChassis (fun x c => { c with alm := c.alm.notifyEvent x k subject })

/-- The clock is carried forward to the millisecond at which a timer runs out (log entry 2). -/
def State.carry (dueMs : Nat) (s : State) : State := { s with clockMs := max s.clockMs dueMs }

/-- A function at each of eight places. -/
def map8 {α β : Type} (f : α → β) (v : Vector α 8) : Vector β 8 :=
  #v[f v[0], f v[1], f v[2], f v[3], f v[4], f v[5], f v[6], f v[7]]

/-! ## The lines (R129, R163) -/

/-- R129: the duty a tray's output is driven at. -/
def Fan.output (f : Fan) (t : Tray) : Nat := if t.state = .good then f.current else 100

/-- R129, R163, R190: the lines as the state gives them; below the retention level none is driven. -/
def State.linesNow (s : State) : Lines :=
  if s.store.monitor = .lost then ⟨false, false, false, Vector.replicate 8 none⟩
  else
    { crit := s.chassis.alm.lineDriven s.cfg.relays .critical
      major := s.chassis.alm.lineDriven s.cfg.relays .major
      minor := s.chassis.alm.lineDriven s.cfg.relays .minor
      fans := map8 (fun t => some (s.fan.output t)) s.fan.trays }

/-- The lines take their values. -/
def State.driveLines (s : State) : State := { s with lines := s.linesNow }

/-! ## The writer (R187) -/

/-- R78, R89: what the Licences section stores; the bound seat lists are not stored (R99). -/
def State.licenceImage (s : State) : LicenceImage := ⟨s.chassis.licences.map Licence.record, s.chassis.grace⟩

/-- R77: what the Zones section stores. -/
def State.zoneImage (s : State) : ZoneImage := ⟨s.zone.active, s.zone.generation⟩

/-- Whether a dirty mark is set. -/
def State.marked (s : State) : Bool :=
  s.chassis.licencesDirty || s.store.zonesDirty || s.store.settingsDirty

/-- R187: the start of a write, of the first marked section in the order Licences, Zones, Settings: its
mark is cleared and its contents captured. -/
def State.beginWrite (s : State) : State :=
  if s.chassis.licencesDirty then
    { s with
      chassis := { s.chassis with licencesDirty := false }
      store := { s.store with writer := .writing (.licences s.licenceImage) } }
  else if s.store.zonesDirty then
    { s with store := { s.store with zonesDirty := false, writer := .writing (.zones s.zoneImage) } }
  else
    { s with store := { s.store with settingsDirty := false, writer := .writing (.settings s.cfg) } }

/-- R187: the writer, where it writes nothing: with a mark set it starts a write, or becomes Held while the
dip flag is set; a Held writer becomes Idle when the flag clears. -/
def State.runWriter (s : State) : State :=
  match s.store.writer with
  | .writing _ => s
  | .idle =>
    if s.marked then
      if s.chassis.alm.dip then { s with store := { s.store with writer := .held } } else s.beginWrite
    else s
  | .held =>
    if s.chassis.alm.dip then s
    else if s.marked then s.beginWrite
    else { s with store := { s.store with writer := .idle } }

/-! ## The outbound arbiter (R176) -/

/-- R176: a frame starts. -/
def State.startFrame (f : OutFrame) (s : State) : State := { s with link := { s.link with frame := some f } }

/-- R176, R34, R175, R177, R166: the item of the first source that holds one leaves it and its frame
starts; a verdict returns a query credit, a response a request credit. -/
def State.takeItem (s : State) : State :=
  match s.link.verdicts with
  | .verdict v :: rest =>
    State.startFrame (.verdict v)
      { s with link := { s.link with verdicts := rest, queryCredits := s.link.queryCredits + 1 } }
  | .flush g :: rest => State.startFrame (.permitFlush g) { s with link := { s.link with verdicts := rest } }
  | [] =>
    match s.link.answers with
    | .login p a r :: rest =>
      State.startFrame (.loginAnswer p a r) { s with link := { s.link with answers := rest } }
    | .overload v :: rest => State.startFrame (.verdict v) { s with link := { s.link with answers := rest } }
    | [] =>
      match s.chassis.slots with
      | (p, k) :: rest =>
        State.startFrame (.portControl p k) { s with chassis := { s.chassis with slots := rest } }
      | [] =>
        match s.link.responses with
        | r :: rest =>
          State.startFrame (.response r)
            { s with link := { s.link with responses := rest, requestCredits := s.link.requestCredits + 1 } }
        | [] =>
          match s.link.overload with
          | some r => State.startFrame (.response r) { s with link := { s.link with overload := none } }
          | none =>
            match s.chassis.alm.notices with
            | n :: rest =>
              State.startFrame (.notice n s.cfg.mgmtAddr)
                { s with chassis := { s.chassis with alm := { s.chassis.alm with notices := rest } } }
            | [] => s

/-- R176: while the link is UP, the resync has ended and no frame is being sent, the arbiter starts one. -/
def State.arbitrate (s : State) : State :=
  if s.link.state = .up ∧ s.link.resync = none ∧ s.link.frame = none then s.takeItem else s

/-- R172: the resync's next frame: the Port Control of port `k`, at the port's control state as its frame
starts; a control that stands in the port's slot is taken out. After port 255 the resync has ended. -/
def State.resyncNext (k : Nat) (s : State) : State :=
  if h : k < 256 then
    let p : PortId := ⟨k, h⟩
    State.startFrame (.portControl p (s.chassis.port p).control)
      { s with
        chassis := { s.chassis with slots := s.chassis.slots.filter (fun e => e.1 != p) }
        link := { s.link with resync := some (k + 1) } }
  else { s with link := { s.link with resync := none, resyncDone := true } }

/-! ## The end of an event -/

/-- R192: in the first event at which a resync has ended and supply is settled, the start-up flag is
cleared and the Restart Complete notice formed. -/
def State.endStartUp (s : State) : State :=
  if s.store.startUp && s.link.resyncDone && s.chassis.pwr.inputs.settled then
    State.notifyEvent .restartComplete 0 { s with store := { s.store with startUp := false } }
  else s

/-- What every event ends with (log entry 6): Grace Running is judged (R90), start-up ends where it can
(R192), the writer (R187) and the arbiter (R176) go on, and the lines take their values. -/
def State.settle (s : State) : State :=
  ((((s.onChassis Chassis.judgeGrace).endStartUp).runWriter).arbitrate).driveLines

/-- One event. Below the retention level the part takes none (R190), and while the RESET line is held it
acts on none but those of the standby monitor and the writer (R191). -/
def State.event (f : State → State) (s : State) : Host.Outcome State Fault Refusal :=
  if s.store.monitor = .lost ∨ s.resetHeld = true then .next s else .next (f s).settle

/-- An event that the part takes while the RESET line is held as well (R191). -/
def State.eventInHold (f : State → State) (s : State) : Host.Outcome State Fault Refusal :=
  if s.store.monitor = .lost then .next s else .next (f s).settle

/-- R170, R173: an inbound frame is taken while the link is UP, and discarded where a field is out of its
range. -/
def State.frameIn (ok : Bool) (f : State → State) (s : State) : State :=
  if s.link.state = .up ∧ ok = true then f s else s

/-! ## Resets (R191) -/

/-- R169: at a Restart the alarm unit keeps the latched entries, their pulse timers stopped, and empties
the notice queue; the dip flag is kept. -/
def Alm.restart (a : Alm) : Alm :=
  { entries := (a.entries.filter (fun e => latchedKind e.kind)).map (fun e => { e with pulse := none })
    full := none, dip := a.dip, notices := [] }

/-- R168: at a Cold Start the alarm unit holds Supply Dip alone, cleared at once where the rail is at or
above the warning level. -/
def Alm.coldStart (x : Ctx) (railNormal : Bool) : Alm :=
  let a : Alm := Alm.dipRaise x ⟨[], none, false, []⟩
  if railNormal then a.dipClear x else a

/-- R185: STORE's raise or clear of Store Fault for one section. -/
def Alm.judgeSection (x : Ctx) (code : Nat) (valid : Bool) (a : Alm) : Alm :=
  if valid then a.clear x .storeFault code else a.raise x .storeFault code

/-- R131: for a tray that shows absent FAN asks for Fan Tray Absent to be raised and Fan Tray Failed to be
cleared. -/
def Alm.judgeTray (x : Ctx) (t : TrayId) (present : Bool) (a : Alm) : Alm :=
  if present then a else (a.raise x .fanTrayAbsent t.val).clear x .fanTrayFailed t.val

/-- R131: the number of trays that show present. -/
def presentCount (v : Vector Bool 8) : Nat := (v.toList.filter id).length

/-- R120: ENV after a reset; each tray that shows present has a gate started. -/
def Env.boot (cfg : Settings) (now : Nat) (present : Vector Bool 8) : Env :=
  { chans := Vector.replicate 16 ⟨none, false, false, false⟩
    scanner := if cfg.scanner.enable then .settling (now + Config.settleMs) else .off
    turnOff := false, conv := none, readNow := none
    trust := .unproven, fails := 0, passes := 0, refCode := none
    thermal := false, inlet := none
    gates := map8 (fun b => if b then some ⟨0, cfg.scanner.gateSecs, now + cfg.scanner.gateSecs * 1000⟩ else none) present
    lastRpm := Vector.replicate 8 none
    slots := Vector.replicate 4 ⟨.unknown, none⟩
    sampleDue := now + Config.sampleMs }

/-- R191: the state after a reset. `st` gives the sections as the reset finds them, the monitor, the
marker and the cause; `alm` the alarm unit's own reset value. Every block takes its reset values; STORE
loads the sections and asks for Store Fault (R185), then FAN for Fan Tray Absent (R131). -/
def boot (st : Store) (alm : Ctx → Alm) (clockMs secondDueMs seconds hourSeconds : Nat)
    (present : Vector Bool 8) (held : Bool) (pending : List Instr) : State :=
  let cfg := st.settings.getD Settings.factory
  let zone := st.zones.getD ⟨ZoneSet.factory, 0⟩
  let lic := st.licences.getD ⟨[], Vector.replicate 256 0⟩
  let x : Ctx := ⟨cfg, clockMs, seconds, false⟩
  let a := Alm.judgeSection x 2 st.licences.isSome
    (Alm.judgeSection x 1 st.zones.isSome (Alm.judgeSection x 0 st.settings.isSome (alm x)))
  let a := (List.finRange 8).foldl (fun a t => a.judgeTray x t present[t.val]) a
  { cfg := cfg
    clockMs := clockMs, secondDueMs := secondDueMs, seconds := seconds, hourSeconds := hourSeconds
    chassis :=
      { blades := Vector.replicate 8 false
        ports := Vector.replicate 256 PortRec.reset
        logins := [], slots := []
        licences := lic.records.map (fun r => ⟨r, []⟩)
        grace := lic.grace
        seatWait := [], graceRunning := false
        licencesDirty := st.licences.isNone
        passDue := false
        pwr := Pwr.reset (presentCount present) (presentCount present)
        alm := a }
    queries := []
    env := Env.boot cfg clockMs present
    fan := { trays := map8 (fun b => ⟨if b then .good else .absent, 0, 0⟩) present, current := 100, computed := 100, excess := none }
    zone := ZoneUnit.reset zone
    link := Link.reset
    store :=
      { st with
        settingsDirty := st.settings.isNone, zonesDirty := st.zones.isNone
        settingsValid := st.settings.isSome, zonesValid := st.zones.isSome, licencesValid := st.licences.isSome
        writer := .idle, startUp := true }
    trayPresent := present
    resetHeld := held
    lines := ⟨false, false, false, Vector.replicate 8 none⟩
    pending := pending }

/-- R188: a write that is cut off leaves its section failing its check. -/
def Store.cutOff (st : Store) : Store :=
  match st.writer with
  | .writing (.settings _) => { st with settings := none, writer := .idle }
  | .writing (.zones _) => { st with zones := none, writer := .idle }
  | .writing (.licences _) => { st with licences := none, writer := .idle }
  | _ => { st with writer := .idle }

/-- R191: a Restart. The running time, SEAT's seconds counter, the standby monitor, the dip flag and the
latched entries are kept. -/
def State.restartBy (cause : ResetCause) (s : State) : State :=
  boot { s.store.cutOff with cause := cause } (fun _ => s.chassis.alm.restart) s.clockMs s.secondDueMs s.seconds
    s.hourSeconds s.trayPresent s.resetHeld s.pending

/-! ## The request processor (R178 to R181) -/

/-- R178: the processor takes the oldest Waiting request when it holds none. -/
def State.takeRequest (s : State) : State :=
  match s.link.proc, s.link.waiting with
  | none, r :: rest =>
    { s with
      link := { s.link with
        waiting := rest
        proc := some ⟨r.origin, r.privilege, r.number, true, [], r.cmds, false, false⟩ } }
  | _, _ => s

/-- R67: the end of a list that armed a commit: it starts where every other command ended in Done and the
origin still holds the claim, and ends Skipped otherwise. -/
def State.decideCommit (pr : Proc) (s : State) : State × Status :=
  let m := ((s.zone.edit.zones.map (fun z => z.members.length)).sum + 63) / 64
  if pr.results.all (fun r => r.status == .done || r.status == .armed) && s.zone.owner == some pr.origin then
    ({ s with zone := { s.zone with commit := .validating (s.clockMs + 2 + m) } }, .started)
  else
    ({ s with zone := { s.zone with
        commit := .idle
        claimDue := if s.zone.owner == some pr.origin then some (s.clockMs + s.cfg.claimIdle * 1000)
          else s.zone.claimDue } }, .skipped)

/-- R67: the result entry of an armed Zone Commit takes its final status. -/
def Result.finish (st : Status) (r : Result) : Result := if r.status = .armed then { r with status := st } else r

/-- R181: the response is formed. It joins the response queue, or is dropped where the link has left UP
since the execution began; a Restart of a dropped response's list acts at once, before the writer starts a write for a
mark set in the same event (log entry 41, DESIGN CHOICE). -/
def State.respond (pr : Proc) (s : State) : State :=
  if pr.live then
    State.takeRequest
      { s with
        link := { s.link with
          responses := s.link.responses ++ [⟨pr.origin, pr.number, s.cfg.mgmtAddr, pr.results, pr.restart⟩]
          proc := none } }
  else if pr.restart then State.restartBy .command s
  else State.takeRequest { s with link := { s.link with proc := none } }

/-- R180, R67, R181: the end of a list. -/
def State.endList (pr : Proc) (s : State) : State :=
  if pr.results.any (fun r => r.status == .armed) then
    let d := s.decideCommit pr
    State.respond { pr with results := pr.results.map (Result.finish d.2) } d.1
  else s.respond pr

/-- R178, R180: the result of the processor's command is recorded in its place. A status that does not go
on ends the list, and the commands left are Skipped; so does the last command. -/
def State.answer (r : Result) (s : State) : State :=
  match s.link.proc with
  | none => s
  | some pr =>
    let rest := pr.left.tail
    if r.status.goesOn && !rest.isEmpty then
      { s with link := { s.link with proc := some { pr with results := pr.results ++ [r], left := rest, holding := false } } }
    else
      s.endList { pr with results := pr.results ++ r :: rest.map (fun _ => ⟨.skipped, []⟩), left := [], holding := false }

/-- What the checks of R179 find for a command. -/
inductive Checked (α : Type) where
  /-- The processor's next command is not this one (log entry 1). -/
  | notNext
  /-- Check 2 or 3 refuses it. -/
  | refused (st : Status)
  /-- It is handed to its block. -/
  | go (pr : Proc) (a : α)

/-- R179: the checks of the processor's next command: its code names `cmd`; its form; its privilege. -/
def State.check {α : Type} (cmd : Cmd) (read : List Byte → Option α) (s : State) : Checked α :=
  match s.link.proc with
  | none => .notNext
  | some pr =>
    if pr.holding then .notNext
    else
      match pr.left with
      | [] => .notNext
      | e :: _ =>
        if Cmd.ofCode? e.code = some cmd then
          match read e.params with
          | none => .refused .refusedRange
          | some a => if pr.privilege.rank < cmd.privilege.rank then .refused .refusedPrivilege else .go pr a
        else .notNext

/-- R178, R179: one management command: the checks, the block's part, and the result recorded. -/
def State.command {α : Type} (cmd : Cmd) (read : List Byte → Option α) (act : Proc → α → State → State × Result)
    (s : State) : State :=
  match s.check cmd read with
  | .notNext => s
  | .refused st => s.answer ⟨st, []⟩
  | .go pr a =>
    let r := act pr a s
    r.1.answer r.2

/-- A result without data. -/
def plain (st : Status) : Result := ⟨st, []⟩

/-- A result Done with data (R181). -/
def doneWith (data : List Byte) : Result := ⟨.done, data⟩

end Sys2Proof.Machine
end

