-- ==== Sys2Proof/Machine/Admit.lean ====
section
/-! DEFINITION. Chapter 2: logins and frame admission. -/

namespace Sys2Proof.Machine

/-! ## The answer list (R29) -/

/-- R29, R33: an item joins the answer list, or is dropped where the list holds 64. -/
def State.addAnswer (a : Answer) (s : State) : State :=
  if s.link.answers.length < Config.answerCap then
    { s with link := { s.link with answers := s.link.answers ++ [a] } }
  else s

/-! ## Queries (R33 to R45) -/

/-- The frame class of a class byte (spec 09, Admission Query). -/
def FrameClass.ofByte (b : Byte) : FrameClass := if b = 0#8 then .exchange else .fabricService

/-- R33: a query arrives. With a credit it joins the query queue; without one a DENY-OVERLOAD verdict is
placed in the answer list. -/
def State.queryArrives (q : Query) (s : State) : State :=
  if 0 < s.link.queryCredits then
    { s with
      link := { s.link with queryCredits := s.link.queryCredits - 1 }
      queries := s.queries ++ [q] }
  else s.addAnswer (.overload ⟨q.tag, .denyOverload, s.zone.generation, none⟩)

/-- R36: the settled class of a query. -/
def Query.settledClass (q : Query) : FrameClass :=
  if q.cls = .fabricService ∧ q.dst.toNat ≤ 0xFF then .fabricService else .exchange

/-- R37: whether a port state passes step 1 for a class. -/
def passesIngress (c : FrameClass) (st : PortState) : Bool :=
  match c with
  | .exchange => st == .online
  | .fabricService => st == .online || st.isDraining

/-- R40: step 4; a remote destination passes. -/
def Chassis.passesDestination (c : Chassis) (a : Addr) : Bool :=
  match c.loginOf a with
  | some p => (c.port p).state == .online
  | none => true

/-- R42: whether a member matches an address. -/
def Member.holds (c : Chassis) (a : Addr) : Member → Bool
  | .port p => c.loginOf a == some p
  | .range b l => b.toNat ≤ a.toNat && a.toNat ≤ l.toNat

/-- R43: whether a zone qualifies. -/
def Zone.qualifies (c : Chassis) (src dst : Addr) (z : Zone) : Bool :=
  z.members.any (Member.holds c src) && z.members.any (Member.holds c dst)

/-- R41, R43: steps 5 and 6. -/
def judgeZones (set : ZoneSet) (c : Chassis) (src dst : Addr) : VerdictOutcome × Option Nat :=
  if set.zones.isEmpty then
    match set.access with
    | .all => (.permit, none)
    | .none => (.denyZone, none)
  else
    match set.zones.findIdx? (Zone.qualifies c src dst) with
    | some i => (.permit, some i)
    | none => (.denyZone, none)

/-- R37 to R43: the six steps. -/
def judgeQuery (set : ZoneSet) (c : Chassis) (q : Query) : VerdictOutcome × Option Nat :=
  if !passesIngress q.settledClass (c.port q.ingress).state then (.denyPort, none)
  else
    match q.settledClass with
    | .fabricService => (.permit, none)
    | .exchange =>
      if c.loginOf q.src ≠ some q.ingress then (.denySource, none)
      else if !c.passesDestination q.dst then (.denyPort, none)
      else judgeZones set c q.src q.dst

/-- R44: the verdict of a query. -/
def State.verdictOf (q : Query) (s : State) : Verdict :=
  let j := judgeQuery s.zone.active s.chassis q
  ⟨q.tag, j.1, s.zone.generation, j.2⟩

/-- R35: the evaluation of the oldest query. -/
def State.evaluateQuery (s : State) : State :=
  match s.queries with
  | [] => s
  | q :: rest =>
    { s with
      queries := rest
      link := { s.link with verdicts := s.link.verdicts ++ [.verdict (s.verdictOf q)] } }

/-! ## Logins (R27 to R30) -/

/-- R27, R28: what a Login does to the login table and what it is answered. -/
def Chassis.login (x : Ctx) (h : Hooks) (p : PortId) (a : Addr) (c : Chassis) : Chassis × LoginResult :=
  if (c.port p).state ≠ .online then (c, .rejectedPortState)
  else
    match c.loginOf a with
    | some q =>
      if q = p then (c, .accepted)
      else if Config.loginPortCap ≤ c.loginCount p then (c, .rejectedPortLimit)
      else
        (Chassis.afterLoginRemoved x h q { c with logins := c.logins.filter (fun e => e.addr != a) ++ [⟨a, p⟩] },
          .accepted)
    | none =>
      if Config.loginCap ≤ c.logins.length then (c, .rejectedFull)
      else if Config.loginPortCap ≤ c.loginCount p then (c, .rejectedPortLimit)
      else ({ c with logins := c.logins ++ [⟨a, p⟩] }, .accepted)

/-- R27, R29: a Login with its Login Answer. -/
def State.login (p : PortId) (a : Addr) (s : State) : State :=
  let r := s.chassis.login s.ctx (outer s.ctx) p a
  State.addAnswer (.login p a r.2) { s with chassis := r.1 }

/-- R30: a Logout. -/
def Chassis.logout (x : Ctx) (h : Hooks) (p : PortId) (a : Addr) (c : Chassis) : Chassis :=
  if c.loginOf a = some p then
    Chassis.afterLoginRemoved x h p { c with logins := c.logins.filter (fun e => e.addr != a) }
  else c

/-! ## Login Read (R46) -/

/-- The login entries of a port, oldest first. -/
def Chassis.loginsOf (c : Chassis) (p : PortId) : List LoginEntry := c.logins.filter (fun e => e.port == p)

/-- R46: the answer of Login Read. -/
def Chassis.loginRead (c : Chassis) : LoginReadForm → Result
  | .byPort p =>
    let es := c.loginsOf p
    doneWith (u8 p.val ++ u8 (c.port p).state.code ++ u8 es.length ++ es.flatMap (fun e => u24 e.addr.toNat)
      ++ u16 c.logins.length)
  | .byAddr a =>
    match c.loginOf a with
    | some p =>
      let pos := (c.loginsOf p).findIdx (fun e => e.addr == a) + 1
      doneWith (u8 p.val ++ u8 pos ++ u16 c.logins.length)
    | none => plain .refusedUnknown

/-! ## The commands -/

/-- ADMISSION_QUERY (R33, R174). -/
def execAdmissionQuery (tag : Word16) (ingress : PortId) (src dst : Addr) (cls : Byte) (s : State) :
    Host.Outcome State Fault Refusal :=
  s.event (State.frameIn (Instr.wf (.admissionQuery tag ingress src dst cls))
    (State.queryArrives ⟨tag, ingress, src, dst, FrameClass.ofByte cls⟩))

/-- QUERY_EVALUATION (R35). -/
def execQueryEvaluation (s : State) : Host.Outcome State Fault Refusal := s.event State.evaluateQuery

/-- LOGIN (R27, R174). -/
def execLogin (port : PortId) (addr : Addr) (s : State) : Host.Outcome State Fault Refusal :=
  s.event (State.frameIn true (State.login port addr))

/-- LOGOUT (R30, R174). -/
def execLogout (port : PortId) (addr : Addr) (s : State) : Host.Outcome State Fault Refusal :=
  s.event (State.frameIn true (State.onChassis (fun x => Chassis.logout x (outer x) port addr)))

/-- LOGIN_READ (R46). -/
def execLoginRead (s : State) : Host.Outcome State Fault Refusal :=
  s.event (State.command .loginRead readLoginRead (fun _ f s => (s, s.chassis.loginRead f)))

end Sys2Proof.Machine
end

