-- ==== Sys2Proof/Machine/Alarms.lean ====
section
/-! DEFINITION. Chapter 8: Acknowledge, Alarm Set, Alarm Read and the pulse timers. Raise, clear and notices
stand in Ops. -/

namespace Sys2Proof.Machine

/-! ## Acknowledge (R159, R160) -/

/-- R160: while the dip flag is set, Acknowledge has no effect on the Supply Dip entry. -/
def Alm.shielded (a : Alm) (e : AlarmEntry) : Bool := a.dip && e.hasKey .supplyDip 0

/-- The entry under a key, the reserved place included (R157). -/
def Alm.anyEntry? (a : Alm) (k : AlarmKind) (subject : Nat) : Option AlarmEntry :=
  (a.entries ++ a.full.toList).find? (AlarmEntry.hasKey k subject)

/-- R159, R160: Acknowledge. The key form naming Supply Dip while the dip flag is set is Refused-State (log
entry 31). -/
def State.acknowledge (f : AckForm) (s : State) : State × Result :=
  match f with
  | .all =>
    (s.onChassis (fun x c => { c with alm := c.alm.acknowledgeWhere x (fun e => !c.alm.shielded e) }), plain .done)
  | .key k n =>
    match AlarmKind.ofCode? k with
    | none => (s, plain .refusedRange)
    | some kind =>
      if !subjectOk kind n then (s, plain .refusedRange)
      else if kind = .supplyDip ∧ s.chassis.alm.dip = true then (s, plain .refusedState)
      else if (s.chassis.alm.anyEntry? kind n).isNone then (s, plain .refusedUnknown)
      else
        (s.onChassis (fun x c => { c with alm := c.alm.acknowledgeWhere x (AlarmEntry.hasKey kind n) }), plain .done)

/-! ## Alarm Set (R162) -/

/-- The relay settings of a kind. -/
def Settings.relay (c : Settings) (k : AlarmKind) : RelayCfg := c.relays[k.code.val]

/-- R162: the relay settings an Alarm Set leaves, none where one is out of range. -/
def relayApply (mode enable : Option Nat) (r : RelayCfg) : Option RelayCfg := do
  let m ← match mode with
    | some n => RelayMode.ofNat? n
    | none => some r.mode
  let e ← match enable with
    | some n => flagOf? n
    | none => some r.enable
  some ⟨m, e⟩

/-- R162: Alarm Set. -/
def State.alarmSet (f : AlarmSetForm) (s : State) : State × Result :=
  match f with
  | .origin n => ({ s with cfg := { s.cfg with noticeOrigin := BitVec.ofNat 16 n } }, plain .done)
  | .kind k mode enable =>
    match AlarmKind.ofCode? k with
    | none => (s, plain .refusedRange)
    | some kind =>
      match relayApply mode enable (s.cfg.relay kind) with
      | none => (s, plain .refusedRange)
      | some r =>
        ({ s with cfg := { s.cfg with relays := s.cfg.relays.set kind.code.val r } }, plain .done)

/-! ## Alarm Read (R167) -/

/-- R167: one entry. -/
def AlarmEntry.bytes (e : AlarmEntry) : List Byte :=
  u8 e.kind.code.val ++ u24 e.subject ++ u8 (severityOf e.kind).code ++ flag (latchedKind e.kind)
    ++ u8 e.state.code ++ u32 e.raiseSec ++ flag e.pulse.isSome

/-- R167: the Alarm Table Full entry's state, 0xFF where it does not stand. -/
def fullByte : Option AlarmEntry → Nat
  | some e => e.state.code
  | none => 0xFF

/-- R167: the relay line bits. -/
def State.lineBits (s : State) : Nat :=
  let a := s.chassis.alm
  (if a.lineDriven s.cfg.relays .minor then 1 else 0) + (if a.lineDriven s.cfg.relays .major then 2 else 0)
    + (if a.lineDriven s.cfg.relays .critical then 4 else 0)

/-- R167: Alarm Read. -/
def State.alarmData (s : State) : List Byte :=
  let a := s.chassis.alm
  u8 a.entries.length ++ a.entries.flatMap AlarmEntry.bytes ++ u8 (fullByte a.full) ++ u8 s.lineBits
    ++ s.cfg.relays.toList.flatMap (fun r => u8 r.mode.code ++ flag r.enable)
    ++ u16 s.cfg.noticeOrigin.toNat ++ u8 a.notices.length ++ flag a.dip

/-! ## Pulse timers (R163) -/

/-- The pulse timer of an entry stops. -/
def AlarmEntry.stopPulse (e : AlarmEntry) : AlarmEntry := { e with pulse := none }

/-- R163: the pulse timer of the entry under a key runs out. -/
def Alm.pulseEnd (k : AlarmKind) (subject : Nat) (a : Alm) : Alm :=
  { a with
    entries := a.entries.map (fun e => if e.hasKey k subject then e.stopPulse else e)
    full := a.full.map (fun e => if e.hasKey k subject then e.stopPulse else e) }

/-- R163: the pulse timer of the entry under a key runs out; without one nothing changes. -/
def State.pulseEnd (k : AlarmKind) (subject : Nat) (s : State) : State :=
  match (s.chassis.alm.anyEntry? k subject).bind AlarmEntry.pulse with
  | some due => State.onChassis (fun _ c => { c with alm := c.alm.pulseEnd k subject }) (s.carry due)
  | none => s

/-! ## The commands -/

/-- ACKNOWLEDGE (R159). -/
def execAcknowledge (s : State) : Host.Outcome State Fault Refusal :=
  s.event (State.command .acknowledge readAck (fun _ f s => s.acknowledge f))

/-- ALARM_SET (R162). -/
def execAlarmSet (s : State) : Host.Outcome State Fault Refusal :=
  s.event (State.command .alarmSet readAlarmSet (fun _ f s => s.alarmSet f))

/-- ALARM_READ (R167). -/
def execAlarmRead (s : State) : Host.Outcome State Fault Refusal :=
  s.event (State.command .alarmRead readUnit (fun _ _ s => (s, doneWith s.alarmData)))

/-- PULSE_TIMER_EXPIRY (R163). -/
def execPulseTimerExpiry (kind : AlarmKind) (subject : Nat) (s : State) : Host.Outcome State Fault Refusal :=
  s.event (State.pulseEnd kind subject)

end Sys2Proof.Machine
end

