-- ==== Sys2Proof/Machine/Scanner.lean ====
section
/-! DEFINITION. Chapter 5: channels, conversions, rounds, trust, limits, tach gates and supply slots; with
what FAN does in the same events (R123, R126 to R128). -/

namespace Sys2Proof.Machine

/-! ## Conversion arithmetic (R104) -/

/-- R104: the value of a raw code: quarter degrees for a temperature, mV for a voltage. -/
def valueOf (k : ChanKind) (divider : Nat) (code : RawCode) : Int :=
  match k with
  | .temperature => (code.toNat : Int) - 220
  | .voltage => ((code.toNat * 1800 * divider / 1023 : Nat) : Int)

/-- R104: whole degrees, rounded down. -/
def wholeDegrees (q : Int) : Int := q / 4

/-- R111: the value a channel is judged by. -/
def judgedValue (k : ChanKind) (divider : Nat) (code : RawCode) : Int :=
  match k with
  | .temperature => wholeDegrees (valueOf k divider code)
  | .voltage => valueOf k divider code

/-- The record of a channel. -/
def Settings.channel (c : Settings) (i : ChanId) : ChanCfg := c.channels[i.val]

/-- The volatile part of a channel. -/
def Env.chan (e : Env) (i : ChanId) : ChanVol := e.chans[i.val]

/-- The volatile part of a channel takes a value. -/
def Env.setChan (e : Env) (i : ChanId) (v : ChanVol) : Env := { e with chans := e.chans.set i.val v }

/-- The sixteen channels in ascending index. -/
def allChans : List ChanId := List.finRange 16

/-- The judged value of an enabled channel that has one. -/
def State.reading? (s : State) (i : ChanId) : Option Int :=
  let c := s.cfg.channel i
  if c.enabled then ((s.env.chan i).raw).map (judgedValue c.kind c.divider) else none

/-- R113: the inlet reading. -/
def State.inletReading (s : State) : Option Int :=
  (allChans.find? (fun i => (s.cfg.channel i).role == .inlet)).bind s.reading?

/-! ## The alarms of a channel (R111, R112) -/

/-- The alarm of a HI condition. -/
def ChanKind.hiAlarm : ChanKind → AlarmKind
  | .temperature => .overTemperature
  | .voltage => .overVoltage

/-- The alarm of a LO condition. -/
def ChanKind.loAlarm : ChanKind → AlarmKind
  | .temperature => .underTemperature
  | .voltage => .underVoltage

/-- R111: the HI condition after a judgment. -/
def ChanCfg.hiAfter (c : ChanCfg) (v : Int) (stood : Bool) : Bool :=
  if !c.hiEnable then false
  else if c.hiLimit < v then true
  else if v < c.hiLimit - (c.hysteresis : Int) then false
  else stood

/-- R111: the LO condition after a judgment. -/
def ChanCfg.loAfter (c : ChanCfg) (v : Int) (stood : Bool) : Bool :=
  if !c.loEnable then false
  else if v < c.loLimit then true
  else if c.loLimit + (c.hysteresis : Int) < v then false
  else stood

/-- R112: the emergency condition after a judgment; only a Critical channel is judged. -/
def ChanCfg.emergencyAfter (c : ChanCfg) (v : Int) (stood : Bool) : Bool :=
  if c.role ≠ .critical then stood
  else if c.critical < v then true
  else if v < c.critical - (c.hysteresis : Int) then false
  else stood

/-- Raise or clear by a change of a condition. -/
def State.judgeAlarm (k : AlarmKind) (subject : Nat) (stood stands : Bool) (s : State) : State :=
  s.onChassis (fun x c => { c with alm := c.alm.judge x k subject stood stands })

/-- R108 step 4, one channel: HI, then LO, then the emergency condition. -/
def State.judgeChannel (s : State) (i : ChanId) : State :=
  match s.reading? i with
  | none => s
  | some v =>
    let c := s.cfg.channel i
    let w := s.env.chan i
    let hi := c.hiAfter v w.hi
    let lo := c.loAfter v w.lo
    let em := c.emergencyAfter v w.emergency
    let s := { s with env := s.env.setChan i { w with hi := hi, lo := lo, emergency := em } }
    let s := s.judgeAlarm c.kind.hiAlarm i.val w.hi hi
    let s := s.judgeAlarm c.kind.loAlarm i.val w.lo lo
    s.judgeAlarm .thermalEmergency i.val w.emergency em

/-- R112: the thermal emergency state that the conditions give. -/
def Env.thermalNow (e : Env) : Bool := e.chans.toList.any ChanVol.emergency

/-! ## FAN's duties (R126 to R128) -/

/-- R127: both duties become 100. -/
def Fan.full (f : Fan) : Fan := { f with current := 100, computed := 100 }

/-- R127: whether an override stands. -/
def State.overridden (s : State) : Bool :=
  s.fan.trays.toList.any (fun t => t.state == .failed) || s.env.trust != .trusted || s.env.thermal

/-- R126 part 1: the differences of the channels that count. -/
def State.excesses (s : State) : List Int :=
  allChans.filterMap (fun i =>
    let c := s.cfg.channel i
    if c.role = .cooling then (s.reading? i).map (fun v => v - (c.target : Int)) else none)

/-- The highest of a list. -/
def highest : List Int → Option Int
  | [] => none
  | a :: as =>
    match highest as with
    | none => some a
    | some b => some (max a b)

/-- R126 parts 3 and 4: the computed duty. -/
def computedDuty (c : CoolingCfg) (overridden : Bool) (excess : Option Int) : Nat :=
  match excess with
  | none => 100
  | some e => if overridden then 100 else min 100 (c.minDuty + c.gain * e.toNat)

/-- R128: the current duty moved toward the computed duty. -/
def slew (current computed : Nat) : Nat := if current ≤ computed then computed else max computed (current - 5)

/-- R126, R128: the duty computation of a round end. -/
def State.computeDuty (s : State) : State :=
  let e := highest s.excesses
  let d := computedDuty s.cfg.cooling s.overridden e
  { s with fan := { s.fan with computed := d, current := slew s.fan.current d, excess := e } }

/-! ## What PWR is told (R133) -/

/-- ENV's state as PWR is to hold it: trust, thermal emergency and the inlet reading are recorded, and one
evaluation runs where any of them changed, or where a change was made in the event and taken back (`moved`). -/
def State.tellPwr (moved : Bool) (s : State) : State :=
  let i := s.chassis.pwr.inputs
  let i' : PwrInputs := { i with trust := s.env.trust, thermal := s.env.thermal, inlet := s.env.inlet }
  if i' = i && !moved then s else s.onChassis (fun x => Chassis.handPwr x (fun _ => i'))

/-- R112: the thermal emergency state is judged; one that becomes set forces full duty (R127). -/
def State.judgeThermal (s : State) : State :=
  let t := s.env.thermalNow
  let fan := if t && !s.env.thermal then s.fan.full else s.fan
  { s with env := { s.env with thermal := t }, fan := fan }

/-- R113: the inlet reading is judged. -/
def State.judgeInlet (s : State) : State := { s with env := { s.env with inlet := s.inletReading } }

/-! ## Rounds (R107, R114) -/

/-- A channel as it stands now. -/
def Settings.take (c : Settings) (i : ChanId) : Taken :=
  let r := c.channel i
  ⟨i, r.kind, r.input, r.divider, false⟩

/-- R107: the list a round takes: the enabled channels in ascending index. -/
def Settings.roundList (c : Settings) : List Taken :=
  (allChans.filter (fun i => (c.channel i).enabled)).map c.take

/-- R107, R114: the next conversion: a Read Now that waits, else the round's next channel, and the reference
last; none between rounds. -/
def State.nextConversion (s : State) : State :=
  let due := s.clockMs + Config.conversionMs
  match s.env.readNow with
  | some i => { s with env := { s.env with conv := some (.readNow (s.cfg.take i), due), readNow := none } }
  | none =>
    match s.env.scanner with
    | .converting r =>
      { s with env := { s.env with conv := some (if r.left.isEmpty then .reference else .channel, due) } }
    | _ => { s with env := { s.env with conv := none } }

/-- R106, R107: a round starts. -/
def State.startRound (s : State) : State :=
  State.nextConversion { s with env := { s.env with scanner := .converting ⟨s.cfg.roundList, []⟩, conv := none } }

/-- R106: the settling time ends. -/
def State.settlingEnd (s : State) : State :=
  match s.env.scanner with
  | .settling due => (s.carry due).startRound
  | _ => s

/-- R106, R114: the rest interval runs out; during a Read Now conversion the round waits for its end. -/
def State.restEnd (s : State) : State :=
  match s.env.scanner with
  | .resting (some due) =>
    let s := s.carry due
    if s.env.conv.isSome then { s with env := { s.env with scanner := .resting none } } else s.startRound
  | _ => s

/-- R107: the conversion of a channel ends; its code is held. -/
def State.conversionEnd (code : RawCode) (s : State) : State :=
  match s.env.conv, s.env.scanner with
  | some (.channel, due), .converting r =>
    match r.left with
    | [] => s
    | t :: ts =>
      State.nextConversion
        (State.carry due
          { s with env := { s.env with scanner := .converting ⟨ts, r.held ++ [(t, code)]⟩, conv := none } })
  | _, _ => s

/-! ## Trust (R109, R110) -/

/-- R108 step 1: whether the reference lies within the tolerance of 512. -/
def refPasses (tolerance : Nat) (code : RawCode) : Bool :=
  512 ≤ code.toNat + tolerance && code.toNat ≤ 512 + tolerance

/-- R109: the trust state and its counts after a round end. -/
def moveTrust (t : Trust) (fails passes : Nat) (passed : Bool) : Trust × Nat × Nat :=
  match t, passed with
  | .unproven, true => (.trusted, 0, 0)
  | .unproven, false => if 2 ≤ fails + 1 then (.lost, 0, 0) else (.unproven, fails + 1, passes)
  | .trusted, true => (.trusted, 0, passes)
  | .trusted, false => if 2 ≤ fails + 1 then (.lost, 0, 0) else (.trusted, fails + 1, passes)
  | .lost, true => if 4 ≤ passes + 1 then (.trusted, 0, 0) else (.lost, fails, passes + 1)
  | .lost, false => (.lost, fails, 0)

/-- R110: Sensor Trust Lost is asked for at an entry to Lost, and its clear at a departure from Lost and at
an entry to Trusted. -/
def State.trustAlarm (old new : Trust) (s : State) : State :=
  if old = new then s
  else
    match new with
    | .lost => s.raise .sensorTrustLost 0
    | .trusted => s.clear .sensorTrustLost 0
    | .unproven => if old = .lost then s.clear .sensorTrustLost 0 else s

/-- R109, R110, R127: the trust state takes a value; leaving Trusted forces full duty. -/
def State.setTrust (t : Trust) (fails passes : Nat) (s : State) : State :=
  let old := s.env.trust
  let fan := if old = .trusted ∧ t ≠ .trusted then s.fan.full else s.fan
  State.trustAlarm old t { s with env := { s.env with trust := t, fails := fails, passes := passes }, fan := fan }

/-- R106, R109: the scanner becomes Off, and trust Unproven. -/
def State.enterOff (s : State) : State :=
  State.setTrust .unproven 0 0
    { s with env := { s.env with scanner := .off, turnOff := false, conv := none, readNow := none } }

/-! ## The round end (R108) -/

/-- R107: whether a reading of the round is taken. -/
def Taken.admitted (c : Settings) (t : Taken) : Bool :=
  let r := c.channel t.chan
  !t.void && r.enabled && r.kind == t.kind && r.input == t.input && r.divider == t.divider

/-- R108 step 3: a reading is taken. -/
def State.takeReading (s : State) (e : Taken × RawCode) : State :=
  if e.1.admitted s.cfg then
    { s with env := s.env.setChan e.1.chan { s.env.chan e.1.chan with raw := some e.2 } }
  else s

/-- R108 steps 3 and 4: the readings are taken and every channel judged. -/
def State.takeReadings (held : List (Taken × RawCode)) (s : State) : State :=
  State.judgeThermal (allChans.foldl State.judgeChannel (held.foldl State.takeReading s))

/-- R106: what follows the round end: Off where a turn-off waits, else the rest, or the next round where the
rest interval is 0. A Read Now that waits comes first (R114). -/
def State.afterRound (s : State) : State :=
  if s.env.turnOff then s.enterOff
  else if s.cfg.scanner.restMs = 0 then s.startRound
  else
    State.nextConversion
      { s with env := { s.env with scanner := .resting (some (s.clockMs + s.cfg.scanner.restMs)), conv := none } }

/-- R108: the round end, in its steps. PWR runs one evaluation after the last change of the event, the
change that a waiting turn-off makes among them (log entry 27); it runs as well where that turn-off takes the
round's change of trust back, since each of the two is a change handed on (R109, R133). -/
def State.roundEnd (code : RawCode) (s : State) : State :=
  match s.env.conv, s.env.scanner with
  | some (.reference, due), .converting r =>
    let s := s.carry due
    let passed := refPasses s.cfg.scanner.tolerance code
    let trust := s.env.trust
    let t := moveTrust s.env.trust s.env.fails s.env.passes passed
    let s := State.setTrust t.1 t.2.1 t.2.2 { s with env := { s.env with refCode := some code } }
    let s := if passed && t.1 == .trusted then s.takeReadings r.held else s
    let s := s.judgeInlet
    let s := s.computeDuty
    (s.afterRound).tellPwr (t.1 != trust)
  | _, _ => s

/-! ## Channel Set (R103) -/

/-- A number in a signed field, within bounds. -/
def signedIn (lo hi : Int) (n : Nat) : Option Int :=
  let v := signed16 n
  if lo ≤ v ∧ v ≤ hi then some v else none

/-- A given field read by `f`, or the present value. -/
def orKeep {α : Type} (given : Option Nat) (f : Nat → Option α) (now : α) : Option α :=
  match given with
  | some n => f n
  | none => some now

/-- A number no greater than a bound. -/
def upTo (hi : Nat) (n : Nat) : Option Nat := if n ≤ hi then some n else none

/-- A number within bounds. -/
def within (lo hi : Nat) (n : Nat) : Option Nat := if lo ≤ n ∧ n ≤ hi then some n else none

/-- R102: whether a limit lies in the range of a kind. -/
def ChanKind.limitOk (k : ChanKind) (v : Int) : Bool :=
  match k with
  | .temperature => decide (-55 ≤ v ∧ v ≤ 200)
  | .voltage => decide (0 ≤ v ∧ v ≤ 7200)

/-- R103: the tests on the record that would result. -/
def ChanCfg.ok (c : ChanCfg) : Bool :=
  (c.role == .none || c.kind == .temperature) && decide (c.loLimit < c.hiLimit)
    && c.kind.limitOk c.hiLimit && c.kind.limitOk c.loLimit

/-- R103: the record a Channel Set leaves, none where it is refused. -/
def ChannelSetForm.apply (f : ChannelSetForm) (c : ChanCfg) : Option ChanCfg := do
  let en ← orKeep f.enabled flagOf? c.enabled
  let ki ← orKeep f.kind ChanKind.ofNat? c.kind
  let inp ← orKeep f.input (fun n => if h : n < 16 then some (⟨n, h⟩ : Fin 16) else none) c.input
  let dv ← orKeep f.divider (within 1 4) c.divider
  let ro ← orKeep f.role Role.ofNat? c.role
  let hl ← orKeep f.hiLimit (fun n => some (signed16 n)) c.hiLimit
  let he ← orKeep f.hiEnable flagOf? c.hiEnable
  let ll ← orKeep f.loLimit (fun n => some (signed16 n)) c.loLimit
  let le ← orKeep f.loEnable flagOf? c.loEnable
  let hy ← orKeep f.hysteresis (upTo 20) c.hysteresis
  let cr ← orKeep f.critical (signedIn (-55) 200) c.critical
  let tg ← orKeep f.target (upTo 100) c.target
  let c' : ChanCfg := ⟨en, ki, inp, dv, ro, hl, he, ll, le, hy, cr, tg⟩
  if c'.ok then some c' else none

/-- R103: the record of a channel is written; a channel set to Inlet takes the role from any other. -/
def Settings.writeChannel (c : Settings) (i : ChanId) (new : ChanCfg) : Settings :=
  let others :=
    if new.role = .inlet then c.channels.map (fun d => if d.role = .inlet then { d with role := .none } else d)
    else c.channels
  { c with channels := others.set i.val new }

/-- R103: a reading of the channel that a round under way holds or is to take is not taken at its end (log
entry 11). -/
def Scanner.voidChannel (i : ChanId) : Scanner → Scanner
  | .converting r =>
    .converting
      ⟨r.left.map (fun t => if t.chan = i then { t with void := true } else t),
       r.held.map (fun e => if e.1.chan = i then ({ e.1 with void := true }, e.2) else e)⟩
  | sc => sc

/-- R103: whether enabled, kind, analog input or divider changed. -/
def ChanCfg.rewired (old new : ChanCfg) : Bool :=
  old.enabled != new.enabled || old.kind != new.kind || old.input != new.input || old.divider != new.divider

/-- R103: a rewired channel loses its value and its conditions, under the alarms of its old kind. -/
def State.forgetChannel (i : ChanId) (old : ChanCfg) (s : State) : State :=
  let w := s.env.chan i
  let env := { s.env.setChan i ⟨none, false, false, false⟩ with scanner := s.env.scanner.voidChannel i }
  let s := { s with env := env }
  let s := s.judgeAlarm old.kind.hiAlarm i.val w.hi false
  let s := s.judgeAlarm old.kind.loAlarm i.val w.lo false
  s.judgeAlarm .thermalEmergency i.val w.emergency false

/-- R103: a channel that is no longer Critical loses its emergency condition. -/
def State.dropEmergency (i : ChanId) (s : State) : State :=
  let w := s.env.chan i
  State.judgeAlarm .thermalEmergency i.val w.emergency false
    { s with env := s.env.setChan i { w with emergency := false } }

/-- R103: Channel Set. The thermal state is handed on before the inlet reading (log entry 37). -/
def State.channelSet (f : ChannelSetForm) (s : State) : State × Result :=
  if h : f.chan < 16 then
    let i : ChanId := ⟨f.chan, h⟩
    let old := s.cfg.channel i
    match f.apply old with
    | none => (s, plain .refusedRange)
    | some new =>
      let s := { s with cfg := s.cfg.writeChannel i new }
      let s := if old.rewired new then s.forgetChannel i old else s
      let s := if old.role = .critical ∧ new.role ≠ .critical then s.dropEmergency i else s
      ((((s.judgeThermal).tellPwr false).judgeInlet).tellPwr false, plain .done)
  else (s, plain .refusedRange)

/-! ## Scanner Set (R106) -/

/-- R106: the settings a Scanner Set leaves, none where one is out of range. -/
def ScannerSetForm.apply (f : ScannerSetForm) (c : ScannerCfg) : Option ScannerCfg := do
  let en ← orKeep f.enable flagOf? c.enable
  let rest ← orKeep f.restMs (upTo 65535) c.restMs
  let tol ← orKeep f.tolerance (within 1 63) c.tolerance
  let gate ← orKeep f.gateSecs (fun n => if n = 1 ∨ n = 2 ∨ n = 4 then some n else none) c.gateSecs
  some ⟨en, rest, tol, gate⟩

/-- R106: the scanner is turned off. -/
def State.turnScannerOff (s : State) : State :=
  match s.env.scanner with
  | .off => s
  | .converting _ => { s with env := { s.env with turnOff := true } }
  | _ => (s.enterOff).tellPwr false

/-- R106: the scanner is turned on. -/
def State.turnScannerOn (s : State) : State :=
  match s.env.scanner with
  | .off => { s with env := { s.env with scanner := .settling (s.clockMs + Config.settleMs) } }
  | .converting _ => { s with env := { s.env with turnOff := false } }
  | _ => s

/-- R106: Scanner Set. -/
def State.scannerSet (f : ScannerSetForm) (s : State) : State × Result :=
  match f.apply s.cfg.scanner with
  | none => (s, plain .refusedRange)
  | some new =>
    let s := { s with cfg := { s.cfg with scanner := new } }
    let s := match f.enable with
      | none => s
      | some _ => if new.enable then s.turnScannerOn else s.turnScannerOff
    (s, plain .done)

/-! ## Read Now (R114) -/

/-- R114: whether Read Now is refused in the scanner's state. -/
def Env.readNowRefused (e : Env) : Bool :=
  e.turnOff ||
    match e.scanner with
    | .off => true
    | .settling _ => true
    | _ => false

/-- R114: Read Now holds the processor, and its conversion is placed: behind the conversion under way, or at
once where the scanner rests. -/
def State.placeReadNow (pr : Proc) (i : ChanId) (s : State) : State :=
  let s : State :=
    { s with
      env := { s.env with readNow := some i }
      link := { s.link with proc := some { pr with holding := true } } }
  if s.env.conv.isNone then s.nextConversion else s

/-- R114: Read Now: its checks, and its placing. A channel index above 15 is judged before the scanner's state (log
entry 40, DESIGN CHOICE). -/
def State.readNow (s : State) : State :=
  match s.check .readNow (readNat 1) with
  | .notNext => s
  | .refused st => s.answer (plain st)
  | .go pr n =>
    if h : n < 16 then
      let i : ChanId := ⟨n, h⟩
      if !(s.cfg.channel i).enabled || s.env.readNowRefused then s.answer (plain .refusedState)
      else s.placeReadNow pr i
    else s.answer (plain .refusedRange)

/-- R114: the data of Read Now. -/
def State.readNowData (t : Taken) (code : RawCode) (s : State) : List Byte :=
  let v := valueOf t.kind t.divider code
  u8 t.chan.val ++ u16 code.toNat ++ i16 v ++ i16 (if t.kind = .temperature then wholeDegrees v else 0)
    ++ flag (s.env.trust != .trusted)

/-- R114: the scanner goes on after a Read Now conversion: the round with its next conversion, or the round
whose start waited. -/
def State.afterReadNow (s : State) : State :=
  match s.env.scanner with
  | .resting none => s.startRound
  | _ => s.nextConversion

/-- R114: the Read Now conversion ends: the scanner goes on, and the command is answered Done. -/
def State.readNowEnd (code : RawCode) (s : State) : State :=
  match s.env.conv with
  | some (.readNow t, due) =>
    let s := State.carry due { s with env := { s.env with conv := none } }
    let d := s.readNowData t code
    (s.afterReadNow).answer (doneWith d)
  | _ => s

/-! ## Tach gates and tray states (R115, R116, R121 to R123) -/

/-- The record of a tray. -/
def Fan.tray (f : Fan) (t : TrayId) : Tray := f.trays[t.val]

/-- The record of a tray takes a value. -/
def Fan.setTray (f : Fan) (t : TrayId) (r : Tray) : Fan := { f with trays := f.trays.set t.val r }

/-- The record of a tray in the whole part takes a value. -/
def State.setTray (t : TrayId) (r : Tray) (s : State) : State := { s with fan := s.fan.setTray t r }

/-- R130, R133: a change of the tray counts is handed to PWR. -/
def State.handTrays (good present : Nat → Nat) (s : State) : State :=
  s.onChassis (fun x => Chassis.handPwr x (fun i => { i with good := good i.good, present := present i.present }))

/-- R115: a pulse is counted while the tray's gate runs, up to 65,535. -/
def State.pulse (t : TrayId) (s : State) : State :=
  match s.env.gates[t.val] with
  | some g =>
    { s with env := { s.env with gates := s.env.gates.set t.val (some { g with count := min 65535 (g.count + 1) }) } }
  | none => s

/-- A gate that starts now, with the gate window in force (R115). -/
def State.newGate (s : State) : Gate := ⟨0, s.cfg.scanner.gateSecs, s.clockMs + s.cfg.scanner.gateSecs * 1000⟩

/-- R115: the RPM of a gate. -/
def Gate.rpm (g : Gate) : Nat := g.count * 60 / (2 * g.secs)

/-- R123: a tray becomes Failed. -/
def State.failTray (t : TrayId) (s : State) : State :=
  let s := State.raise .fanTrayFailed t.val (s.setTray t ⟨.failed, 0, 0⟩)
  State.handTrays (fun g => g - 1) id { s with fan := s.fan.full }

/-- R123: a Failed tray becomes Good. -/
def State.restoreTray (t : TrayId) (s : State) : State :=
  State.handTrays (fun g => g + 1) id (State.clear .fanTrayFailed t.val (s.setTray t ⟨.good, 0, 0⟩))

/-- R123: FAN takes a gate result. -/
def State.gateResult (t : TrayId) (rpm : Nat) (s : State) : State :=
  let r := s.fan.tray t
  let low : Bool := rpm < s.cfg.cooling.minRpm
  match r.state, low with
  | .good, false =>
    let s' := s.setTray t { r with low := 0, high := min 3 (r.high + 1) }
    if r.high = 2 then s'.clear .fanTrayFailed t.val else s'
  | .good, true => if 3 ≤ r.low + 1 then s.failTray t else s.setTray t { r with high := 0, low := r.low + 1 }
  | .failed, false => if 3 ≤ r.high + 1 then s.restoreTray t else s.setTray t { r with high := r.high + 1 }
  | .failed, true => s.setTray t { r with high := 0 }
  | .absent, _ => s

/-- R115: the end of a gate. -/
def State.gateEnd (t : TrayId) (s : State) : State :=
  match s.env.gates[t.val] with
  | some g =>
    let s := s.carry g.dueMs
    State.gateResult t g.rpm
      { s with env := { s.env with
          lastRpm := s.env.lastRpm.set t.val (some g.rpm)
          gates := s.env.gates.set t.val (some s.newGate) } }
  | none => s

/-- R116, R122: presence lost. -/
def State.trayLost (t : TrayId) (s : State) : State :=
  let was := (s.fan.tray t).state
  if was = .absent then s
  else
    let s : State :=
      { s with env := { s.env with gates := s.env.gates.set t.val none, lastRpm := s.env.lastRpm.set t.val none } }
    let s := s.setTray t ⟨.absent, 0, 0⟩
    let s := (s.raise .fanTrayAbsent t.val).clear .fanTrayFailed t.val
    s.handTrays (fun g => if was = .good then g - 1 else g) (fun n => n - 1)

/-- R116, R122: presence gained. -/
def State.trayGained (t : TrayId) (s : State) : State :=
  if (s.fan.tray t).state = .absent then
    let s : State := { s with env := { s.env with gates := s.env.gates.set t.val (some s.newGate) } }
    let s := s.setTray t ⟨.good, 0, 0⟩
    State.handTrays (fun g => g + 1) (fun n => n + 1) (s.clear .fanTrayAbsent t.val)
  else s

/-- A presence line takes a level. -/
def State.setPresence (t : TrayId) (b : Bool) (s : State) : State :=
  { s with trayPresent := s.trayPresent.set t.val b }

/-! ## Supply slots (R117, R118) -/

/-- R117: how a sample of a line pair reads. -/
def sampleReads (seated good : Bool) : SlotState :=
  match seated, good with
  | false, _ => .absent
  | true, true => .good
  | true, false => .fault

/-- R117: a slot after a sample. -/
def SlotRec.sample (r : SlotRec) (v : SlotState) : SlotRec :=
  if v = r.state then { r with candidate := none }
  else
    let n := match r.candidate with
      | some (c, k) => if c = v then k + 1 else 1
      | none => 1
    if 3 ≤ n then ⟨v, none⟩ else { r with candidate := some (v, n) }

/-- R118: the requests to the alarm unit when a slot takes a state, Supply Fault before Supply Absent (log
entry 39, DESIGN CHOICE). -/
def State.slotAlarms (i : SlotId) (v : SlotState) (s : State) : State :=
  let s := if v = .fault then s.raise .supplyFault i.val else s.clear .supplyFault i.val
  if v = .absent then s.raise .supplyAbsent i.val else s.clear .supplyAbsent i.val

/-- R117, R118: one slot's sample; a change of its state asks for its alarms and is then handed to PWR, whose
evaluation follows (the order is log entry 39, DESIGN CHOICE). -/
def State.sampleSlot (seated good : BitVec 4) (s : State) (i : SlotId) : State :=
  let old := s.env.slots[i.val]
  let new := old.sample (sampleReads (seated.getLsbD i.val) (good.getLsbD i.val))
  let s : State := { s with env := { s.env with slots := s.env.slots.set i.val new } }
  if new.state = old.state then s
  else
    State.onChassis (fun x => Chassis.handPwr x (fun p => { p with slots := p.slots.set i.val new.state }))
      (s.slotAlarms i new.state)

/-- R118: whether supply is settled. -/
def Env.settled (e : Env) : Bool := e.slots.toList.all (fun r => r.state != .unknown)

/-- R118: settlement is handed to PWR, which runs its first evaluation. -/
def State.handSettled (s : State) : State :=
  if s.env.settled && !s.chassis.pwr.inputs.settled then
    s.onChassis (fun x => Chassis.handPwr x (fun i => { i with settled := true }))
  else s

/-- R117: one sample of the four slots. -/
def State.supplySample (seated good : BitVec 4) (s : State) : State :=
  let s := s.carry s.env.sampleDue
  let s : State := { s with env := { s.env with sampleDue := s.env.sampleDue + Config.sampleMs } }
  ((List.finRange 4).foldl (State.sampleSlot seated good) s).handSettled

/-! ## Environment Read (R119) -/

/-- A number of a reading in two bytes, or the free bytes of its place where there is none (log entry 28). -/
def reading16 (place : Nat) : Option Int → List Byte
  | some v => i16 v
  | none => u16 (Config.absentField place).toNat

/-- R119: one channel. -/
def State.channelData (s : State) (i : ChanId) : List Byte :=
  let c := s.cfg.channel i
  let w := s.env.chan i
  let v := w.raw.map (valueOf c.kind c.divider)
  let bits := (if w.hi then 1 else 0) + (if w.lo then 2 else 0) + (if w.emergency then 4 else 0)
  flag c.enabled ++ u8 c.kind.code ++ u8 c.input.val ++ u8 c.divider ++ u8 c.role.code ++ i16 c.hiLimit
    ++ flag c.hiEnable ++ i16 c.loLimit ++ flag c.loEnable ++ u8 c.hysteresis ++ i16 c.critical ++ u8 c.target
    ++ flag v.isSome ++ reading16 i.val v
    ++ (if c.kind = .temperature then reading16 (16 + i.val) (v.map wholeDegrees) else i16 0)
    ++ codeBytes w.raw ++ u8 bits

/-- The four scanner settings as Scanner Set carries them. -/
def ScannerCfg.bytes (c : ScannerCfg) : List Byte :=
  flag c.enable ++ u16 c.restMs ++ u8 c.tolerance ++ u8 c.gateSecs

/-- R119: one slot. -/
def SlotRec.bytes (r : SlotRec) : List Byte :=
  u8 r.state.code ++
    match r.candidate with
    | some (c, n) => u8 c.code ++ u8 n
    | none => u8 0xFF ++ u8 0

/-- R119: Environment Read. -/
def State.environmentData (s : State) : List Byte :=
  allChans.flatMap s.channelData ++ flag s.env.inlet.isSome ++ reading16 32 s.env.inlet
    ++ u8 s.env.scanner.code ++ s.cfg.scanner.bytes ++ u8 s.env.trust.code ++ u8 s.env.fails ++ u8 s.env.passes
    ++ codeBytes s.env.refCode ++ flag s.env.thermal
    ++ (s.trayPresent.toList.zip s.env.lastRpm.toList).flatMap (fun e => flag e.1 ++ rpmBytes e.2)
    ++ s.env.slots.toList.flatMap SlotRec.bytes ++ flag s.env.settled

/-! ## The commands -/

/-- CHANNEL_SET (R103). -/
def execChannelSet (s : State) : Host.Outcome State Fault Refusal :=
  s.event (State.command .channelSet readChannelSet (fun _ f s => s.channelSet f))

/-- SCANNER_SET (R106). -/
def execScannerSet (s : State) : Host.Outcome State Fault Refusal :=
  s.event (State.command .scannerSet readScannerSet (fun _ f s => s.scannerSet f))

/-- READ_NOW (R114). -/
def execReadNow (s : State) : Host.Outcome State Fault Refusal := s.event State.readNow

/-- READ_NOW_CONVERSION_END (R114). -/
def execReadNowConversionEnd (code : RawCode) (s : State) : Host.Outcome State Fault Refusal :=
  s.event (State.readNowEnd code)

/-- ENVIRONMENT_READ (R119). -/
def execEnvironmentRead (s : State) : Host.Outcome State Fault Refusal :=
  s.event (State.command .environmentRead readUnit (fun _ _ s => (s, doneWith s.environmentData)))

/-- SETTLING_END (R106). -/
def execSettlingEnd (s : State) : Host.Outcome State Fault Refusal := s.event State.settlingEnd

/-- REST_INTERVAL_END (R106). -/
def execRestIntervalEnd (s : State) : Host.Outcome State Fault Refusal := s.event State.restEnd

/-- CONVERSION_END (R107). -/
def execConversionEnd (code : RawCode) (s : State) : Host.Outcome State Fault Refusal :=
  s.event (State.conversionEnd code)

/-- ROUND_END (R108). -/
def execRoundEnd (refCode : RawCode) (s : State) : Host.Outcome State Fault Refusal :=
  s.event (State.roundEnd refCode)

/-- TACH_PULSE (R115). -/
def execTachPulse (tray : TrayId) (s : State) : Host.Outcome State Fault Refusal := s.event (State.pulse tray)

/-- GATE_END (R115). -/
def execGateEnd (tray : TrayId) (s : State) : Host.Outcome State Fault Refusal := s.event (State.gateEnd tray)

/-- PRESENCE_LOST (R116): the line goes absent whatever the part does; the part acts on it as on any event,
and takes it at the release of a held RESET line (R191). -/
def execPresenceLost (tray : TrayId) (s : State) : Host.Outcome State Fault Refusal :=
  (s.setPresence tray false).event (State.trayLost tray)

/-- PRESENCE_GAINED (R116). -/
def execPresenceGained (tray : TrayId) (s : State) : Host.Outcome State Fault Refusal :=
  (s.setPresence tray true).event (State.trayGained tray)

/-- SUPPLY_SAMPLE (R117). -/
def execSupplySample (seated outputGood : BitVec 4) (s : State) : Host.Outcome State Fault Refusal :=
  s.event (State.supplySample seated outputGood)

end Sys2Proof.Machine
end

