-- ==== Sys2Proof/Machine/Cooling.lean ====
section
/-! DEFINITION. Chapter 6: Cooling Set and Cooling Read. What FAN does at round ends, gate ends and presence
changes stands in Scanner. -/

namespace Sys2Proof.Machine

/-- R125: the settings a Cooling Set leaves, none where one is out of range. -/
def CoolingSetForm.apply (f : CoolingSetForm) (c : CoolingCfg) : Option CoolingCfg := do
  let rpm ← orKeep f.minRpm (upTo 20000) c.minRpm
  let duty ← orKeep f.minDuty (within 20 100) c.minDuty
  let gain ← orKeep f.gain (within 1 20) c.gain
  some ⟨rpm, duty, gain⟩

/-- R125: a minimum duty above the current duty lifts both duties to it. -/
def Fan.lift (minDuty : Nat) (f : Fan) : Fan :=
  if f.current < minDuty then { f with current := minDuty, computed := minDuty } else f

/-- R125: Cooling Set. -/
def State.coolingSet (f : CoolingSetForm) (s : State) : State × Result :=
  match f.apply s.cfg.cooling with
  | none => (s, plain .refusedRange)
  | some new =>
    ({ s with
        cfg := { s.cfg with cooling := new }
        fan := if f.minDuty.isSome then s.fan.lift new.minDuty else s.fan },
      plain .done)

/-- The three cooling settings as Cooling Set carries them. -/
def CoolingCfg.bytes (c : CoolingCfg) : List Byte := u16 c.minRpm ++ u8 c.minDuty ++ u8 c.gain

/-- R132: one tray. -/
def State.trayData (s : State) (t : TrayId) : List Byte :=
  let r := s.fan.tray t
  u8 r.state.code ++ u8 r.low ++ u8 r.high ++ rpmBytes s.env.lastRpm[t.val] ++ u8 (s.fan.output r)

/-- R132: the override bits. -/
def State.overrideBits (s : State) : Nat :=
  (if s.fan.trays.toList.any (fun t => t.state == .failed) then 1 else 0)
    + (if s.env.trust ≠ .trusted then 2 else 0)
    + (if s.env.thermal then 4 else 0)
    + (if s.excesses.isEmpty then 8 else 0)

/-- R132: Cooling Read. -/
def State.coolingData (s : State) : List Byte :=
  u8 s.fan.current ++ u8 s.fan.computed ++ u8 s.overrideBits ++ flag s.fan.excess.isSome
    ++ reading16 33 s.fan.excess ++ s.cfg.cooling.bytes ++ (List.finRange 8).flatMap s.trayData

/-- COOLING_SET (R125). -/
def execCoolingSet (s : State) : Host.Outcome State Fault Refusal :=
  s.event (State.command .coolingSet readCoolingSet (fun _ f s => s.coolingSet f))

/-- COOLING_READ (R132). -/
def execCoolingRead (s : State) : Host.Outcome State Fault Refusal :=
  s.event (State.command .coolingRead readUnit (fun _ _ s => (s, doneWith s.coolingData)))

end Sys2Proof.Machine
end

