-- ==== Sys2Proof/Machine/CoreLink.lean ====
section
/-! DEFINITION. Chapter 9: the link events, the outbound frame end, management requests, the unknown command
code and Address Set. -/

namespace Sys2Proof.Machine

/-! ## Link events (R170 to R172) -/

/-- R170: line activity in DOWN starts training. -/
def State.activity (s : State) : State :=
  if s.link.state = .down then { s with link := { s.link with state := .training } } else s

/-- R172: training complete in TRAINING: the link is UP, the credits are set, and the resync begins with the
Permit Flush of the active set's generation. -/
def State.enterUp (s : State) : State :=
  if s.link.state = .training then
    State.startFrame (.permitFlush s.zone.generation)
      { s with link := { s.link with
          state := .up
          queryCredits := Config.queryCredits
          requestCredits := Config.requestCredits
          resync := some 0 } }
  else s

/-- Whether an outbound frame carries the response of a list whose Restart acts after it (R181). -/
def OutFrame.restarts : OutFrame → Bool
  | .response r => r.restart
  | _ => false

/-- R181: whether the responses that a loss of sync takes away hold back a Restart. -/
def Link.losesRestart (l : Link) : Bool :=
  l.responses.any Response.restart || l.frame.any OutFrame.restarts

/-- R171: what LINK and ADMIT empty when the link leaves UP. An Executing request keeps the processor. -/
def State.emptyLink (s : State) : State :=
  { s with
    link :=
      { s.link with
        state := .down
        verdicts := [], answers := [], responses := [], overload := none, waiting := []
        proc := s.link.proc.map (fun pr => { pr with live := false })
        resync := none, frame := none }
    queries := []
    chassis := { s.chassis with slots := [], logins := [] } }

/-- R24, R32: every drain in progress ends, in ascending port number. -/
def Chassis.endDrains (x : Ctx) (c : Chassis) : Chassis :=
  allPorts.foldl (fun c p => c.endDrainOf x (outer x) p) c

/-- R171, R24: the link leaves UP. A Restart that waited for a response lost here acts in this event
(R181), before the writer starts a write for a mark that an ended drain sets (log entry 41, DESIGN CHOICE). -/
def State.leaveUp (s : State) : State :=
  let restart := s.link.losesRestart
  let s := (s.emptyLink).onChassis Chassis.endDrains
  if restart then s.restartBy .command else s

/-- R170: loss of sync. -/
def State.lossOfSync (s : State) : State :=
  match s.link.state with
  | .down => s
  | .training => { s with link := { s.link with state := .down } }
  | .up => s.leaveUp

/-- R176: the frame being sent ends. A Restart that waited for it acts (R181); in a resync its next frame
starts (R172); otherwise the arbiter chooses at the event's end. -/
def State.frameEnd (s : State) : State :=
  match s.link.frame with
  | none => s
  | some f =>
    let s : State := { s with link := { s.link with frame := none } }
    if f.restarts then s.restartBy .command
    else
      match s.link.resync with
      | some k => s.resyncNext k
      | none => s

/-! ## Management requests (R175) -/

/-- R175: the overload reply of a request: every entry Busy. -/
def State.busyReply (origin number : Word16) (n : Nat) (s : State) : Response :=
  ⟨origin, number, s.cfg.mgmtAddr, List.replicate n (plain .busy), false⟩

/-- R175, R178: a request arrives. With a credit it joins the inbound request queue, and the processor takes
it where it holds none; without one an all-Busy reply is formed, and dropped where one is unsent. -/
def State.requestArrives (r : Request) (s : State) : State :=
  if 0 < s.link.requestCredits then
    State.takeRequest
      { s with link := { s.link with
          requestCredits := s.link.requestCredits - 1
          waiting := s.link.waiting ++ [r] } }
  else if s.link.overload.isNone then
    { s with link := { s.link with overload := some (s.busyReply r.origin r.number r.cmds.length) } }
  else s

/-! ## The processor's unknown code (R179) -/

/-- R179, check 1: the processor's next command has a code that names no command. -/
def State.unknownCode (s : State) : State :=
  match s.link.proc with
  | none => s
  | some pr =>
    match pr.left with
    | [] => s
    | e :: _ => if !pr.holding && (Cmd.ofCode? e.code).isNone then s.answer (plain .refusedUnknown) else s

/-! ## The commands -/

/-- LINE_ACTIVITY (R170). -/
def execLineActivity (s : State) : Host.Outcome State Fault Refusal := s.event State.activity

/-- TRAINING_COMPLETE (R170, R172). -/
def execTrainingComplete (s : State) : Host.Outcome State Fault Refusal := s.event State.enterUp

/-- LOSS_OF_SYNC (R170, R171). -/
def execLossOfSync (s : State) : Host.Outcome State Fault Refusal := s.event State.lossOfSync

/-- OUTBOUND_FRAME_END (R176). -/
def execOutboundFrameEnd (s : State) : Host.Outcome State Fault Refusal := s.event State.frameEnd

/-- MANAGEMENT_REQUEST (R175, R174). -/
def execManagementRequest (origin : Word16) (privilege : Byte) (number : Word16) (cmds : List CmdEntry)
    (s : State) : Host.Outcome State Fault Refusal :=
  s.event (State.frameIn (Instr.wf (.managementRequest origin privilege number cmds))
    (fun s =>
      match Privilege.ofByte? privilege with
      | some pv => s.requestArrives ⟨origin, pv, number, cmds⟩
      | none => s))

/-- DISCARDED_FRAME (R173): a frame that LINK discards has no effect on any block. -/
def execDiscardedFrame (_bytes : List Byte) (s : State) : Host.Outcome State Fault Refusal := s.event id

/-- UNKNOWN_COMMAND_CODE (R179). -/
def execUnknownCommandCode (s : State) : Host.Outcome State Fault Refusal := s.event State.unknownCode

/-- ADDRESS_SET (R183). -/
def execAddressSet (s : State) : Host.Outcome State Fault Refusal :=
  s.event (State.command .addressSet (readNat 3)
    (fun _ a s => ({ s with cfg := { s.cfg with mgmtAddr := BitVec.ofNat 24 a } }, plain .done)))

end Sys2Proof.Machine
end

