-- ==== Sys2Proof/Machine/Governor.lean ====
section
/-! DEFINITION. Chapter 7: Supply Set, Power Set, Power Read and the governor's three timers. The evaluation
stands in Power. -/

namespace Sys2Proof.Machine

/-- R134: the settings a Supply Set leaves, none where one is out of range. -/
def SupplySetForm.apply (f : SupplySetForm) (c : SupplyCfg) : Option SupplyCfg := do
  let a ← orKeep f.r0 (upTo 5000) c.ratings[0]
  let b ← orKeep f.r1 (upTo 5000) c.ratings[1]
  let d ← orKeep f.r2 (upTo 5000) c.ratings[2]
  let e ← orKeep f.r3 (upTo 5000) c.ratings[3]
  let m ← orKeep f.mode SupplyMode.ofNat? c.mode
  some ⟨#v[a, b, d, e], m⟩

/-- R134: Supply Set; an evaluation runs in the same event. -/
def State.supplySet (f : SupplySetForm) (s : State) : State × Result :=
  match f.apply s.cfg.supply with
  | none => (s, plain .refusedRange)
  | some new =>
    (State.onChassis Chassis.evaluate { s with cfg := { s.cfg with supply := new } }, plain .done)

/-- R138: the settings a Power Set leaves, none where one is out of range. -/
def PowerSetForm.apply (f : PowerSetForm) (c : PowerCfg) : Option PowerCfg := do
  let kn ← orKeep f.knee (within 20 60) c.knee
  let sl ← orKeep f.slope (upTo 50) c.slope
  let ui ← orKeep f.untrustedInlet (upTo 100) c.untrustedInlet
  let tc ← orKeep f.trayCapacity (upTo 2000) c.trayCapacity
  let rs ← orKeep f.reserve (upTo 1000) c.reserve
  let cb ← orKeep f.chassisBase (upTo 3000) c.chassisBase
  let bb ← orKeep f.bladeBase (upTo 500) c.bladeBase
  let td ← orKeep f.trayDraw (upTo 200) c.trayDraw
  let d1 ← orKeep f.d1 (upTo 50) c.d1
  let d2 ← orKeep f.d2 (upTo 50) c.d2
  let d3 ← orKeep f.d3 (upTo 50) c.d3
  let d4 ← orKeep f.d4 (upTo 50) c.d4
  let mg ← orKeep f.margin (upTo 1000) c.margin
  let ho ← orKeep f.holdoffSecs (upTo 600) c.holdoffSecs
  some ⟨kn, sl, ui, tc, rs, cb, bb, td, d1, d2, d3, d4, mg, ho⟩

/-- R138: Power Set; an evaluation runs in the same event. -/
def State.powerSet (f : PowerSetForm) (s : State) : State × Result :=
  match f.apply s.cfg.power with
  | none => (s, plain .refusedRange)
  | some new =>
    (State.onChassis Chassis.evaluate { s with cfg := { s.cfg with power := new } }, plain .done)

/-! ## Timers (R146, R148, R150) -/

/-- R146: the holdoff runs out. -/
def State.holdoffEnd (s : State) : State :=
  match s.chassis.pwr.holdoff with
  | some due =>
    State.onChassis (fun x c => Chassis.evaluate x (c.setPwr { c.pwr with holdoff := none })) (s.carry due)
  | none => s

/-- R150: the pacing window ends; an evaluation runs if the grant wait list holds any entry. -/
def Chassis.pacingEnd (x : Ctx) (c : Chassis) : Chassis :=
  let c := c.setPwr { c.pwr with pacing := none }
  if c.pwr.waitList.isEmpty then c else c.evaluate x

/-- R150: the pacing window ends. -/
def State.pacingEnd (s : State) : State :=
  match s.chassis.pwr.pacing with
  | some g => State.onChassis Chassis.pacingEnd (s.carry g.dueMs)
  | none => s

/-- R148: the wait timer runs out: Power Wait is raised, and the timer stops. -/
def Chassis.waitTimerEnd (x : Ctx) (c : Chassis) : Chassis :=
  let c := c.raise x .powerWait 0
  c.setPwr { c.pwr with powerWait := true, waitTimer := none }

/-- R148: the wait timer runs out. -/
def State.waitTimerEnd (s : State) : State :=
  match s.chassis.pwr.waitTimer with
  | some due => State.onChassis Chassis.waitTimerEnd (s.carry due)
  | none => s

/-! ## Power Read (R152) -/

/-- A stage in two bytes, 0xFFFF for none. -/
def stage16 (f : Stages → Nat) (st : Option Stages) : List Byte :=
  match st with
  | some st => u16 (f st)
  | none => u16 0xFFFF

/-- The number of grant records at a class (R152). -/
def Chassis.grantsAt (c : Chassis) (g : RateClass) : Nat :=
  (c.ports.toList.filter (fun r => r.granted == some g)).length

/-- R152: the whole seconds an entry has stood on the list, in two bytes; above 65,535 the free value of log
entry 19. -/
def WaitEntry.seconds (now : Nat) (e : WaitEntry) : Word16 :=
  let secs := (now - e.joinMs) / 1000
  if secs ≤ 65535 then BitVec.ofNat 16 secs else Config.waitSecondsOver e.port.val secs now

/-- R152: one entry of the grant wait list. -/
def State.waitData (s : State) (e : WaitEntry) : List Byte :=
  u8 e.port.val ++ u8 e.kind.code ++ u8 (s.cfg.port e.port).priority ++ u16 (e.seconds s.clockMs).toNat

/-- The fourteen settings of Power Set in bit order. -/
def PowerCfg.bytes (w : PowerCfg) : List Byte :=
  u8 w.knee ++ u8 w.slope ++ u8 w.untrustedInlet ++ u16 w.trayCapacity ++ u16 w.reserve ++ u16 w.chassisBase
    ++ u16 w.bladeBase ++ u8 w.trayDraw ++ u8 w.d1 ++ u8 w.d2 ++ u8 w.d3 ++ u8 w.d4 ++ u16 w.margin
    ++ u16 w.holdoffSecs

/-- R152: the pacing window: whether it runs, its count and the milliseconds left. The count is 0 while none
runs (R150); the milliseconds left then are the free value of log entry 28. -/
def pacingBytes (now : Nat) : Option Pacing → List Byte
  | some g => flag true ++ u8 g.count ++ u16 (g.dueMs - now)
  | none => flag false ++ u8 0 ++ u16 (Config.absentField 35).toNat

/-- R152: the inputs and stages. -/
def State.powerInputs (s : State) : List Byte :=
  let w := s.chassis.pwr
  let i := w.inputs
  (i.slots.toList.zip s.cfg.supply.ratings.toList).flatMap (fun e => u8 e.1.code ++ u16 e.2)
    ++ u8 s.cfg.supply.mode.code ++ flag i.settled ++ flag i.inlet.isSome ++ reading16 34 i.inlet
    ++ u8 i.trust.code
    ++ (match w.stages with
      | some st => i16 st.inletT
      | none => u16 0x7FFF)
    ++ flag i.thermal ++ u8 i.good ++ u8 i.present ++ u8 i.blades
    ++ stage16 Stages.raw w.stages ++ stage16 Stages.factor w.stages ++ stage16 Stages.electrical w.stages
    ++ stage16 Stages.cooling w.stages ++ stage16 Stages.available w.stages ++ u16 w.budget

/-- R152: the demand. -/
def State.powerDemand (s : State) : List Byte :=
  let i := s.chassis.pwr.inputs
  u16 (s.chassis.demand s.ctx) ++ u16 s.cfg.power.chassisBase ++ u16 (i.blades * s.cfg.power.bladeBase)
    ++ u16 (i.present * s.cfg.power.trayDraw) ++ u16 (s.chassis.portDraw s.ctx)
    ++ u16 (s.chassis.grantsAt .c1) ++ u16 (s.chassis.grantsAt .c2) ++ u16 (s.chassis.grantsAt .c3)
    ++ u16 (s.chassis.grantsAt .c4)

/-- R152: Power Read. -/
def State.powerData (s : State) : List Byte :=
  let w := s.chassis.pwr
  let ws := s.chassis.waitOrder s.ctx
  s.powerInputs ++ s.powerDemand ++ flag w.episode ++ secsLeft16 s.clockMs w.holdoff
    ++ pacingBytes s.clockMs w.pacing ++ u16 ws.length ++ ws.flatMap s.waitData ++ flag w.powerWait
    ++ s.cfg.power.bytes

/-! ## The commands -/

/-- SUPPLY_SET (R134). -/
def execSupplySet (s : State) : Host.Outcome State Fault Refusal :=
  s.event (State.command .supplySet readSupplySet (fun _ f s => s.supplySet f))

/-- POWER_SET (R138). -/
def execPowerSet (s : State) : Host.Outcome State Fault Refusal :=
  s.event (State.command .powerSet readPowerSet (fun _ f s => s.powerSet f))

/-- POWER_READ (R152). -/
def execPowerRead (s : State) : Host.Outcome State Fault Refusal :=
  s.event (State.command .powerRead readUnit (fun _ _ s => (s, doneWith s.powerData)))

/-- HOLDOFF_EXPIRY (R146). -/
def execHoldoffExpiry (s : State) : Host.Outcome State Fault Refusal := s.event State.holdoffEnd

/-- PACING_WINDOW_END (R150). -/
def execPacingWindowEnd (s : State) : Host.Outcome State Fault Refusal := s.event State.pacingEnd

/-- WAIT_TIMER_EXPIRY (R148). -/
def execWaitTimerExpiry (s : State) : Host.Outcome State Fault Refusal := s.event State.waitTimerEnd

end Sys2Proof.Machine
end

