-- ==== Sys2Proof/Machine/Licensing.lean ====
section
/-! DEFINITION. Chapter 4: the licence commands, the grace setting, the seconds counter and the hour tick. -/

namespace Sys2Proof.Machine

/-! ## Licence Install (R80) -/

/-- The blades of a scope; none where one is above 7. -/
def bladesOf? : List Nat → Option (List BladeId)
  | [] => some []
  | n :: ns =>
    if h : n < 8 then (bladesOf? ns).map (fun bs => ⟨n, h⟩ :: bs) else none

/-- R80: what only a Term licence carries: term hours 1..65,535 and, where given, a warn threshold, 168
otherwise; a Permanent licence carries neither. The outer none is a value out of range. What the kind must carry has
been judged by then in the command's form (R179, log entry 23). -/
def LicenceInstallForm.term? (f : LicenceInstallForm) : Option (Option Term) :=
  match f.term, f.hours, f.warn with
  | false, none, none => some none
  | true, some h, w => if 1 ≤ h then some (some ⟨h, h, w.getD 168⟩) else none
  | _, _, _ => none

/-- R80, check 1: the record a Licence Install adds, none where a value is out of range. -/
def LicenceInstallForm.record? (f : LicenceInstallForm) : Option LicenceRec := do
  let ceil ← RateClass.ofNum? f.ceiling
  let scope ← bladesOf? f.scope
  let term ← f.term?
  if f.id ≠ 0 ∧ 1 ≤ f.seats ∧ f.seats ≤ 256 ∧ f.scope.length ≤ 8 ∧ f.scope.Nodup then
    some ⟨BitVec.ofNat 16 f.id, f.seats, ceil, scope, term, .active⟩
  else none

/-- R80: Licence Install. -/
def State.licenceInstall (f : LicenceInstallForm) (s : State) : State × Result :=
  match f.record? with
  | none => (s, plain .refusedRange)
  | some r =>
    if (s.chassis.licence? r.id).isSome then (s, plain .refusedDuplicate)
    else if Config.licenceCap ≤ s.chassis.licences.length then (s, plain .refusedFull)
    else
      (s.onChassis (fun x c =>
          Chassis.pass x { c with licences := c.licences ++ [⟨r, []⟩], licencesDirty := true }),
        plain .done)

/-! ## Revoke, Remove, Warn Set and Grace Set (R81, R82, R93, R88) -/

/-- The licences a command names: 0 is out of range, and an id may be held by no record. -/
def Chassis.named (c : Chassis) (id : Nat) : Except Status Licence :=
  if id = 0 then .error .refusedRange
  else
    match c.licence? (BitVec.ofNat 16 id) with
    | some l => .ok l
    | none => .error .refusedUnknown

/-- The Licences section is marked dirty (R99). -/
def Chassis.markLicences (c : Chassis) : Chassis := { c with licencesDirty := true }

/-- R81: what a revocation does to the chassis. A binding pass that the rebinding caused in another block
follows it (log entry 7). -/
def Chassis.revoked (x : Ctx) (l : LicenceRec) (c : Chassis) : Chassis :=
  match l.state with
  | .revoked => c
  | .expired =>
    ((c.onLicence l.id (fun l => { l with record := { l.record with state := .revoked } })).clear x .licenseExpired
      l.id.toNat).markLicences
  | .active => ((c.revokeLicence x (inRebind x) l.id).passIfDue x (Chassis.evaluateInPass x)).markLicences

/-- R81: Licence Revoke. -/
def State.licenceRevoke (id : Nat) (s : State) : State × Result :=
  match s.chassis.named id with
  | .error st => (s, plain st)
  | .ok l => (s.onChassis (fun x c => c.revoked x l.record), plain .done)

/-- R82, R97: the record leaves the table; an Expired one has its License Expired condition cleared. -/
def Chassis.removeLicence (x : Ctx) (l : LicenceRec) (c : Chassis) : Chassis :=
  let c : Chassis := { c with licences := c.licences.filter (fun m => m.record.id != l.id) }
  let c := if l.state = .expired then c.clear x .licenseExpired l.id.toNat else c
  c.markLicences

/-- R82: Licence Remove. -/
def State.licenceRemove (id : Nat) (s : State) : State × Result :=
  match s.chassis.named id with
  | .error st => (s, plain st)
  | .ok l =>
    if l.record.state = .active then (s, plain .refusedState)
    else (s.onChassis (fun x c => c.removeLicence x l.record), plain .done)

/-- R93: Licence Warn Set. -/
def State.licenceWarnSet (f : WarnForm) (s : State) : State × Result :=
  match s.chassis.named f.id with
  | .error st => (s, plain st)
  | .ok l =>
    match l.record.term with
    | none => (s, plain .refusedState)
    | some _ =>
      (s.onChassis (fun _ c =>
          (c.onLicence l.record.id (fun m =>
            { m with record := { m.record with term := m.record.term.map (fun t => { t with warn := f.warn }) } })).markLicences),
        plain .done)

/-- R88: Grace Set. -/
def State.graceSet (n : Nat) (s : State) : State × Result :=
  if n ≤ 720 then ({ s with cfg := { s.cfg with graceLen := n } }, plain .done)
  else (s, plain .refusedRange)

/-! ## Licence Read (R98) -/

/-- A record as Licence Read returns it (spec 09, Licence Read). -/
def Licence.bytes (l : Licence) : List Byte :=
  let r := l.record
  u16 r.id.toNat ++ u8 (if r.term.isSome then 1 else 0) ++ u8 r.state.code ++ u16 r.seats
    ++ u16 l.bound.length ++ u8 r.ceiling.num ++ u8 r.scope.length ++ r.scope.flatMap (fun b => u8 b.val)
    ++ (match r.term with
      | some t => u16 t.hours ++ u16 t.remaining ++ u16 t.warn
      | none => [])

/-- R98: the summary form. -/
def State.licenceSummary (s : State) : List Byte :=
  u8 s.chassis.licences.length ++ s.chassis.licences.flatMap Licence.bytes
    ++ u16 s.chassis.seatWait.length ++ s.chassis.seatWait.flatMap (fun p => u8 p.val)
    ++ u16 (s.chassis.bindingCount .counted) ++ u16 (s.chassis.bindingCount .drainHold)
    ++ u16 s.cfg.graceLen ++ u16 s.hourSeconds

/-- R98: Licence Read. -/
def State.licenceRead (f : LicenceReadForm) (s : State) : Result :=
  match f with
  | .summary => doneWith s.licenceSummary
  | .one id =>
    match s.chassis.named id with
    | .error st => plain st
    | .ok l => doneWith (l.bytes ++ l.bound.flatMap (fun p => u8 p.val))

/-! ## The seconds counter and the hour tick (R91, R92, R191) -/

/-- R91, R191: a second of running time ends: the running-time counter and SEAT's seconds counter advance,
and the wrap of the latter from 3,599 is the hour tick, in the same event. -/
def State.secondEnds (s : State) : State :=
  let s := s.carry s.secondDueMs
  let tick : Bool := s.hourSeconds = 3599
  let s : State :=
    { s with
      secondDueMs := s.secondDueMs + 1000
      seconds := (s.seconds + 1) % 4294967296
      hourSeconds := if tick then 0 else s.hourSeconds + 1 }
  if tick then
    s.onChassis (fun x => Chassis.hourTick x (inRebind x) (fun c => c.passIfDue x (Chassis.evaluateInPass x)))
  else s

/-- R92: the hour tick is the second at which the seconds counter wraps; at any other it does not come (log
entry 25). -/
def State.hourTick (s : State) : State := if s.hourSeconds = 3599 then s.secondEnds else s

/-! ## The commands -/

/-- LICENCE_INSTALL (R80). -/
def execLicenceInstall (s : State) : Host.Outcome State Fault Refusal :=
  s.event (State.command .licenceInstall readLicenceInstall (fun _ f s => s.licenceInstall f))

/-- LICENCE_REVOKE (R81). -/
def execLicenceRevoke (s : State) : Host.Outcome State Fault Refusal :=
  s.event (State.command .licenceRevoke (readNat 2) (fun _ id s => s.licenceRevoke id))

/-- LICENCE_REMOVE (R82). -/
def execLicenceRemove (s : State) : Host.Outcome State Fault Refusal :=
  s.event (State.command .licenceRemove (readNat 2) (fun _ id s => s.licenceRemove id))

/-- LICENCE_WARN_SET (R93). -/
def execLicenceWarnSet (s : State) : Host.Outcome State Fault Refusal :=
  s.event (State.command .licenceWarnSet readWarn (fun _ f s => s.licenceWarnSet f))

/-- GRACE_SET (R88). -/
def execGraceSet (s : State) : Host.Outcome State Fault Refusal :=
  s.event (State.command .graceSet (readNat 2) (fun _ n s => s.graceSet n))

/-- LICENCE_READ (R98). -/
def execLicenceRead (s : State) : Host.Outcome State Fault Refusal :=
  s.event (State.command .licenceRead readLicenceRead (fun _ f s => (s, s.licenceRead f)))

/-- SECONDS_COUNTER_ADVANCE (R91, R191). -/
def execSecondsCounterAdvance (s : State) : Host.Outcome State Fault Refusal := s.event State.secondEnds

/-- HOUR_TICK (R92). -/
def execHourTick (s : State) : Host.Outcome State Fault Refusal := s.event State.hourTick

end Sys2Proof.Machine
end

