-- ==== Sys2Proof/Machine/PortEvents.lean ====
section
/-! DEFINITION. Chapter 1: the port and blade events, the drain timer and the four port commands. -/

namespace Sys2Proof.Machine

/-! ## Events -/

/-- LINK_UP (R8, R174). -/
def execLinkUp (port : PortId) (cls : Byte) (s : State) : Host.Outcome State Fault Refusal :=
  s.event (State.frameIn (Instr.wf (.linkUp port cls))
    (State.onChassis (fun _ c =>
      match RateClass.ofNum? cls.toNat with
      | some k => c.linkUp port k
      | none => c)))

/-- LINK_DOWN (R9, R174). -/
def execLinkDown (port : PortId) (s : State) : Host.Outcome State Fault Refusal :=
  s.event (State.frameIn true (State.onChassis (fun x => Chassis.linkDown x (outer x) port)))

/-- PORT_FAULT (R10, R174). -/
def execPortFault (port : PortId) (s : State) : Host.Outcome State Fault Refusal :=
  s.event (State.frameIn true (State.onChassis (fun x => Chassis.portFault x (outer x) port)))

/-- FAULT_CLEARED (R11, R174). -/
def execFaultCleared (port : PortId) (s : State) : Host.Outcome State Fault Refusal :=
  s.event (State.frameIn true (State.onChassis (fun x => Chassis.faultCleared x (outer x) port)))

/-- The blade of a blade byte within its range. -/
def bladeOfByte? (b : Byte) : Option BladeId := if h : b.toNat < 8 then some ⟨b.toNat, h⟩ else none

/-- BLADE_EVENT_INSERTED (R3, R174). -/
def execBladeEventInserted (blade : Byte) (s : State) : Host.Outcome State Fault Refusal :=
  s.event (State.frameIn (Instr.wf (.bladeEventInserted blade))
    (State.onChassis (fun x c =>
      match bladeOfByte? blade with
      | some b => c.insertBlade x b
      | none => c)))

/-- BLADE_EVENT_REMOVED (R4, R174). -/
def execBladeEventRemoved (blade : Byte) (s : State) : Host.Outcome State Fault Refusal :=
  s.event (State.frameIn (Instr.wf (.bladeEventRemoved blade))
    (State.onChassis (fun x c =>
      match bladeOfByte? blade with
      | some b => c.removeBlade x b
      | none => c)))

/-- R17: the drain timer of a port runs out. -/
def State.drainTimer (p : PortId) (s : State) : State :=
  match (s.chassis.port p).state with
  | .draining t due => State.onChassis (fun x => Chassis.drainEnd x (outer x) p t) (s.carry due)
  | _ => s

/-- DRAIN_TIMER_EXPIRY (R17). -/
def execDrainTimerExpiry (port : PortId) (s : State) : Host.Outcome State Fault Refusal :=
  s.event (State.drainTimer port)

/-! ## Port Enable and Port Disable (R12, R13) -/

/-- The administrative fields of a port take a value. -/
def Settings.setPort (c : Settings) (p : PortId) (a : PortAdmin) : Settings :=
  { c with ports := c.ports.set p.val a }

/-- A port's admin state is written. -/
def State.setEnabled (p : PortId) (b : Bool) (s : State) : State :=
  { s with cfg := s.cfg.setPort p { s.cfg.port p with enabled := b } }

/-- R12: Port Enable. -/
def State.portEnable (p : PortId) (s : State) : State :=
  (s.setEnabled p true).onChassis (fun x => Chassis.enablePort x (outer x) p)

/-- R13: Port Disable. -/
def State.portDisable (p : PortId) (s : State) : State :=
  (s.setEnabled p false).onChassis (fun x => Chassis.disablePort x (outer x) p)

/-- PORT_ENABLE (R12). -/
def execPortEnable (s : State) : Host.Outcome State Fault Refusal :=
  s.event (State.command .portEnable readPort (fun _ p s => (s.portEnable p, plain .done)))

/-- PORT_DISABLE (R13). -/
def execPortDisable (s : State) : Host.Outcome State Fault Refusal :=
  s.event (State.command .portDisable readPort (fun _ p s => (s.portDisable p, plain .done)))

/-! ## Port Set (R14) -/

/-- R14: the fields a Port Set leaves, none where a field given is out of its range. -/
def PortSetForm.apply (f : PortSetForm) (a : PortAdmin) : Option PortAdmin := do
  let cls ← match f.reqClass with
    | some n => RateClass.ofNum? n
    | none => some a.reqClass
  let prio ← match f.priority with
    | some n => if n ≤ 7 then some n else none
    | none => some a.priority
  let red ← match f.reducedOk with
    | some n => flagOf? n
    | none => some a.reducedOk
  let drain ← match f.drainSecs with
    | some n => if n ≤ 30 then some n else none
    | none => some a.drainSecs
  some ⟨a.enabled, cls, prio, red, drain⟩

/-- R2, R14: a changed requested rate class: the effective ceiling is computed again, and a grant above it
is brought down. -/
def Chassis.requestChanged (x : Ctx) (h : Hooks) (p : PortId) (c : Chassis) : Chassis :=
  Chassis.ceilingFell x h p
    (c.setPort p { c.port p with effCeil := effective (x.cfg.port p).reqClass (c.port p).seatCeil })

/-- R14: Port Set: the fields are written; a changed requested rate class or shed priority has its effects
and an evaluation (log entry 29). -/
def State.portSet (f : PortSetForm) (s : State) : State × Result :=
  let old := s.cfg.port f.port
  match f.apply old with
  | none => (s, plain .refusedRange)
  | some new =>
    let s := { s with cfg := s.cfg.setPort f.port new }
    let s := if new.reqClass = old.reqClass then s
      else s.onChassis (fun x => Chassis.requestChanged x (outer x) f.port)
    let s := if new.reqClass = old.reqClass ∧ new.priority = old.priority then s
      else s.onChassis Chassis.evaluate
    (s, plain .done)

/-- PORT_SET (R14). -/
def execPortSet (s : State) : Host.Outcome State Fault Refusal :=
  s.event (State.command .portSet readPortSet (fun _ f s => s.portSet f))

/-! ## Port Read (R15) -/

/-- The licence id of a binding, 0 unless a licence seat. -/
def Binding.licenceNo : Binding → Nat
  | .licence id => id.toNat
  | _ => 0

/-- Seconds left on the drain timer, rounded up; 0xFF for stopped. -/
def PortState.drainLeft (now : Nat) : PortState → Nat
  | .draining _ due => (due - now + 999) / 1000
  | _ => 0xFF

/-- A control state's code (spec 09, Codes). -/
def Control.code : Control → Nat
  | .disable => 0
  | .enable _ => 1

/-- R15: the record of a port as Port Read returns it. -/
def State.portData (p : PortId) (s : State) : List Byte :=
  let a := s.cfg.port p
  let r := s.chassis.port p
  u8 p.val ++ u8 (bladeOf p).val ++ flag (s.chassis.blade (bladeOf p)) ++ flag a.enabled ++ u8 a.reqClass.num
    ++ u8 a.priority ++ flag a.reducedOk ++ u8 a.drainSecs ++ u8 r.state.code ++ u8 r.control.code
    ++ u8 r.binding.code ++ u16 r.binding.licenceNo
    ++ u16 (if r.binding = .counted then s.chassis.graceOf p else 0)
    ++ classByte r.seatCeil ++ classByte r.effCeil ++ classByte r.granted ++ u8 r.state.targetCode
    ++ u8 (r.state.drainLeft s.clockMs) ++ classByte r.negotiated

/-- PORT_READ (R15). -/
def execPortRead (s : State) : Host.Outcome State Fault Refusal :=
  s.event (State.command .portRead readPort (fun _ p s => (s, doneWith (s.portData p))))

end Sys2Proof.Machine
end

