-- ==== Sys2Proof/Machine/StoreEvents.lean ====
section
/-! DEFINITION. Chapter 10: Save, Restart, Identity Read, the writer's completion, the standby monitor and the
two resets. -/

namespace Sys2Proof.Machine

/-! ## Save and Restart (R189, R191) -/

/-- R189: Save sets the Settings mark and is answered Started. -/
def State.save (s : State) : State × Result :=
  ({ s with store := { s.store with settingsDirty := true } }, plain .started)

/-- R191: the Restart command is answered Started; the Restart acts after the response (R181). -/
def State.restartCommand (pr : Proc) (s : State) : State × Result :=
  ({ s with link := { s.link with proc := some { pr with restart := true } } }, plain .started)

/-! ## Identity Read (R193) -/

/-- R193: the capacities, in the order of its table. -/
def capacities : List Nat :=
  [256, 8, 4, 8, 16, Config.zoneCap, Config.zoneMemberCap, Config.setMemberCap, Config.loginCap,
   Config.loginPortCap, Config.licenceCap, Config.alarmCap, 1, Config.noticeCap, Config.queryCredits,
   Config.requestCredits, 16]

/-- R193: Identity Read. -/
def State.identityData (s : State) : List Byte :=
  u16 0x0B27 ++ u16 0x0840 ++ u8 1 ++ capacities.flatMap u16 ++ u24 s.cfg.mgmtAddr.toNat
    ++ flag s.store.settingsDirty ++ flag s.store.settingsValid
    ++ flag s.store.zonesDirty ++ flag s.store.zonesValid
    ++ flag s.chassis.licencesDirty ++ flag s.store.licencesValid
    ++ u8 s.store.writer.code ++ u8 s.store.writer.sectionCode ++ u8 s.store.monitor.code
    ++ u8 s.store.cause.code ++ u32 s.seconds ++ flag s.store.startUp

/-! ## The writer's completion (R187) -/

/-- R187: the section holds the captured contents. -/
def Store.complete (st : Store) : SectionImage → Store
  | .settings c => { st with settings := some c, writer := .idle }
  | .zones z => { st with zones := some z, writer := .idle }
  | .licences l => { st with licences := some l, writer := .idle }

/-- R187: a write completes: the section holds its contents, Store Fault is cleared for it, and the writer is
Idle; the next write starts at the event's end. -/
def State.writeEnds (s : State) : State :=
  match s.store.writer with
  | .writing i => State.clear .storeFault i.code { s with store := s.store.complete i }
  | _ => s

/-! ## The standby monitor (R190) -/

/-- R190: the rail falls below the warning level: the 1 ms qualification starts. -/
def State.railLow (s : State) : State :=
  if s.store.monitor = .normal ∧ s.store.railLow = none then
    { s with store := { s.store with railLow := some (s.clockMs + 1) } }
  else s

/-- R191: while the RESET line is held the running time stands still; the clock is carried otherwise. -/
def State.carryUnlessHeld (dueMs : Nat) (s : State) : State := if s.resetHeld then s else s.carry dueMs

/-- The alarm unit takes an operation. -/
def State.onAlm (f : Ctx → Alm → Alm) (s : State) : State := s.onChassis (fun x c => { c with alm := f x c.alm })

/-- R190, R191: entry to Low: the marker is written, and Supply Dip is raised with the dip flag. -/
def State.enterLow (s : State) : State :=
  match s.store.railLow with
  | some due =>
    let s := s.carryUnlessHeld due
    State.onAlm Alm.dipRaise { s with store := { s.store with monitor := .low, railLow := none, marker := true } }
  | none => s

/-- R190: the rail is at the warning level again. From Low the monitor returns to Normal, clears the marker
(R191) and asks for the clear of Supply Dip; within the 1 ms nothing changes. -/
def State.railBack (s : State) : State :=
  match s.store.monitor with
  | .low => State.onAlm Alm.dipClear { s with store := { s.store with monitor := .normal, marker := false } }
  | _ => { s with store := { s.store with railLow := none } }

/-- R190, R188: the rail falls below the retention level: a write is cut off and the part stops. What it
held in volatile state is lost; no step reads it before the Cold Start (log entry 16). -/
def State.loseRail (s : State) : State :=
  { s with store := { s.store.cutOff with monitor := .lost, railLow := none } }

/-- R191: the Cold Start. The retention marker tells its cause and is cleared by it. -/
def State.coldStartNow (railNormal : Bool) (s : State) : State :=
  boot
    { s.store with
      monitor := if railNormal then .normal else .low
      railLow := none
      marker := false
      cause := if s.store.marker then .lossOfRetention else .powerOn }
    (fun x => Alm.coldStart x railNormal) 0 1000 0 0 s.trayPresent s.resetHeld s.pending

/-! ## The RESET line (R191, R192) -/

/-- R191: at the line's release each presence line that changed during the hold is taken. -/
def State.takePresence (s : State) (t : TrayId) : State :=
  if s.trayPresent[t.val] then s.trayGained t else s.trayLost t

/-- R192: start-up begins. -/
def State.release (s : State) : State := (List.finRange 8).foldl State.takePresence s

/-! ## The commands -/

/-- SAVE (R189). -/
def execSave (s : State) : Host.Outcome State Fault Refusal :=
  s.event (State.command .save readUnit (fun _ _ s => s.save))

/-- RESTART (R191): the Restart command. -/
def execRestart (s : State) : Host.Outcome State Fault Refusal :=
  s.event (State.command .restart readUnit (fun pr _ s => s.restartCommand pr))

/-- IDENTITY_READ (R193). -/
def execIdentityRead (s : State) : Host.Outcome State Fault Refusal :=
  s.event (State.command .identityRead readUnit (fun _ _ s => (s, doneWith s.identityData)))

/-- WRITE_COMPLETION (R187); the writer goes on while the RESET line is held (log entry 14). -/
def execWriteCompletion (s : State) : Host.Outcome State Fault Refusal := s.eventInHold State.writeEnds

/-- RAIL_BELOW_WARNING (R190). -/
def execRailBelowWarning (s : State) : Host.Outcome State Fault Refusal := s.eventInHold State.railLow

/-- STANDBY_LOW_ENTRY (R190). -/
def execStandbyLowEntry (s : State) : Host.Outcome State Fault Refusal := s.eventInHold State.enterLow

/-- STANDBY_RETURN_NORMAL (R190). -/
def execStandbyReturnNormal (s : State) : Host.Outcome State Fault Refusal := s.eventInHold State.railBack

/-- STANDBY_LOST (R190): the part stops and drives none of its outputs. -/
def execStandbyLost (s : State) : Host.Outcome State Fault Refusal :=
  if s.store.monitor = .lost then .next s else .next (s.loseRail).driveLines

/-- COLD_START (R190, R191): the rail rises to the retention level. -/
def execColdStart (railNormal : Bool) (s : State) : Host.Outcome State Fault Refusal :=
  if s.store.monitor = .lost then .next (s.coldStartNow railNormal).settle else .next s

/-- RESET_LINE_ASSERT (R191): the Restart by the line, which then holds the part. -/
def execResetLineAssert (s : State) : Host.Outcome State Fault Refusal :=
  let held : State := { s with resetHeld := true }
  if s.resetHeld = true ∨ s.store.monitor = .lost then .next held else .next (held.restartBy .line).settle

/-- RESET_LINE_RELEASE (R192). -/
def execResetLineRelease (s : State) : Host.Outcome State Fault Refusal :=
  State.event (fun t => if s.resetHeld then t.release else t) { s with resetHeld := false }

end Sys2Proof.Machine
end

