-- ==== Sys2Proof/Machine/Zoning.lean ====
section
/-! DEFINITION. Chapter 3: the zone sets, the edit claim, the edit commands, and the commit. -/

namespace Sys2Proof.Machine

/-! ## Names, zones and members (R49, R50) -/

/-- R49: the name characters: letters, digits, the hyphen and the underscore. -/
def nameChar (b : Byte) : Bool :=
  let n := b.toNat
  (0x41 ≤ n && n ≤ 0x5A) || (0x61 ≤ n && n ≤ 0x7A) || (0x30 ≤ n && n ≤ 0x39) || n == 0x2D || n == 0x5F

/-- R49, R50: 1 to 32 name characters. -/
def nameOk (n : List Byte) : Bool := 1 ≤ n.length && n.length ≤ 32 && n.all nameChar

/-- R50: a Range has its base no greater than its limit. -/
def Member.ok : Member → Bool
  | .port _ => true
  | .range b l => b.toNat ≤ l.toNat

/-- R50: the members of a set, counted over all its zones. -/
def ZoneSet.total (e : ZoneSet) : Nat := (e.zones.map (fun z => z.members.length)).sum

/-- The zone of a name. -/
def ZoneSet.zone? (e : ZoneSet) (n : List Byte) : Option Zone := e.zones.find? (fun z => z.name == n)

/-- A change of the zone of a name. -/
def ZoneSet.onZone (e : ZoneSet) (n : List Byte) (f : Zone → Zone) : ZoneSet :=
  { e with zones := e.zones.map (fun z => if z.name == n then f z else z) }

/-! ## What each edit command asks of the edit set: checks 3 to 6 of R58 -/

/-- R59: Set Rename. -/
def ZoneSet.rename (n : List Byte) (e : ZoneSet) : Except Status ZoneSet :=
  if nameOk n then .ok { e with name := n } else .error .refusedRange

/-- R59: Default Access Set. -/
def ZoneSet.setAccess (v : Nat) (e : ZoneSet) : Except Status ZoneSet :=
  match Access.ofNat? v with
  | some a => .ok { e with access := a }
  | none => .error .refusedRange

/-- R60: Zone Create. -/
def ZoneSet.create (f : ZoneCreateForm) (e : ZoneSet) : Except Status ZoneSet :=
  let k := f.position.getD e.zones.length
  if !nameOk f.name || e.zones.length < k then .error .refusedRange
  else if Config.zoneCap ≤ e.zones.length then .error .refusedFull
  else if (e.zone? f.name).isSome then .error .refusedDuplicate
  else .ok { e with zones := e.zones.take k ++ ⟨f.name, []⟩ :: e.zones.drop k }

/-- R61: Zone Delete. -/
def ZoneSet.delete (n : List Byte) (e : ZoneSet) : Except Status ZoneSet :=
  if !nameOk n then .error .refusedRange
  else if (e.zone? n).isNone then .error .refusedUnknown
  else .ok { e with zones := e.zones.filter (fun z => z.name != n) }

/-- R62: Zone Rename (log entry 22 for the order of checks 5 and 6). -/
def ZoneSet.renameZone (f : ZoneRenameForm) (e : ZoneSet) : Except Status ZoneSet :=
  if !nameOk f.old || !nameOk f.new then .error .refusedRange
  else if f.old ≠ f.new ∧ (e.zone? f.new).isSome then .error .refusedDuplicate
  else if (e.zone? f.old).isNone then .error .refusedUnknown
  else .ok (e.onZone f.old (fun z => { z with name := f.new }))

/-- R63: Member Add. The checks on one zone pass where it does not exist (R58). -/
def ZoneSet.addMember (f : MemberForm) (e : ZoneSet) : Except Status ZoneSet :=
  if !nameOk f.zone || !f.member.ok then .error .refusedRange
  else if Config.setMemberCap ≤ e.total then .error .refusedFull
  else
    match e.zone? f.zone with
    | none => .error .refusedUnknown
    | some z =>
      if Config.zoneMemberCap ≤ z.members.length then .error .refusedFull
      else if z.members.contains f.member then .error .refusedDuplicate
      else .ok (e.onZone f.zone (fun z => { z with members := z.members ++ [f.member] }))

/-- R64: Member Remove. -/
def ZoneSet.removeMember (f : MemberForm) (e : ZoneSet) : Except Status ZoneSet :=
  if !nameOk f.zone || !f.member.ok then .error .refusedRange
  else
    match e.zone? f.zone with
    | none => .error .refusedUnknown
    | some z =>
      if z.members.contains f.member then
        .ok (e.onZone f.zone (fun z => { z with members := z.members.filter (fun m => m != f.member) }))
      else .error .refusedUnknown

/-! ## The claim (R53 to R58) -/

/-- R65: whether a commit is in flight. -/
def Commit.inFlight : Commit → Bool
  | .validating _ => true
  | _ => false

/-- R55: the claim timer started with the full claim idle time. -/
def State.claimStart (s : State) : Option Nat := some (s.clockMs + s.cfg.claimIdle * 1000)

/-- R58: an edit command: the claim, the commit in flight, then the command's own checks; one that is
carried out restarts the claim timer unless a commit is armed (R55). -/
def State.editCommand (f : ZoneSet → Except Status ZoneSet) (pr : Proc) (s : State) : State × Result :=
  if s.zone.owner ≠ some pr.origin then (s, plain .refusedNoClaim)
  else if s.zone.commit.inFlight then (s, plain .busy)
  else
    match f s.zone.edit with
    | .error st => (s, plain st)
    | .ok e =>
      ({ s with zone := { s.zone with
          edit := e
          claimDue := if s.zone.commit = .armed then s.zone.claimDue else s.claimStart } },
        plain .done)

/-- R54: Edit Begin. -/
def State.editBegin (pr : Proc) (s : State) : State × Result :=
  if s.zone.commit.inFlight then (s, plain .busy)
  else
    match s.zone.owner with
    | some o => if o = pr.origin then (s, plain .done) else (s, plain .refusedClaimed)
    | none =>
      ({ s with zone := { s.zone with
          owner := some pr.origin
          edit := s.zone.active
          claimDue := if s.zone.commit = .armed then none else s.claimStart } },
        plain .done)

/-- R56, R57: the claim is given up: the edit set is reverted, the owner is none, the timer is stopped and
the condition of Zone Commit Failed is cleared (R74). -/
def State.dropClaim (s : State) : State :=
  State.clear .zoneCommitFailed 0
    { s with zone := { s.zone with edit := s.zone.active, owner := none, claimDue := none } }

/-- R57: Edit Abort. -/
def State.editAbort (pr : Proc) (s : State) : State × Result :=
  if s.zone.owner ≠ some pr.origin then (s, plain .refusedNoClaim)
  else if s.zone.commit.inFlight then (s, plain .busy)
  else (s.dropClaim, plain .done)

/-- R56: the claim timer runs out. -/
def State.claimTimer (s : State) : State :=
  match s.zone.claimDue, s.zone.owner with
  | some due, some o => ((s.carry due).dropClaim).notifyEvent .editExpired o.toNat
  | _, _ => s

/-- R55: Claim Time Set. -/
def State.claimTimeSet (n : Nat) (s : State) : State × Result :=
  if 30 ≤ n ∧ n ≤ 3600 then ({ s with cfg := { s.cfg with claimIdle := n } }, plain .done)
  else (s, plain .refusedRange)

/-! ## The commit (R66 to R71) -/

/-- R66: Zone Commit, at its place in the list. -/
def State.zoneCommit (pr : Proc) (s : State) : State × Result :=
  if s.zone.owner ≠ some pr.origin then (s, plain .refusedNoClaim)
  else
    match s.zone.commit with
    | .validating _ => (s, plain .busy)
    | .armed => (s, plain .refusedDuplicate)
    | .idle => ({ s with zone := { s.zone with commit := .armed, claimDue := none } }, plain .armed)

/-- R71: a Permit Flush marker joins the tail of the verdict queue; one still unsent is taken out. -/
def placeFlush (g : Word16) (q : List VerdictItem) : List VerdictItem :=
  q.filter (fun i => match i with | .flush _ => false | .verdict _ => true) ++ [.flush g]

/-- R70: the swap. -/
def State.swapSets (s : State) : State :=
  let g := s.zone.generation + 1#16
  let o := s.zone.owner.getD 0#16
  let s : State :=
    { s with
      zone := ⟨s.zone.edit, s.zone.edit, g, none, none, .idle, .swapped g o⟩
      link := { s.link with verdicts := placeFlush g s.link.verdicts }
      store := { s.store with zonesDirty := true } }
  (s.clear .zoneCommitFailed 0).notifyEvent .commitDone g.toNat

/-- R69: a failed validation; `i` is the index of the lowest-numbered empty zone. -/
def State.commitFails (i : Nat) (s : State) : State :=
  let o := s.zone.owner.getD 0#16
  let s : State :=
    { s with zone := { s.zone with commit := .idle, claimDue := s.claimStart, outcome := .failed i o } }
  (s.raise .zoneCommitFailed 0).notifyEvent .commitFailed i

/-- R68: the end of the validation time. -/
def State.validationEnd (s : State) : State :=
  match s.zone.commit with
  | .validating due =>
    let s := s.carry due
    match s.zone.edit.zones.findIdx? (fun z => z.members.isEmpty) with
    | some i => s.commitFails i
    | none => s.swapSets
  | _ => s

/-! ## Zone Read (R75, R76) -/

/-- One set in the summary form. -/
def ZoneSet.summary (e : ZoneSet) : List Byte :=
  nameBytes e.name ++ u8 e.access.code ++ u16 e.zones.length ++ u16 e.total

/-- The last commit outcome: its code, its value and its origin (spec 09, Zone Read). -/
def CommitOutcome.bytes : CommitOutcome → List Byte
  | .none => u8 0 ++ u16 0 ++ u16 0
  | .swapped g o => u8 1 ++ u16 g.toNat ++ u16 o.toNat
  | .failed i o => u8 2 ++ u16 i ++ u16 o.toNat

/-- R75: the summary. -/
def State.zoneSummary (s : State) : List Byte :=
  s.zone.active.summary ++ s.zone.edit.summary ++ u16 s.zone.generation.toNat
    ++ u16 (s.zone.owner.getD 0#16).toNat ++ secsLeft16 s.clockMs s.zone.claimDue ++ u8 s.zone.commit.code
    ++ s.zone.outcome.bytes

/-- The set that a set byte names. -/
def ZoneUnit.set? (z : ZoneUnit) : Nat → Option ZoneSet
  | 0 => some z.active
  | 1 => some z.edit
  | _ => none

/-- R76, list form: zones of `e` from index `start`, at most `count`. -/
def ZoneSet.listing (e : ZoneSet) (start count : Nat) : List Byte :=
  let zs := (e.zones.zipIdx.drop start).take count
  u8 zs.length ++ zs.flatMap (fun z => u16 z.2 ++ nameBytes z.1.name ++ u16 z.1.members.length)

/-- R76, zone form: the zone at an index. -/
def ZoneSet.zoneData (e : ZoneSet) (i : Nat) : Result :=
  match e.zones[i]? with
  | some z =>
    doneWith (u16 i ++ nameBytes z.name ++ u16 z.members.length ++ z.members.flatMap Member.bytes)
  | none => plain .refusedUnknown

/-- R75, R76: Zone Read. The list form judges its ranges before a start index above the number of zones (log
entry 38, DESIGN CHOICE). -/
def State.zoneRead (f : ZoneReadForm) (s : State) : Result :=
  match f with
  | .summary => doneWith s.zoneSummary
  | .list set start count =>
    match s.zone.set? set with
    | none => plain .refusedRange
    | some e =>
      if 512 < start || count < 1 || 64 < count then plain .refusedRange
      else if e.zones.length < start then plain .refusedUnknown
      else doneWith (e.listing start count)
  | .byIndex set i =>
    match s.zone.set? set with
    | none => plain .refusedRange
    | some e => if 511 < i then plain .refusedRange else e.zoneData i
  | .byName set n =>
    match s.zone.set? set with
    | none => plain .refusedRange
    | some e =>
      if !nameOk n then plain .refusedRange
      else
        match e.zones.findIdx? (fun z => z.name == n) with
        | some i => e.zoneData i
        | none => plain .refusedUnknown

/-! ## The commands -/

/-- EDIT_BEGIN (R54). -/
def execEditBegin (s : State) : Host.Outcome State Fault Refusal :=
  s.event (State.command .editBegin readUnit (fun pr _ s => s.editBegin pr))

/-- EDIT_ABORT (R57). -/
def execEditAbort (s : State) : Host.Outcome State Fault Refusal :=
  s.event (State.command .editAbort readUnit (fun pr _ s => s.editAbort pr))

/-- SET_RENAME (R59). -/
def execSetRename (s : State) : Host.Outcome State Fault Refusal :=
  s.event (State.command .setRename readName (fun pr n s => s.editCommand (ZoneSet.rename n) pr))

/-- DEFAULT_ACCESS_SET (R59). -/
def execDefaultAccessSet (s : State) : Host.Outcome State Fault Refusal :=
  s.event (State.command .defaultAccessSet (readNat 1) (fun pr v s => s.editCommand (ZoneSet.setAccess v) pr))

/-- ZONE_CREATE (R60). -/
def execZoneCreate (s : State) : Host.Outcome State Fault Refusal :=
  s.event (State.command .zoneCreate readZoneCreate (fun pr f s => s.editCommand (ZoneSet.create f) pr))

/-- ZONE_DELETE (R61). -/
def execZoneDelete (s : State) : Host.Outcome State Fault Refusal :=
  s.event (State.command .zoneDelete readName (fun pr n s => s.editCommand (ZoneSet.delete n) pr))

/-- ZONE_RENAME (R62). -/
def execZoneRename (s : State) : Host.Outcome State Fault Refusal :=
  s.event (State.command .zoneRename readZoneRename (fun pr f s => s.editCommand (ZoneSet.renameZone f) pr))

/-- MEMBER_ADD (R63). -/
def execMemberAdd (s : State) : Host.Outcome State Fault Refusal :=
  s.event (State.command .memberAdd readMember (fun pr f s => s.editCommand (ZoneSet.addMember f) pr))

/-- MEMBER_REMOVE (R64). -/
def execMemberRemove (s : State) : Host.Outcome State Fault Refusal :=
  s.event (State.command .memberRemove readMember (fun pr f s => s.editCommand (ZoneSet.removeMember f) pr))

/-- ZONE_COMMIT (R66). -/
def execZoneCommit (s : State) : Host.Outcome State Fault Refusal :=
  s.event (State.command .zoneCommit readUnit (fun pr _ s => s.zoneCommit pr))

/-- ZONE_READ (R75, R76). -/
def execZoneRead (s : State) : Host.Outcome State Fault Refusal :=
  s.event (State.command .zoneRead readZoneRead (fun _ f s => (s, s.zoneRead f)))

/-- CLAIM_TIME_SET (R55). -/
def execClaimTimeSet (s : State) : Host.Outcome State Fault Refusal :=
  s.event (State.command .claimTimeSet (readNat 2) (fun _ n s => s.claimTimeSet n))

/-- CLAIM_TIMER_EXPIRY (R56). -/
def execClaimTimerExpiry (s : State) : Host.Outcome State Fault Refusal := s.event State.claimTimer

/-- VALIDATION_END (R68). -/
def execValidationEnd (s : State) : Host.Outcome State Fault Refusal := s.event State.validationEnd

end Sys2Proof.Machine
end

