-- ==== Sys2Proof/Machine/Dispatch.lean ====
section
/-! DEFINITION. Which meaning each command has. -/

namespace Sys2Proof.Machine

/-- The effect of a command on everything but the queue. -/
def exec (i : Instr) (s : State) : Host.Outcome State Fault Refusal :=
  match i with
  | .admissionQuery tag ingress src dst cls => Sys2Proof.Machine.execAdmissionQuery tag ingress src dst cls s
  | .linkUp port cls => Sys2Proof.Machine.execLinkUp port cls s
  | .linkDown port => Sys2Proof.Machine.execLinkDown port s
  | .portFault port => Sys2Proof.Machine.execPortFault port s
  | .faultCleared port => Sys2Proof.Machine.execFaultCleared port s
  | .login port addr => Sys2Proof.Machine.execLogin port addr s
  | .logout port addr => Sys2Proof.Machine.execLogout port addr s
  | .bladeEventInserted blade => Sys2Proof.Machine.execBladeEventInserted blade s
  | .bladeEventRemoved blade => Sys2Proof.Machine.execBladeEventRemoved blade s
  | .managementRequest origin privilege number cmds => Sys2Proof.Machine.execManagementRequest origin privilege number cmds s
  | .discardedFrame bytes => Sys2Proof.Machine.execDiscardedFrame bytes s
  | .lineActivity => Sys2Proof.Machine.execLineActivity s
  | .trainingComplete => Sys2Proof.Machine.execTrainingComplete s
  | .lossOfSync => Sys2Proof.Machine.execLossOfSync s
  | .outboundFrameEnd => Sys2Proof.Machine.execOutboundFrameEnd s
  | .queryEvaluation => Sys2Proof.Machine.execQueryEvaluation s
  | .unknownCommandCode => Sys2Proof.Machine.execUnknownCommandCode s
  | .portEnable => Sys2Proof.Machine.execPortEnable s
  | .portDisable => Sys2Proof.Machine.execPortDisable s
  | .portSet => Sys2Proof.Machine.execPortSet s
  | .portRead => Sys2Proof.Machine.execPortRead s
  | .loginRead => Sys2Proof.Machine.execLoginRead s
  | .editBegin => Sys2Proof.Machine.execEditBegin s
  | .editAbort => Sys2Proof.Machine.execEditAbort s
  | .setRename => Sys2Proof.Machine.execSetRename s
  | .defaultAccessSet => Sys2Proof.Machine.execDefaultAccessSet s
  | .zoneCreate => Sys2Proof.Machine.execZoneCreate s
  | .zoneDelete => Sys2Proof.Machine.execZoneDelete s
  | .zoneRename => Sys2Proof.Machine.execZoneRename s
  | .memberAdd => Sys2Proof.Machine.execMemberAdd s
  | .memberRemove => Sys2Proof.Machine.execMemberRemove s
  | .zoneCommit => Sys2Proof.Machine.execZoneCommit s
  | .zoneRead => Sys2Proof.Machine.execZoneRead s
  | .claimTimeSet => Sys2Proof.Machine.execClaimTimeSet s
  | .licenceInstall => Sys2Proof.Machine.execLicenceInstall s
  | .licenceRevoke => Sys2Proof.Machine.execLicenceRevoke s
  | .licenceRemove => Sys2Proof.Machine.execLicenceRemove s
  | .licenceWarnSet => Sys2Proof.Machine.execLicenceWarnSet s
  | .graceSet => Sys2Proof.Machine.execGraceSet s
  | .licenceRead => Sys2Proof.Machine.execLicenceRead s
  | .channelSet => Sys2Proof.Machine.execChannelSet s
  | .scannerSet => Sys2Proof.Machine.execScannerSet s
  | .readNow => Sys2Proof.Machine.execReadNow s
  | .readNowConversionEnd code => Sys2Proof.Machine.execReadNowConversionEnd code s
  | .environmentRead => Sys2Proof.Machine.execEnvironmentRead s
  | .coolingSet => Sys2Proof.Machine.execCoolingSet s
  | .coolingRead => Sys2Proof.Machine.execCoolingRead s
  | .supplySet => Sys2Proof.Machine.execSupplySet s
  | .powerSet => Sys2Proof.Machine.execPowerSet s
  | .powerRead => Sys2Proof.Machine.execPowerRead s
  | .acknowledge => Sys2Proof.Machine.execAcknowledge s
  | .alarmSet => Sys2Proof.Machine.execAlarmSet s
  | .alarmRead => Sys2Proof.Machine.execAlarmRead s
  | .addressSet => Sys2Proof.Machine.execAddressSet s
  | .save => Sys2Proof.Machine.execSave s
  | .restart => Sys2Proof.Machine.execRestart s
  | .identityRead => Sys2Proof.Machine.execIdentityRead s
  | .secondsCounterAdvance => Sys2Proof.Machine.execSecondsCounterAdvance s
  | .hourTick => Sys2Proof.Machine.execHourTick s
  | .drainTimerExpiry port => Sys2Proof.Machine.execDrainTimerExpiry port s
  | .holdoffExpiry => Sys2Proof.Machine.execHoldoffExpiry s
  | .pacingWindowEnd => Sys2Proof.Machine.execPacingWindowEnd s
  | .waitTimerExpiry => Sys2Proof.Machine.execWaitTimerExpiry s
  | .claimTimerExpiry => Sys2Proof.Machine.execClaimTimerExpiry s
  | .validationEnd => Sys2Proof.Machine.execValidationEnd s
  | .settlingEnd => Sys2Proof.Machine.execSettlingEnd s
  | .restIntervalEnd => Sys2Proof.Machine.execRestIntervalEnd s
  | .conversionEnd code => Sys2Proof.Machine.execConversionEnd code s
  | .roundEnd refCode => Sys2Proof.Machine.execRoundEnd refCode s
  | .tachPulse tray => Sys2Proof.Machine.execTachPulse tray s
  | .gateEnd tray => Sys2Proof.Machine.execGateEnd tray s
  | .presenceLost tray => Sys2Proof.Machine.execPresenceLost tray s
  | .presenceGained tray => Sys2Proof.Machine.execPresenceGained tray s
  | .supplySample seated outputGood => Sys2Proof.Machine.execSupplySample seated outputGood s
  | .pulseTimerExpiry kind subject => Sys2Proof.Machine.execPulseTimerExpiry kind subject s
  | .railBelowWarning => Sys2Proof.Machine.execRailBelowWarning s
  | .standbyLowEntry => Sys2Proof.Machine.execStandbyLowEntry s
  | .standbyReturnNormal => Sys2Proof.Machine.execStandbyReturnNormal s
  | .standbyLost => Sys2Proof.Machine.execStandbyLost s
  | .coldStart railNormal => Sys2Proof.Machine.execColdStart railNormal s
  | .resetLineAssert => Sys2Proof.Machine.execResetLineAssert s
  | .resetLineRelease => Sys2Proof.Machine.execResetLineRelease s
  | .writeCompletion => Sys2Proof.Machine.execWriteCompletion s

end Sys2Proof.Machine
end

