-- ==== Sys2Proof/Machine/Step.lean ====
section
/-! DEFINITION. One step: the command at the front of the queue, or a millisecond of running time. -/

namespace Sys2Proof.Machine

/-- With no command waiting the block lets one millisecond of running time pass; in Lost and while the RESET
line is held the running time stands still (R190, R191; log entry 2, DESIGN CHOICE). -/
def State.idle (s : State) : State :=
  if s.store.monitor = .lost ∨ s.resetHeld = true then s else { s with clockMs := s.clockMs + 1 }

/-- One step: the command at the front of the queue is taken off it and has its effect. -/
def step (s : State) : Host.Outcome State Fault Refusal :=
  match s.pending with
  | [] => .next s.idle
  | c :: rest => exec c { s with pending := rest }

/-- The command that a word spells is put at the front of the queue; no word spells one (log entry 35). -/
def State.withFetchWord (s : State) (nbits w : Nat) : State :=
  match decodeTableWord nbits w with
  | some c => { s with pending := c :: s.pending }
  | none => s

end Sys2Proof.Machine
end

