-- ==== Sys2Proof/Safety.lean ====
section
/-! DEFINITION. The terms that claims use: when the part takes events, what of a state the end of an event
leaves alone (`State.blocks`), what a management command finds and leaves at the processor, and the
invariants of a safe run. -/

namespace Sys2Proof.Machine

/-- R190, R191: the part takes events: the rail is above the retention level and the RESET line is not held. -/
def State.Runs (s : State) : Prop := s.store.monitor ≠ .lost ∧ s.resetHeld = false

/-! ## What the end of an event leaves alone

At the end of every event Grace Running is judged, start-up may end, the writer may start a write, the arbiter
may start a frame, and the lines take their values (log entry 6). `State.blocks` is what of a state none of
these can change: a mark or the write it started counts as owed, and an item or the frame it left in counts as
outgoing. A command's effect is stated as the blocks it leaves. -/

/-- The frame of a verdict queue item. -/
def VerdictItem.frame : VerdictItem → OutFrame
  | .verdict v => .verdict v
  | .flush g => .permitFlush g

/-- The frame of an answer list item. -/
def Answer.frame : Answer → OutFrame
  | .login p a r => .loginAnswer p a r
  | .overload v => .verdict v

/-- Whether a frame comes from the verdict queue, the answer list or a resync's flush. -/
def OutFrame.verdictSide : OutFrame → Bool
  | .verdict _ | .loginAnswer _ _ _ | .permitFlush _ => true
  | .portControl _ _ | .response _ | .notice _ _ => false

/-- Whether a frame is a Port Control. -/
def OutFrame.controlSide : OutFrame → Bool
  | .portControl _ _ => true
  | .verdict _ | .loginAnswer _ _ _ | .permitFlush _ | .response _ | .notice _ _ => false

/-- Whether a frame is a response. -/
def OutFrame.responseSide : OutFrame → Bool
  | .response _ => true
  | .verdict _ | .loginAnswer _ _ _ | .permitFlush _ | .portControl _ _ | .notice _ _ => false

/-- The notice that a frame carries. -/
def OutFrame.notice? : OutFrame → Option Notice
  | .notice n _ => some n
  | .verdict _ | .loginAnswer _ _ _ | .permitFlush _ | .portControl _ _ | .response _ => none

/-- Verdicts, flushes and login answers, being sent or waiting. -/
def Link.verdictLine (l : Link) : List OutFrame :=
  l.frame.toList.filter OutFrame.verdictSide ++ (l.verdicts.map VerdictItem.frame ++ l.answers.map Answer.frame)

/-- Port Controls, being sent or waiting in their slots. -/
def controlLine (l : Link) (slots : List (PortId × Control)) : List OutFrame :=
  l.frame.toList.filter OutFrame.controlSide ++ slots.map (fun e => .portControl e.1 e.2)

/-- Responses and the overload reply, being sent or waiting. -/
def Link.responseLine (l : Link) : List OutFrame :=
  l.frame.toList.filter OutFrame.responseSide ++ (l.responses ++ l.overload.toList).map .response

/-- The verdicts that wait in the verdict queue; a marker is none (R34). -/
def VerdictItem.isVerdict : VerdictItem → Bool
  | .verdict _ => true
  | .flush _ => false

/-- The number of unsent verdicts in the verdict queue (R34). -/
def Link.unsentVerdicts (l : Link) : Nat := (l.verdicts.filter VerdictItem.isVerdict).length

/-- Whether a section is marked or is being written. -/
def owed (mark : Bool) (code : Nat) (w : Writer) : Bool :=
  mark || match w with
    | .writing i => i.code == code
    | .idle | .held => false

/-- What the end of an event leaves alone. `alarms` are the entries but Grace Running's; `queryRoom` and
`requestRoom` are the credits with those that the waiting items will return. -/
structure Blocks where
  cfg           : Settings
  clockMs       : Nat
  secondDueMs   : Nat
  seconds       : Nat
  hourSeconds   : Nat
  blades        : Vector Bool 8
  ports         : Vector PortRec 256
  logins        : List LoginEntry
  licences      : List Licence
  grace         : Vector Nat 256
  seatWait      : List PortId
  passDue       : Bool
  pwr           : Pwr
  alarms        : List AlarmEntry
  dip           : Bool
  queries       : List Query
  env           : Env
  fan           : Fan
  zone          : ZoneUnit
  linkState     : LinkState
  waiting       : List Request
  proc          : Option Proc
  resync        : Option Nat
  resyncDone    : Bool
  queryRoom     : Nat
  requestRoom   : Nat
  verdictLine   : List OutFrame
  controlLine   : List OutFrame
  responseLine  : List OutFrame
  settings      : Option Settings
  zones         : Option ZoneImage
  licenceStore  : Option LicenceImage
  settingsValid : Bool
  zonesValid    : Bool
  licencesValid : Bool
  settingsOwed  : Bool
  zonesOwed     : Bool
  licencesOwed  : Bool
  monitor       : Monitor
  railLow       : Option Nat
  marker        : Bool
  cause         : ResetCause
  trayPresent   : Vector Bool 8
  resetHeld     : Bool
  pending       : List Instr
  deriving DecidableEq, Repr

/-- What of a state the end of an event leaves alone. -/
def State.blocks (s : State) : Blocks :=
  { cfg := s.cfg
    clockMs := s.clockMs
    secondDueMs := s.secondDueMs
    seconds := s.seconds
    hourSeconds := s.hourSeconds
    blades := s.chassis.blades
    ports := s.chassis.ports
    logins := s.chassis.logins
    licences := s.chassis.licences
    grace := s.chassis.grace
    seatWait := s.chassis.seatWait
    passDue := s.chassis.passDue
    pwr := s.chassis.pwr
    alarms := s.chassis.alm.entries.filter (fun e => !e.hasKey .graceRunning 0)
    dip := s.chassis.alm.dip
    queries := s.queries
    env := s.env
    fan := s.fan
    zone := s.zone
    linkState := s.link.state
    waiting := s.link.waiting
    proc := s.link.proc
    resync := s.link.resync
    resyncDone := s.link.resyncDone
    queryRoom := s.link.queryCredits + s.link.unsentVerdicts
    requestRoom := s.link.requestCredits + s.link.responses.length
    verdictLine := s.link.verdictLine
    controlLine := Machine.controlLine s.link s.chassis.slots
    responseLine := s.link.responseLine
    settings := s.store.settings
    zones := s.store.zones
    licenceStore := s.store.licences
    settingsValid := s.store.settingsValid
    zonesValid := s.store.zonesValid
    licencesValid := s.store.licencesValid
    settingsOwed := owed s.store.settingsDirty 0 s.store.writer
    zonesOwed := owed s.store.zonesDirty 1 s.store.writer
    licencesOwed := owed s.chassis.licencesDirty 2 s.store.writer
    monitor := s.store.monitor
    railLow := s.store.railLow
    marker := s.store.marker
    cause := s.store.cause
    trayPresent := s.trayPresent
    resetHeld := s.resetHeld
    pending := s.pending }

/-- `exec c` completes at `s` and leaves the blocks of `s'`. -/
def Leaves (c : Instr) (s s' : State) : Prop := ∃ t, exec c s = .next t ∧ t.blocks = s'.blocks

/-- Notices, being sent or waiting. -/
def State.noticeLine (s : State) : List Notice := s.link.frame.toList.filterMap OutFrame.notice? ++ s.chassis.alm.notices

/-! ## The processor and a command (R178 to R181) -/

/-- The processor's next command, in a state that takes events, is the entry `e`, and no Read Now holds it. -/
def State.Next (s : State) (pr : Proc) (e : CmdEntry) : Prop :=
  s.Runs ∧ s.link.proc = some pr ∧ pr.holding = false ∧ pr.left.head? = some e

/-- The next command is `cmd`, its form reads as `a` and its privilege is stamped: the checks of R179 pass. -/
def State.Serves {α : Type} (s : State) (pr : Proc) (cmd : Cmd) (read : List Byte → Option α) (a : α) : Prop :=
  ∃ params, s.Next pr ⟨cmd.code, params⟩ ∧ read params = some a ∧ cmd.privilege.rank ≤ pr.privilege.rank

/-- The list goes on after the next command. -/
def Proc.goesOn (pr : Proc) : Prop := 2 ≤ pr.left.length

/-- The state with the result of the next command recorded and the processor at the one after it (R178). -/
def State.recorded (s : State) (pr : Proc) (r : Result) : State :=
  { s with link := { s.link with
      proc := some { pr with results := pr.results ++ [r], left := pr.left.tail, holding := false } } }

/-! ## Invariants -/

/-- R176: while the link is UP and the resync has ended, a link without a frame has nothing to send. -/
def State.ArbiterRests (s : State) : Prop :=
  s.link.state = .up → s.link.resync = none → s.link.frame = none →
    s.link.verdicts = [] ∧ s.link.answers = [] ∧ s.chassis.slots = [] ∧ s.link.responses = [] ∧
      s.link.overload = none ∧ s.chassis.alm.notices = []

/-- R187: an Idle writer has no mark to serve, and a Held one waits for the dip flag to clear. -/
def State.WriterRests (s : State) : Prop :=
  (s.store.writer = .idle → s.marked = false) ∧ (s.store.writer = .held → s.chassis.alm.dip = true)

/-- R90: Grace Running stands exactly while a port holds a grace binding. -/
def State.GraceAgrees (s : State) : Prop :=
  s.chassis.graceRunning = true ↔ ∃ p, (s.chassis.port p).binding.isGrace = true

/-- R192: start-up has ended once a resync has ended and supply is settled. -/
def State.StartUpAgrees (s : State) : Prop :=
  s.link.resyncDone = true → s.chassis.pwr.inputs.settled = true → s.store.startUp = false

/-- R163: an entry drives its severity's line: its relay is enabled, and in mode Held it is Raised or
Cleared-Unacknowledged, in mode Pulsed it is Raised and its pulse timer runs. -/
def AlarmEntry.Drives (relays : Vector RelayCfg 20) (e : AlarmEntry) : Prop :=
  let r := relays[e.kind.code.val]
  r.enable = true ∧
    ((r.mode = .held ∧ (e.state = .raised ∨ e.state = .clearedUnack)) ∨
     (r.mode = .pulsed ∧ e.state = .raised ∧ e.pulse ≠ none))

/-- R163: the line of a severity is driven: some entry of that severity drives it, Alarm Table Full's included. -/
def Alm.Driven (relays : Vector RelayCfg 20) (sev : Severity) (a : Alm) : Prop :=
  ∃ e ∈ a.entries ++ a.full.toList, severityOf e.kind = sev ∧ e.Drives relays

/-- R163, R129: the relay lines and the fan outputs are as the alarm table and the trays say. -/
def State.LinesAgree (s : State) : Prop :=
  (s.lines.crit = true ↔ s.chassis.alm.Driven s.cfg.relays .critical) ∧
  (s.lines.major = true ↔ s.chassis.alm.Driven s.cfg.relays .major) ∧
  (s.lines.minor = true ↔ s.chassis.alm.Driven s.cfg.relays .minor) ∧
  ∀ t : TrayId, s.lines.fans[t.val] =
    some (if (s.fan.tray t).state = .good then s.fan.current else 100)

/-- What stands between events while the rail is above the retention level. -/
def State.AtRest (s : State) : Prop :=
  s.store.monitor ≠ .lost →
    s.ArbiterRests ∧ s.WriterRests ∧ s.GraceAgrees ∧ s.StartUpAgrees ∧ s.LinesAgree

/-- Grace Running and the start-up flag agree with the state, so that an event's end raises or clears no alarm and
forms no notice of its own. -/
def State.EndAgrees (s : State) : Prop := s.GraceAgrees ∧ s.StartUpAgrees

/-- `exec c` completes at `s` and leaves the blocks of `s'`; where the event's end has nothing to judge, it leaves
the alarm entries, the reserved place and the notices of `s'` as well. -/
def LeavesAlarms (c : Instr) (s s' : State) : Prop :=
  ∃ t, exec c s = .next t ∧ t.blocks = s'.blocks ∧
    (s.EndAgrees → t.chassis.alm.entries = s'.chassis.alm.entries ∧ t.chassis.alm.full = s'.chassis.alm.full ∧
      t.noticeLine = s'.noticeLine)

/-- R155, R157, R165: the alarm table holds at most 64 entries, no key twice, the reserved place only Alarm
Table Full, and the notice queue at most 32 notices. -/
def Alm.Ok (a : Alm) : Prop :=
  a.entries.length ≤ Config.alarmCap ∧
  (a.entries.map (fun e => (e.kind, e.subject))).Nodup ∧
  (∀ e ∈ a.full, e.kind = .alarmTableFull ∧ e.subject = 0) ∧
  a.notices.length ≤ Config.noticeCap

/-- 1 while the processor executes a request of the inbound request queue (R175, R171). -/
def Link.liveProc (l : Link) : Nat :=
  match l.proc with
  | some pr => if pr.live then 1 else 0
  | none => 0

/-- R29: the answer list holds at most 64 items; R71: the verdict queue at most one marker; R34: while the link
is UP the credit count is 64 less the queries and the unsent verdicts; R175: and the request credit count 8
less the requests in the queue; R171: while it is not UP these are empty; R178: a processor that holds no request
leaves none waiting. -/
def State.CreditsOk (s : State) : Prop :=
  s.link.answers.length ≤ Config.answerCap ∧
  (s.link.verdicts.filter (fun i => !i.isVerdict)).length ≤ 1 ∧
  (s.link.state = .up →
    s.link.queryCredits + s.queries.length + s.link.unsentVerdicts = Config.queryCredits ∧
    s.link.requestCredits + s.link.waiting.length + s.link.liveProc + s.link.responses.length
      = Config.requestCredits) ∧
  (s.link.state ≠ .up →
    s.queries = [] ∧ s.link.unsentVerdicts = 0 ∧ s.link.waiting = [] ∧ s.link.liveProc = 0 ∧
      s.link.responses = []) ∧
  (s.link.proc = none → s.link.waiting = [])

/-- R26: no address twice, at most 1,024 entries and at most 16 for a port. -/
def Chassis.LoginsOk (c : Chassis) : Prop :=
  (c.logins.map LoginEntry.addr).Nodup ∧ c.logins.length ≤ Config.loginCap ∧
    ∀ p, c.loginCount p ≤ Config.loginPortCap

/-- R50: a zone within its limits. -/
def Zone.Ok (z : Zone) : Prop :=
  nameOk z.name = true ∧ z.members.Nodup ∧ z.members.length ≤ Config.zoneMemberCap ∧
    ∀ m ∈ z.members, m.ok = true

/-- R49 to R51: a zone set within its limits. -/
def ZoneSet.Ok (e : ZoneSet) : Prop :=
  nameOk e.name = true ∧ e.zones.length ≤ Config.zoneCap ∧ (e.zones.map Zone.name).Nodup ∧
    e.total ≤ Config.setMemberCap ∧ ∀ z ∈ e.zones, z.Ok

/-- R51: no zone of the set is empty. -/
def ZoneSet.Full (e : ZoneSet) : Prop := ∀ z ∈ e.zones, z.members ≠ []

/-- The zone set that a section's write holds (R187). -/
def SectionImage.zoneSet? : SectionImage → Option ZoneSet
  | .zones z => some z.set
  | .settings _ | .licences _ => none

/-- The zone set of a write under way. -/
def Writer.zoneSet? : Writer → Option ZoneSet
  | .writing i => i.zoneSet?
  | .idle | .held => none

/-- R51: both sets are within their limits and the active set has no empty zone; so have the stored set and one
that is being written (R77). -/
def State.ZonesOk (s : State) : Prop :=
  s.zone.active.Ok ∧ s.zone.active.Full ∧ s.zone.edit.Ok ∧
  (∀ z ∈ s.store.zones, z.set.Ok ∧ z.set.Full) ∧
  (∀ e ∈ s.store.writer.zoneSet?, e.Ok ∧ e.Full)

/-- R48: while no claim is held and no commit is in flight the edit set equals the active set; R53: the claim
timer does not run without a claim; R65: a commit in flight has a claim. -/
def ZoneUnit.ClaimOk (z : ZoneUnit) : Prop :=
  (z.owner = none → z.edit = z.active ∧ z.claimDue = none ∧ z.commit.inFlight = false) ∧
  (z.commit ≠ .idle → z.claimDue = none)

/-- The same of the whole part, with R66: while a result of the list under way is Armed, the commit is armed. -/
def State.ClaimOk (s : State) : Prop :=
  s.zone.ClaimOk ∧ ∀ pr ∈ s.link.proc, (∃ r ∈ pr.results, r.status = .armed) → s.zone.commit = .armed

/-- R125: the minimum duty of a settings value is at most 100. -/
def Settings.dutyOk (c : Settings) : Prop := c.cooling.minDuty ≤ 100

/-- The settings that a write under way holds. -/
def Writer.settings? : Writer → Option Settings
  | .writing (.settings c) => some c
  | .writing (.zones _) | .writing (.licences _) | .idle | .held => none

/-- R128: the fan duty lies between the minimum duty and 100, and equals 100 whenever a tray is Failed, trust is
not Trusted or thermal emergency is set. -/
def State.DutyOk (s : State) : Prop :=
  s.cfg.dutyOk ∧ (∀ c ∈ s.store.settings, c.dutyOk) ∧ (∀ c ∈ s.store.writer.settings?, c.dutyOk) ∧
  s.cfg.cooling.minDuty ≤ s.fan.current ∧ s.fan.current ≤ 100 ∧
  (s.overridden = true → s.fan.current = 100)

/-- R79: the number of bound seats never exceeds the seat count, and an Expired or Revoked licence has none. -/
def Licence.Ok (l : Licence) : Prop :=
  l.bound.length ≤ l.record.seats ∧ (l.record.state ≠ .active → l.bound = [])

/-- R78, R79: at most 32 records, ids distinct, each licence within its seats. -/
def Chassis.LicencesOk (c : Chassis) : Prop :=
  c.licences.length ≤ Config.licenceCap ∧ (c.licences.map (fun l => l.record.id)).Nodup ∧
    ∀ l ∈ c.licences, l.Ok

/-- The records a write under way holds. -/
def Writer.records? : Writer → Option (List LicenceRec)
  | .writing (.licences l) => some l.records
  | .writing (.zones _) | .writing (.settings _) | .idle | .held => none

/-- R78: a stored licence table. -/
def recordsOk (rs : List LicenceRec) : Prop :=
  rs.length ≤ Config.licenceCap ∧ (rs.map LicenceRec.id).Nodup

/-- R78, R79, with what the store holds and what is being written. -/
def State.LicencesOk (s : State) : Prop :=
  s.chassis.LicencesOk ∧ (∀ l ∈ s.store.licences, recordsOk l.records) ∧
    ∀ rs ∈ s.store.writer.records?, recordsOk rs

/-! ## The table of the nine states (chapter 1) -/

/-- R5: the states in which a port holds a grant and is enabled in the core. -/
def PortState.runs : PortState → Bool
  | .linkWait | .online | .draining _ _ => true
  | .absent | .disabled | .unseated | .powerWait | .shed | .fault => false

/-- The states in which a port holds a seat binding. -/
def PortState.seated : PortState → Bool
  | .powerWait | .linkWait | .online | .draining _ _ | .shed | .fault => true
  | .absent | .disabled | .unseated => false

/-- R147: the kind of the grant wait list entry of a port in a state. -/
def PortState.waitKind : PortState → Option WaitKind
  | .powerWait => some .powerWait
  | .shed => some .shed
  | .absent | .disabled | .unseated | .linkWait | .online | .draining _ _ | .fault => none

/-- The row of the table of the nine states for one port: seat binding and seat ceiling, grant, seat wait list,
grant wait list (with its one entry's kind), and its blade. -/
def Chassis.RowOk (c : Chassis) (p : PortId) : Prop :=
  ((c.port p).binding ≠ .none ↔ (c.port p).state.seated = true) ∧
  (c.port p).seatCeil.isSome = (c.port p).state.seated ∧
  (c.port p).granted.isSome = (c.port p).state.runs ∧
  (p ∈ c.seatWait ↔ (c.port p).state = .unseated) ∧
  (c.pwr.waitList.filter (fun e => e.port == p)).map WaitEntry.kind = (c.port p).state.waitKind.toList ∧
  ((c.port p).state = .absent ↔ c.blade (bladeOf p) = false)

/-- R2: the effective ceiling is the lower of the requested rate class and the seat ceiling; R140: a granted class
is at most the effective ceiling. -/
def State.CeilingOk (s : State) (p : PortId) : Prop :=
  (s.chassis.port p).effCeil = effective (s.cfg.port p).reqClass (s.chassis.port p).seatCeil ∧
  ∀ g ∈ (s.chassis.port p).granted, ∃ e ∈ (s.chassis.port p).effCeil, g.num ≤ e.num

/-- The table of the nine states, R2, R86 and R140. -/
def State.PortsOk (s : State) : Prop :=
  (∀ p, s.chassis.RowOk p) ∧ s.chassis.seatWait.Nodup ∧ ∀ p, s.CeilingOk p

/-! ## What the blocks say of one port together -/

/-- R79: a port stands on a licence's bound seat list exactly where its binding is a seat of that licence, and once;
a port is so on at most one list. -/
def Chassis.BindingsOk (c : Chassis) : Prop :=
  (∀ p id, (c.port p).binding = .licence id ↔ ∃ l ∈ c.licences, l.record.id = id ∧ p ∈ l.bound) ∧
  ∀ l ∈ c.licences, l.bound.Nodup

/-- R26: every login entry names a port in ONLINE or DRAINING; R16: a port in DRAINING has a login; R177: no port
twice in the port-control slots. -/
def Chassis.TrafficOk (c : Chassis) : Prop :=
  (∀ e ∈ c.logins, (c.port e.port).state = .online ∨ (c.port e.port).state.isDraining = true) ∧
  (∀ p, (c.port p).state.isDraining = true → 0 < c.loginCount p) ∧
  (c.slots.map Prod.fst).Nodup

/-- R144: the committed demand is above the budget only while every port that holds a grant is Protected; R143: while
supply is not settled no port holds one. -/
def State.DemandOk (s : State) : Prop :=
  if s.chassis.pwr.inputs.settled = true then
    s.chassis.demand s.ctx ≤ s.chassis.pwr.budget ∨
      ∀ p, (s.chassis.port p).granted.isSome = true → 7 ≤ (s.cfg.port p).priority
  else ∀ p, (s.chassis.port p).granted = none

/-! ## Counters -/

/-- R117: a candidate's count stays below the three that make it the state. -/
def SlotRec.countOk (r : SlotRec) : Prop := ∀ e ∈ r.candidate, 1 ≤ e.2 ∧ e.2 ≤ 2

/-- R91, R191: SEAT's seconds counter and the running time; R109: the trust counts, below the 2 and the 4 that move
the trust state; R121: the tray counts; R115: a gate's count; R117: a candidate's count; R150: a pacing window's
count. -/
def State.CountersOk (s : State) : Prop :=
  s.hourSeconds ≤ 3599 ∧ s.seconds ≤ 4294967295 ∧
  s.env.fails ≤ 1 ∧ s.env.passes ≤ 3 ∧
  (∀ t : TrayId, (s.fan.tray t).low ≤ 3 ∧ (s.fan.tray t).high ≤ 3) ∧
  (∀ t : TrayId, ∀ g ∈ s.env.gates[t.val], g.count ≤ 65535) ∧
  (∀ i : SlotId, s.env.slots[i.val].countOk) ∧
  ∀ w ∈ s.chassis.pwr.pacing, 1 ≤ w.count ∧ w.count ≤ Config.paceCap

/-! ## Words for the statements -/

/-- The state with a port's record replaced. -/
def State.withPort (p : PortId) (r : PortRec) (s : State) : State := { s with chassis := s.chassis.setPort p r }

/-- An address is logged in on a port (R26). -/
def Chassis.LoggedIn (c : Chassis) (a : Addr) (p : PortId) : Prop := ⟨a, p⟩ ∈ c.logins

/-- R42: a member matches an address. -/
def Member.Matches (c : Chassis) (a : Addr) : Member → Prop
  | .port p => c.LoggedIn a p
  | .range b l => b.toNat ≤ a.toNat ∧ a.toNat ≤ l.toNat

/-- R43: a zone qualifies for a source and a destination. -/
def Zone.Admits (c : Chassis) (src dst : Addr) (z : Zone) : Prop :=
  (∃ m ∈ z.members, m.Matches c src) ∧ ∃ m ∈ z.members, m.Matches c dst

/-- R36: the settled class of a query is Fabric Service. -/
def Query.Fabric (q : Query) : Prop := q.cls = .fabricService ∧ q.dst.toNat ≤ 0xFF

/-- The row of a management command. -/
def Cmd.row : Cmd → Instr
  | .portEnable => .portEnable | .portDisable => .portDisable | .portSet => .portSet | .portRead => .portRead
  | .loginRead => .loginRead | .editBegin => .editBegin | .editAbort => .editAbort | .setRename => .setRename
  | .defaultAccessSet => .defaultAccessSet | .zoneCreate => .zoneCreate | .zoneDelete => .zoneDelete
  | .zoneRename => .zoneRename | .memberAdd => .memberAdd | .memberRemove => .memberRemove
  | .zoneCommit => .zoneCommit | .zoneRead => .zoneRead | .claimTimeSet => .claimTimeSet
  | .licenceInstall => .licenceInstall | .licenceRevoke => .licenceRevoke | .licenceRemove => .licenceRemove
  | .licenceWarnSet => .licenceWarnSet | .graceSet => .graceSet | .licenceRead => .licenceRead
  | .channelSet => .channelSet | .scannerSet => .scannerSet | .readNow => .readNow
  | .environmentRead => .environmentRead | .coolingSet => .coolingSet | .coolingRead => .coolingRead
  | .supplySet => .supplySet | .powerSet => .powerSet | .powerRead => .powerRead
  | .acknowledge => .acknowledge | .alarmSet => .alarmSet | .alarmRead => .alarmRead
  | .addressSet => .addressSet | .save => .save | .restart => .restart | .identityRead => .identityRead

/-- Whether parameter bytes have the form that a command calls for (R179, check 2). -/
def Cmd.formOk (bs : List Byte) : Cmd → Bool
  | .portEnable | .portDisable | .portRead => (readPort bs).isSome
  | .portSet => (readPortSet bs).isSome
  | .loginRead => (readLoginRead bs).isSome
  | .editBegin | .editAbort | .zoneCommit | .environmentRead | .coolingRead | .powerRead | .alarmRead | .save
  | .restart | .identityRead => (readUnit bs).isSome
  | .setRename | .zoneDelete => (readName bs).isSome
  | .defaultAccessSet | .readNow => (readNat 1 bs).isSome
  | .zoneCreate => (readZoneCreate bs).isSome
  | .zoneRename => (readZoneRename bs).isSome
  | .memberAdd | .memberRemove => (readMember bs).isSome
  | .zoneRead => (readZoneRead bs).isSome
  | .claimTimeSet | .licenceRevoke | .licenceRemove | .graceSet => (readNat 2 bs).isSome
  | .licenceInstall => (readLicenceInstall bs).isSome
  | .licenceWarnSet => (readWarn bs).isSome
  | .licenceRead => (readLicenceRead bs).isSome
  | .channelSet => (readChannelSet bs).isSome
  | .scannerSet => (readScannerSet bs).isSome
  | .coolingSet => (readCoolingSet bs).isSome
  | .supplySet => (readSupplySet bs).isSome
  | .powerSet => (readPowerSet bs).isSome
  | .acknowledge => (readAck bs).isSome
  | .alarmSet => (readAlarmSet bs).isSome
  | .addressSet => (readNat 3 bs).isSome

/-- The commands that can change something below the retention level: the Cold Start, and the lines themselves. -/
def actsInLost : Instr → Bool
  | .coldStart _ | .presenceLost _ | .presenceGained _ | .resetLineAssert | .resetLineRelease => true
  | _ => false

/-- The commands that can change something while the RESET line is held (R191): those of the standby monitor and
the writer, a Cold Start, and the lines themselves. -/
def actsInHold : Instr → Bool
  | .coldStart _ | .presenceLost _ | .presenceGained _ | .resetLineAssert | .resetLineRelease
  | .railBelowWarning | .standbyLowEntry | .standbyReturnNormal | .standbyLost | .writeCompletion => true
  | _ => false

/-- The edit set takes a value by an edit command answered Done: the claim timer is restarted with the full claim
idle time unless a commit is armed (R55, R58). -/
def State.edited (e : ZoneSet) (s : State) : State :=
  { s with zone := { s.zone with
      edit := e
      claimDue := if s.zone.commit = .armed then s.zone.claimDue else some (s.clockMs + s.cfg.claimIdle * 1000) } }

/-- An origin holds the edit claim and no commit is in flight: checks 1 and 2 of R58 pass. -/
def State.MayEdit (s : State) (origin : Word16) : Prop :=
  s.zone.owner = some origin ∧ ∀ d, s.zone.commit ≠ .validating d

/-- The processor as it takes up a request (R178). -/
def Request.taken (r : Request) : Proc := ⟨r.origin, r.privilege, r.number, true, [], r.cmds, false, false⟩

/-- The commands that were not carried out when a list ends (R180). -/
def Proc.unreached (pr : Proc) : List Result := List.replicate (pr.left.length - 1) (plain .skipped)

/-- The item that the arbiter takes next: the first of the sources in their fixed order (R176). -/
def State.nextItem (s : State) : Option OutFrame :=
  ((s.link.verdicts.map VerdictItem.frame ++ s.link.answers.map Answer.frame)
    ++ (s.chassis.slots.map (fun e => OutFrame.portControl e.1 e.2)
    ++ ((s.link.responses ++ s.link.overload.toList).map OutFrame.response
    ++ s.chassis.alm.notices.map (fun n => OutFrame.notice n s.cfg.mgmtAddr)))).head?

end Sys2Proof.Machine
end

