-- ==== Sys2Proof/Certificates/Slice0/Obligations.lean ====
section
/-! DEFINITION. The statements for the provers. `Leaves c s s'` says that the command completes and what it leaves
(Safety); `s.answer r` is the result of a management command recorded at the processor (R178, R180, R181). -/

section

open Sys2Proof Sys2Proof.Machine

/-! ## The machine -/

/-- A step takes the command at the front of the queue and is `exec` of it on the rest; on an empty queue one
millisecond of running time passes, which stands still in Lost and under a held RESET line. The model's own
(log entries 2 and 3). -/
def Obligations.StepTakesFrontCommandOrIdles : Prop :=
  (∀ (s : State) (c : Instr) (rest : List Instr), s.pending = c :: rest →
    step s = exec c { s with pending := rest }) ∧
  (∀ s : State, s.pending = [] → s.Runs → step s = .next { s with clockMs := s.clockMs + 1 }) ∧
  (∀ s : State, s.pending = [] → ¬ s.Runs → step s = .next s)

/-- Every step answers a next state, and takes the front command off the queue and none other. The queue is the model's
own (log entry 3), and so is that a row the state does not allow changes nothing (log entry 1). -/
def Obligations.EveryStepAnswersAndAdvancesQueue : Prop :=
  ∀ s : State, ∃ t, step s = .next t ∧ t.pending = s.pending.tail

/-- R190: below the retention level the part takes no event. R191: under a held RESET line it acts on none but those of
the standby monitor; that the writer goes on there too is the model's (log entry 14). The model's as well: the presence
lines move in Lost and under the hold, and nothing else then (log entries 33 and 14). -/
def Obligations.StoppedOrHeldPartTakesNoEvent : Prop :=
  (∀ (s : State) (c : Instr), s.store.monitor = .lost → actsInLost c = false → exec c s = .next s) ∧
  (∀ (s : State) (c : Instr), s.resetHeld = true → actsInHold c = false → exec c s = .next s) ∧
  (∀ (s : State) (t : TrayId), ¬ s.Runs →
    exec (.presenceLost t) s = .next { s with trayPresent := s.trayPresent.set t.val false } ∧
    exec (.presenceGained t) s = .next { s with trayPresent := s.trayPresent.set t.val true })

/-! ## Resets -/

/-- `State.reset` is what the Cold Start of a part that leaves the factory gives (R185), with the rail at its warning
level, no tray present and the RESET line released (log entry 4). -/
def Obligations.FactoryColdStartGivesReset : Prop :=
  ∀ s : State, s.store.monitor = .lost → s.store.settings = none → s.store.zones = none → s.store.licences = none →
    s.store.marker = false → s.trayPresent = Vector.replicate 8 false → s.resetHeld = false →
    exec (.coldStart true) s = .next { State.reset with pending := s.pending }

/-- A Cold Start: every block takes its stored or factory values and its reset values (R25, R47, R77, R100, R120,
R131, R153, R168, R184, R185, R191). Entry to Lost has lost the volatile state of every block (R190): a Cold Start
depends only on the three sections, the retention marker and the lines. The order of the alarm entries is the model's
(log entry 13), and so is the clear marker where the rail is low (log entry 15). -/
def Obligations.ColdStartTakesStoredValues : Prop :=
  (∀ (s : State) (b : Bool), s.store.monitor = .lost →
     ∃ t, exec (.coldStart b) s = .next t ∧
       t.cfg = s.store.settings.getD Settings.factory ∧
       (t.store.settingsValid = s.store.settings.isSome ∧ t.store.zonesValid = s.store.zones.isSome ∧
         t.store.licencesValid = s.store.licences.isSome) ∧
       (let z := s.store.zones.getD ⟨ZoneSet.factory, 0⟩
        t.zone = ⟨z.set, z.set, z.generation, none, none, .idle, .none⟩) ∧
       (let l := s.store.licences.getD ⟨[], Vector.replicate 256 0⟩
        t.chassis.licences = l.records.map (fun r => ⟨r, []⟩) ∧ t.chassis.grace = l.grace) ∧
       (∀ p, t.chassis.port p = ⟨.absent, none, .none, none, none, none⟩) ∧
       (∀ k, t.chassis.blade k = false) ∧
       t.chassis.logins = [] ∧ t.queries = [] ∧ t.chassis.seatWait = [] ∧ t.chassis.slots = [] ∧
       (t.chassis.pwr.waitList = [] ∧ t.chassis.pwr.nextJoin = 0 ∧ t.chassis.pwr.holdoff = none ∧
         t.chassis.pwr.pacing = none ∧ t.chassis.pwr.waitTimer = none ∧ t.chassis.pwr.episode = false ∧
         t.chassis.pwr.budget = 0 ∧ t.chassis.pwr.stages = none ∧ t.chassis.pwr.inputs.settled = false) ∧
       (t.clockMs = 0 ∧ t.seconds = 0 ∧ t.hourSeconds = 0) ∧
       (t.env.trust = .unproven ∧ t.env.fails = 0 ∧ t.env.passes = 0 ∧ t.env.thermal = false ∧ t.env.inlet = none ∧
         t.env.scanner = if t.cfg.scanner.enable then .settling 50 else .off) ∧
       (t.fan.current = 100 ∧ t.fan.computed = 100 ∧
         ∀ i : TrayId, t.fan.tray i = ⟨if s.trayPresent[i.val] then .good else .absent, 0, 0⟩) ∧
       (t.link.state = .down ∧ t.link.verdicts = [] ∧ t.link.answers = [] ∧ t.link.responses = [] ∧
         t.link.overload = none ∧ t.link.waiting = [] ∧ t.link.proc = none ∧ t.link.resync = none ∧
         t.link.frame = none) ∧
       (t.store.monitor = (if b then .normal else .low) ∧ t.store.marker = false ∧ t.store.startUp = true ∧
         t.store.cause = if s.store.marker then .lossOfRetention else .powerOn) ∧
       t.chassis.alm.dip = !b ∧
       t.chassis.alm.entries.map (fun e => (e.kind, e.subject))
         = (.supplyDip, 0) :: ((if s.store.settings.isSome then [] else [(.storeFault, 0)])
           ++ (if s.store.zones.isSome then [] else [(.storeFault, 1)])
           ++ (if s.store.licences.isSome then [] else [(.storeFault, 2)])
           ++ ((List.finRange 8).filter (fun i => !s.trayPresent[i.val])).map (fun i => (.fanTrayAbsent, i.val))) ∧
       ∀ e ∈ t.chassis.alm.entries,
         e.raiseSec = 0 ∧ e.state = if e.kind = .supplyDip ∧ b = true then .clearedUnack else .raised) ∧
  ∀ (s u : State) (b : Bool), s.store.monitor = .lost → u.store.monitor = .lost →
    s.store.settings = u.store.settings → s.store.zones = u.store.zones → s.store.licences = u.store.licences →
    s.store.marker = u.store.marker → s.trayPresent = u.trayPresent → s.resetHeld = u.resetHeld →
    s.pending = u.pending → exec (.coldStart b) s = exec (.coldStart b) u

/-- The RESET line: its assertion is a Restart, which keeps the running time, SEAT's seconds counter, the standby
monitor, the dip flag and the latched entries (R169, R191, R101), cuts a write off (R188), and takes every block to
its stored and reset values; its release takes the presence changes of the hold (R191) and leaves all else. The model's
own: the millisecond at which the second under way ends is kept (log entry 2), and the presence changes are taken at
the release in ascending tray (log entry 14). -/
def Obligations.ResetLineRestartsAndHolds : Prop :=
  (∀ s : State, s.Runs →
    ∃ t, exec .resetLineAssert s = .next t ∧ t.resetHeld = true ∧
      (t.clockMs = s.clockMs ∧ t.secondDueMs = s.secondDueMs ∧ t.seconds = s.seconds ∧
        t.hourSeconds = s.hourSeconds) ∧
      (t.store.monitor = s.store.monitor ∧ t.store.marker = s.store.marker ∧ t.store.cause = .line ∧
        t.store.startUp = true ∧ t.chassis.alm.dip = s.chassis.alm.dip ∧ t.trayPresent = s.trayPresent) ∧
      (∀ p, t.chassis.port p = ⟨.absent, none, .none, none, none, none⟩) ∧
      (t.chassis.logins = [] ∧ t.queries = [] ∧ t.chassis.pwr.waitList = [] ∧ t.chassis.seatWait = []) ∧
      (t.link.state = .down ∧ t.link.proc = none ∧ t.link.waiting = [] ∧ t.link.responses = [] ∧
        t.link.frame = none) ∧
      t.cfg = (match s.store.writer with | .writing (.settings _) => none | _ => s.store.settings).getD
        Settings.factory ∧
      (t.zone.owner = none ∧ t.zone.commit = .idle ∧ t.zone.edit = t.zone.active ∧
        t.zone.active = ((match s.store.writer with | .writing (.zones _) => none | _ => s.store.zones).getD
          ⟨ZoneSet.factory, 0⟩).set) ∧
      t.chassis.licences = ((match s.store.writer with | .writing (.licences _) => none | _ => s.store.licences).getD
          ⟨[], Vector.replicate 256 0⟩).records.map (fun r => ⟨r, []⟩) ∧
      (∀ e ∈ s.chassis.alm.entries, latchedKind e.kind = true → e.kind ≠ .storeFault → e.kind ≠ .fanTrayFailed →
        { e with pulse := none } ∈ t.chassis.alm.entries) ∧
      ∀ e ∈ t.chassis.alm.entries, latchedKind e.kind = false → e.kind = .fanTrayAbsent) ∧
  (∀ s : State, s.store.monitor ≠ .lost → s.resetHeld = true →
    Leaves .resetLineRelease s
      ((List.finRange 8).foldl (fun u t => if u.trayPresent[t.val] then u.trayGained t else u.trayLost t)
        { s with resetHeld := false })) ∧
  (∀ s : State, s.store.monitor ≠ .lost → s.resetHeld = true →
    (∀ t : TrayId, s.trayPresent[t.val] = true ↔ (s.fan.tray t).state ≠ .absent) →
    Leaves .resetLineRelease s { s with resetHeld := false })

/-! ## Frames -/

/-- R173; chapter 9, layouts: the bytes of the frame that carries a well-formed command are read back as that command,
and a frame that is not discarded is well formed, its bytes exactly those of its command. -/
def Obligations.FrameBytesReadBack : Prop :=
  ∀ (c : Instr) (bs : List Byte), parseFrame bs = some c ↔ c.wf = true ∧ c.frame? = some bs

/-- R170: while the link is not UP no inbound frame is taken; R173: a frame with a field out of its range, and any
discarded frame, has no effect on any block. -/
def Obligations.FrameNotTakenHasNoEffect : Prop :=
  (∀ (s : State) (c : Instr), s.Runs → c.frame?.isSome = true → s.link.state ≠ .up ∨ c.wf = false → Leaves c s s) ∧
  ∀ (s : State) (bs : List Byte), s.Runs → Leaves (.discardedFrame bs) s s

/-! ## Admission -/

/-- R33: a query with a credit lowers the count and joins the tail of the query queue; without one a DENY-OVERLOAD
verdict with its tag and the generation of that moment goes to the answer list, or is dropped where that is full. -/
def Obligations.QueryTakesCreditOrOverload : Prop :=
  ∀ (s : State) (tag : Word16) (p : PortId) (src dst : Addr) (cls : Byte), s.Runs → s.link.state = .up →
    cls.toNat ≤ 1 →
    let q : Query := ⟨tag, p, src, dst, if cls = 0#8 then .exchange else .fabricService⟩
    (0 < s.link.queryCredits →
      Leaves (.admissionQuery tag p src dst cls) s
        { s with
          link := { s.link with queryCredits := s.link.queryCredits - 1 }
          queries := s.queries ++ [q] }) ∧
    (s.link.queryCredits = 0 → s.link.answers.length < 64 →
      Leaves (.admissionQuery tag p src dst cls) s
        { s with link := { s.link with
            answers := s.link.answers ++ [.overload ⟨tag, .denyOverload, s.zone.generation, none⟩] } }) ∧
    (s.link.queryCredits = 0 → 64 ≤ s.link.answers.length → Leaves (.admissionQuery tag p src dst cls) s s)

/-- R35 to R44: the oldest query leaves the queue, and its verdict, with the generation of the active set, joins the
tail of the verdict queue; the outcome and the zone index are those of the six steps. Without a query nothing
happens (log entry 1). -/
def Obligations.QueryAnsweredBySixSteps : Prop :=
  (∀ s : State, s.Runs → s.queries = [] → Leaves .queryEvaluation s s) ∧
  ∀ (s : State) (q : Query) (rest : List Query), s.Runs → s.chassis.LoginsOk → s.queries = q :: rest →
    ∃ (o : VerdictOutcome) (z : Option Nat),
      Leaves .queryEvaluation s
        { s with
          queries := rest
          link := { s.link with
            verdicts := s.link.verdicts ++ [.verdict ⟨q.tag, o, s.zone.generation, z⟩] } } ∧
      (let c := s.chassis
       let st := (c.port q.ingress).state
       let step1 : Prop := st = .online ∨ (q.Fabric ∧ st.isDraining = true)
       let step3 : Prop := c.LoggedIn q.src q.ingress
       let step4 : Prop := ∀ p, c.LoggedIn q.dst p → (c.port p).state = .online
       let zs := s.zone.active.zones
       (¬ step1 → o = .denyPort ∧ z = none) ∧
       (step1 → q.Fabric → o = .permit ∧ z = none) ∧
       (step1 → ¬ q.Fabric → ¬ step3 → o = .denySource ∧ z = none) ∧
       (step1 → ¬ q.Fabric → step3 → ¬ step4 → o = .denyPort ∧ z = none) ∧
       (step1 → ¬ q.Fabric → step3 → step4 → zs = [] → s.zone.active.access = .all → o = .permit ∧ z = none) ∧
       (step1 → ¬ q.Fabric → step3 → step4 → zs = [] → s.zone.active.access = .none → o = .denyZone ∧ z = none) ∧
       (step1 → ¬ q.Fabric → step3 → step4 → zs ≠ [] → (∀ y ∈ zs, ¬ y.Admits c q.src q.dst) →
         o = .denyZone ∧ z = none) ∧
       ∀ (i : Nat) (y : Zone), step1 → ¬ q.Fabric → step3 → step4 → zs[i]? = some y → y.Admits c q.src q.dst →
         (∀ j w, j < i → zs[j]? = some w → ¬ w.Admits c q.src q.dst) → o = .permit ∧ z = some i)

/-- R27, R28, R30: the checks of a Login in their order with the answer of each, the move of an entry, and a Logout.
A removal that leaves a draining port without logins ends its drain. -/
def Obligations.LoginAndLogoutChangeTable : Prop :=
  ∀ (s : State) (p : PortId) (a : Addr), s.Runs → s.link.state = .up → s.chassis.LoginsOk →
    let c := s.chassis
    let online := (c.port p).state = .online
    let others := c.logins.filter (fun e => e.addr != a)
    (¬ online → Leaves (.login p a) s (s.addAnswer (.login p a .rejectedPortState))) ∧
    (online → c.LoggedIn a p → Leaves (.login p a) s (s.addAnswer (.login p a .accepted))) ∧
    (online → ∀ q, q ≠ p → c.LoggedIn a q → 16 ≤ c.loginCount p →
      Leaves (.login p a) s (s.addAnswer (.login p a .rejectedPortLimit))) ∧
    (online → ∀ q, q ≠ p → c.LoggedIn a q → c.loginCount p < 16 →
      let moved : Chassis := { c with logins := others ++ [⟨a, p⟩] }
      Leaves (.login p a) s (State.addAnswer (.login p a .accepted)
        { s with chassis := if moved.loginCount q = 0 then moved.endDrainOf s.ctx (outer s.ctx) q else moved })) ∧
    (online → (∀ q, ¬ c.LoggedIn a q) → 1024 ≤ c.logins.length →
      Leaves (.login p a) s (s.addAnswer (.login p a .rejectedFull))) ∧
    (online → (∀ q, ¬ c.LoggedIn a q) → c.logins.length < 1024 → 16 ≤ c.loginCount p →
      Leaves (.login p a) s (s.addAnswer (.login p a .rejectedPortLimit))) ∧
    (online → (∀ q, ¬ c.LoggedIn a q) → c.logins.length < 1024 → c.loginCount p < 16 →
      Leaves (.login p a) s (State.addAnswer (.login p a .accepted)
        { s with chassis := { c with logins := c.logins ++ [⟨a, p⟩] } })) ∧
    (c.LoggedIn a p →
      let gone : Chassis := { c with logins := others }
      Leaves (.logout p a) s
        { s with chassis := if gone.loginCount p = 0 then gone.endDrainOf s.ctx (outer s.ctx) p else gone }) ∧
    (¬ c.LoggedIn a p → Leaves (.logout p a) s s)

/-! ## Ports -/

/-- R8, R9: Link Up and Link Down by the port's state; a Link Down ends a drain. -/
def Obligations.LinkUpAndDownMovePort : Prop :=
  (∀ (s : State) (p : PortId) (cls : Byte) (k : RateClass), s.Runs → s.link.state = .up → cls.toNat = k.num →
    let r := s.chassis.port p
    Leaves (.linkUp p cls) s
      (match r.state with
       | .linkWait => s.withPort p { r with state := .online, negotiated := some k }
       | .online | .draining _ _ => s.withPort p { r with negotiated := some k }
       | .absent | .disabled | .unseated | .powerWait | .shed | .fault => s)) ∧
  ∀ (s : State) (p : PortId), s.Runs → s.link.state = .up →
    let r := s.chassis.port p
    Leaves (.linkDown p) s
      (match r.state with
       | .online =>
         { s with chassis := Chassis.removeLogins p (s.chassis.setPort p { r with state := .linkWait, negotiated := none }) }
       | .draining t _ => { s with chassis := s.chassis.drainEnd s.ctx (outer s.ctx) p t }
       | .absent | .disabled | .unseated | .powerWait | .linkWait | .shed | .fault => s)

/-- R10, R11: a fault stops a running port, which keeps its seat (a counted grace binding may be rebound by a binding
pass in the same event), and Fault Cleared sends it back to ask for a grant. -/
def Obligations.FaultStopsPortUntilCleared : Prop :=
  (∀ (s : State) (p : PortId), s.Runs → s.link.state = .up → s.PortsOk →
    (s.chassis.port p).state = .linkWait ∨ (s.chassis.port p).state = .online →
    ∃ t, exec (.portFault p) s = .next t ∧
      (t.chassis.port p).state = .fault ∧ (t.chassis.port p).granted = none ∧
      (t.chassis.port p).negotiated = none ∧ (t.chassis.port p).binding ≠ .none ∧
      ((s.chassis.port p).binding ≠ .counted → (t.chassis.port p).binding = (s.chassis.port p).binding) ∧
      (∀ a, ¬ t.chassis.LoggedIn a p) ∧ .portControl p .disable ∈ t.blocks.controlLine) ∧
  (∀ (s : State) (p : PortId), s.Runs → s.link.state = .up → (s.chassis.port p).state.runs = false →
    Leaves (.portFault p) s s) ∧
  (∀ (s : State) (p : PortId), s.Runs → s.link.state = .up → s.PortsOk → (s.chassis.port p).state = .fault →
    let asks := (s.chassis.setPort p { s.chassis.port p with state := .powerWait }).joinWait s.ctx p .powerWait
    Leaves (.faultCleared p) s { s with chassis := asks.evaluate s.ctx }) ∧
  ∀ (s : State) (p : PortId), s.Runs → s.link.state = .up → (s.chassis.port p).state ≠ .fault →
    Leaves (.faultCleared p) s s

/-- R3: an inserted blade: its flag is set, PWR counts one blade more, its admin-Disabled ports rest in DISABLED and
none of its admin-Enabled ports does. A repeated report changes nothing. -/
def Obligations.BladeInsertedBringsPortsUp : Prop :=
  (∀ (s : State) (b : BladeId), s.Runs → s.link.state = .up → s.chassis.blade b = true →
    Leaves (.bladeEventInserted (BitVec.ofNat 8 b.val)) s s) ∧
  ∀ (s : State) (b : BladeId), s.Runs → s.link.state = .up → s.PortsOk → s.chassis.blade b = false →
    ∃ t, exec (.bladeEventInserted (BitVec.ofNat 8 b.val)) s = .next t ∧
      t.chassis.blades = s.chassis.blades.set b.val true ∧
      t.chassis.pwr.inputs = { s.chassis.pwr.inputs with blades := s.chassis.pwr.inputs.blades + 1 } ∧
      (∀ p, bladeOf p = b → (s.cfg.port p).enabled = false → (t.chassis.port p).state = .disabled) ∧
      (∀ p, bladeOf p = b → (s.cfg.port p).enabled = true →
        (t.chassis.port p).state ≠ .absent ∧ (t.chassis.port p).state ≠ .disabled) ∧
      t.cfg = s.cfg

/-- R4: a removed blade: all 32 ports are ABSENT with their reset values, their grace records 0, on neither wait list
and without logins, each port that was enabled gets Port Control Disable, and PWR counts one blade fewer. A repeated
report changes nothing. -/
def Obligations.BladeRemovedResetsPorts : Prop :=
  (∀ (s : State) (b : BladeId), s.Runs → s.link.state = .up → s.chassis.blade b = false →
    Leaves (.bladeEventRemoved (BitVec.ofNat 8 b.val)) s s) ∧
  ∀ (s : State) (b : BladeId), s.Runs → s.link.state = .up → s.chassis.blade b = true →
    ∃ t, exec (.bladeEventRemoved (BitVec.ofNat 8 b.val)) s = .next t ∧
      t.chassis.blades = s.chassis.blades.set b.val false ∧
      t.chassis.pwr.inputs = { s.chassis.pwr.inputs with blades := s.chassis.pwr.inputs.blades - 1 } ∧
      (∀ p, bladeOf p = b →
        t.chassis.port p = ⟨.absent, none, .none, none, none, none⟩ ∧ t.chassis.graceOf p = 0 ∧
        p ∉ t.chassis.seatWait ∧ (∀ e ∈ t.chassis.pwr.waitList, e.port ≠ p) ∧
        (∀ a, ¬ t.chassis.LoggedIn a p) ∧
        ((s.chassis.port p).control ≠ .disable → .portControl p .disable ∈ t.blocks.controlLine)) ∧
      t.cfg = s.cfg

/-- R17, R18: the drain timer, a Link Down and a Port Fault end a drain toward its target. Toward DISABLED the port
ends with no seat, grant, ceilings or negotiated class; toward UNSEATED it has asked for a seat again. Its logins are
gone, and Port Control Disable has been formed; toward UNSEATED a grant in the same event puts Enable in its place
(R177). Without a drain the timer's end changes nothing (log entry 1). -/
def Obligations.DrainEndStopsPort : Prop :=
  (∀ (s : State) (p : PortId) (t : DrainTarget) (due : Nat), s.Runs → s.PortsOk →
    (s.chassis.port p).state = .draining t due →
    ∀ c ∈ [Instr.drainTimerExpiry p, .linkDown p, .portFault p], (c ≠ .drainTimerExpiry p → s.link.state = .up) →
    ∃ u, exec c s = .next u ∧ (∀ a, ¬ u.chassis.LoggedIn a p) ∧
      (t = .disabled → u.chassis.port p = ⟨.disabled, none, .none, none, none, none⟩ ∧
        (s.link.state = .up → .portControl p .disable ∈ u.blocks.controlLine)) ∧
      (t = .unseated → (u.chassis.port p).negotiated = none ∧ (u.chassis.port p).binding ≠ .drainHold ∧
        ((u.chassis.port p).state = .unseated ∨ (u.chassis.port p).state = .powerWait ∨
          (u.chassis.port p).state = .linkWait) ∧
        (s.link.state = .up → (u.chassis.port p).state ≠ .linkWait →
          .portControl p .disable ∈ u.blocks.controlLine))) ∧
  ∀ (s : State) (p : PortId), s.Runs → (s.chassis.port p).state.isDraining = false →
    Leaves (.drainTimerExpiry p) s s

/-! ## The Core Link -/

/-- R175, R178: with a credit a Management Request joins the inbound request queue, and a processor that holds none
takes it; without one an all-Busy reply with the management address is formed, and dropped where one is unsent. -/
def Obligations.RequestQueuedOrAnsweredBusy : Prop :=
  ∀ (s : State) (o : Word16) (b : Byte) (v : Privilege) (n : Word16) (cs : List CmdEntry), s.Runs →
    s.link.state = .up → o ≠ 0#16 → Privilege.ofByte? b = some v → 1 ≤ cs.length → cs.length ≤ 16 →
    (∀ e ∈ cs, e.params.length ≤ 255) →
    let c := Instr.managementRequest o b n cs
    let r : Request := ⟨o, v, n, cs⟩
    let busy : Response := ⟨o, n, s.cfg.mgmtAddr, List.replicate cs.length ⟨.busy, []⟩, false⟩
    (0 < s.link.requestCredits → s.link.proc = none → s.link.waiting = [] →
      Leaves c s { s with link := { s.link with
        requestCredits := s.link.requestCredits - 1, proc := some r.taken } }) ∧
    (0 < s.link.requestCredits → s.link.proc.isSome = true →
      Leaves c s { s with link := { s.link with
        requestCredits := s.link.requestCredits - 1, waiting := s.link.waiting ++ [r] } }) ∧
    (s.link.requestCredits = 0 → s.link.overload = none →
      Leaves c s { s with link := { s.link with overload := some busy } }) ∧
    (s.link.requestCredits = 0 → s.link.overload.isSome = true → Leaves c s s)

/-- R170, R172: line activity and training lead up, where the credits are set and the resync starts with the Permit
Flush of the active set's generation; in another state they change nothing. A loss of sync leads down from
TRAINING, and in DOWN changes nothing. -/
def Obligations.LinkTrainsAndStartsResync : Prop :=
  ∀ s : State, s.Runs →
    (s.link.state = .down → Leaves .lineActivity s { s with link := { s.link with state := .training } }) ∧
    (s.link.state ≠ .down → Leaves .lineActivity s s) ∧
    (s.link.state = .training → ∃ t, exec .trainingComplete s = .next t ∧
      t.link.frame = some (.permitFlush s.zone.generation) ∧
      t.blocks = State.blocks { s with link := { s.link with
        state := .up, queryCredits := 64, requestCredits := 8, resync := some 0
        frame := some (.permitFlush s.zone.generation) } }) ∧
    (s.link.state ≠ .training → Leaves .trainingComplete s s) ∧
    (s.link.state = .training → Leaves .lossOfSync s { s with link := { s.link with state := .down } }) ∧
    (s.link.state = .down → Leaves .lossOfSync s s)

/-- R171, R24, R32: when the link leaves UP its queues, the query queue, the slots and the login table are emptied,
the Executing request stays at the processor and its response will be dropped, and every drain ends; with no port
in DRAINING nothing else changes. Where a response is lost that held back a Restart, the Restart acts (R181). -/
def Obligations.LossOfSyncEmptiesLink : Prop :=
  ∀ s : State, s.Runs → s.link.state = .up →
    let empty : State :=
      { s with
        link := { s.link with
          state := .down, verdicts := [], answers := [], responses := [], overload := none, waiting := []
          proc := s.link.proc.map (fun pr => { pr with live := false }), resync := none, frame := none }
        queries := []
        chassis := { s.chassis with slots := [], logins := [] } }
    (s.link.losesRestart = false → (∀ p, (s.chassis.port p).state.isDraining = false) → Leaves .lossOfSync s empty) ∧
    (s.link.losesRestart = false → s.PortsOk →
      ∃ t, exec .lossOfSync s = .next t ∧ t.link.state = .down ∧ t.blocks.verdictLine = [] ∧
        t.blocks.controlLine = [] ∧ t.blocks.responseLine = [] ∧ t.queries = [] ∧ t.chassis.logins = [] ∧
        t.link.waiting = [] ∧ t.link.proc = s.link.proc.map (fun pr => { pr with live := false }) ∧
        (∀ p, (t.chassis.port p).state.isDraining = false) ∧
        t.cfg = s.cfg ∧ t.zone = s.zone ∧ t.env = s.env ∧ t.fan = s.fan) ∧
    (s.link.losesRestart = true →
      ∃ t, exec .lossOfSync s = .next t ∧ t.store.cause = .command ∧ t.store.startUp = true ∧
        t.link.state = .down ∧ t.link.proc = none ∧ t.chassis.logins = [] ∧
        ∀ p, (t.chassis.port p).state = .absent)

/-- R176: when a frame ends, the next one is the first item of the first source that holds one, in the order verdict
queue, answer list, port-control slots, response queue, overload reply, notice queue; a verdict that leaves returns
a query credit (R34) and a response a request credit (R175). In the resync the next port's frame starts with its
control state, and what its slot holds is taken out; after port 255 the resync has ended (R172), and where supply is
settled start-up ends with the Restart Complete notice (R192); the flag that a resync has ended is the model's (log
entry 18). A Port Control replaces the unsent one of its port in place, and else joins the tail of the slots (R177).
Without a frame, the end of one changes nothing (log entry 1). -/
def Obligations.FrameEndStartsNextFrame : Prop :=
  (∀ (s : State) (f : OutFrame), s.Runs → s.AtRest → s.link.state = .up → s.link.resync = none →
    s.link.frame = some f → f.restarts = false →
    ∃ t, exec .outboundFrameEnd s = .next t ∧ t.link.frame = s.nextItem ∧
      t.blocks = State.blocks { s with link := { s.link with frame := none } } ∧
      (∀ v rest, s.link.verdicts = .verdict v :: rest →
        t.link.verdicts = rest ∧ t.link.queryCredits = s.link.queryCredits + 1) ∧
      (s.link.verdicts = [] → s.link.answers = [] → s.chassis.slots = [] → ∀ r rest, s.link.responses = r :: rest →
        t.link.responses = rest ∧ t.link.requestCredits = s.link.requestCredits + 1)) ∧
  (∀ (s : State) (f : OutFrame) (p : PortId), s.Runs → s.link.frame = some f → f.restarts = false →
    s.link.resync = some p.val →
    ∃ t, exec .outboundFrameEnd s = .next t ∧ t.link.frame = some (.portControl p (s.chassis.port p).control) ∧
      t.link.resync = some (p.val + 1) ∧ t.chassis.slots = s.chassis.slots.filter (fun e => e.1 != p) ∧
      t.link.verdicts = s.link.verdicts ∧ t.link.responses = s.link.responses) ∧
  (∀ (s : State) (f : OutFrame), s.Runs → s.link.frame = some f → f.restarts = false → s.link.resync = some 256 →
    Leaves .outboundFrameEnd s
      { s with link := { s.link with frame := none, resync := none, resyncDone := true } } ∧
    (s.store.startUp = true → s.chassis.pwr.inputs.settled = true → s.cfg.noticeOrigin ≠ 0#16 →
      s.chassis.alm.notices.length ≤ 29 → ∃ t, exec .outboundFrameEnd s = .next t ∧ t.store.startUp = false ∧
        ⟨s.cfg.noticeOrigin, .restartComplete, 0, .minor, .event, s.seconds, false⟩ ∈ t.noticeLine)) ∧
  (∀ s : State, s.Runs → s.link.frame = none → Leaves .outboundFrameEnd s s) ∧
  ∀ (x : Ctx) (c : Chassis) (p : PortId) (k : Control),
    (x.linkUp = false → (c.putControl x p k).slots = c.slots) ∧
    (x.linkUp = true →
      ((∀ e ∈ c.slots, e.1 ≠ p) → (c.putControl x p k).slots = c.slots ++ [(p, k)]) ∧
      ∀ before after j, c.slots = before ++ (p, j) :: after → (∀ e ∈ before ++ after, e.1 ≠ p) →
        (c.putControl x p k).slots = before ++ (p, k) :: after)

/-- R181, R191: a Restart acts when the frame of its list's response has been sent: a Restart by command, which keeps
the running time, SEAT's seconds counter, the dip flag and the presence lines. -/
def Obligations.RestartActsAfterResponse : Prop :=
  ∀ (s : State) (r : Response), s.Runs → s.link.frame = some (.response r) → r.restart = true →
    ∃ t, exec .outboundFrameEnd s = .next t ∧ t.store.cause = .command ∧ t.store.startUp = true ∧
      t.clockMs = s.clockMs ∧ t.seconds = s.seconds ∧ t.hourSeconds = s.hourSeconds ∧
      t.chassis.alm.dip = s.chassis.alm.dip ∧ t.store.marker = s.store.marker ∧ t.trayPresent = s.trayPresent ∧
      t.link.state = .down ∧ t.link.frame = none ∧ t.link.proc = none ∧ t.link.waiting = [] ∧ t.queries = [] ∧
      t.chassis.logins = [] ∧ (∀ p, t.chassis.port p = ⟨.absent, none, .none, none, none, none⟩) ∧
      t.env.trust = .unproven ∧ t.fan.current = 100 ∧ t.zone.owner = none ∧ t.zone.edit = t.zone.active

/-! ## The request processor -/

/-- R179: the three checks of the processor's next command in their order: a code that names no command, parameters
of another form than its own (of a Licence Install, by its kind: log entry 23), a privilege below the one the command
calls for. A row whose command is not the processor's next changes nothing (log entry 1). -/
def Obligations.ChecksRefuseCommand : Prop :=
  (∀ (s : State) (pr : Proc) (e : CmdEntry), s.Next pr e →
    (Cmd.ofCode? e.code = none → Leaves .unknownCommandCode s (s.answer ⟨.refusedUnknown, []⟩)) ∧
    ((Cmd.ofCode? e.code).isSome = true → Leaves .unknownCommandCode s s) ∧
    ∀ cmd : Cmd,
      (e.code = cmd.code → cmd.formOk e.params = false → Leaves cmd.row s (s.answer ⟨.refusedRange, []⟩)) ∧
      (e.code = cmd.code → cmd.formOk e.params = true → pr.privilege.rank < cmd.privilege.rank →
        Leaves cmd.row s (s.answer ⟨.refusedPrivilege, []⟩)) ∧
      (e.code ≠ cmd.code → Leaves cmd.row s s)) ∧
  ∀ s : State, s.Runs → (s.link.proc = none ∨ ∃ pr, s.link.proc = some pr ∧ (pr.holding = true ∨ pr.left = [])) →
    Leaves .unknownCommandCode s s ∧ ∀ cmd : Cmd, Leaves cmd.row s s

/-- R178, R180, R181: a result is recorded in its place and the list goes on after Done, Started and Armed; any other
status, and the last command, end it: the commands not reached are Skipped, and the response with the origin, the
number and the management address joins the response queue. It is dropped where the link has left UP meanwhile, and a
Restart of its list then acts before any write starts (log entry 41). The processor takes up the oldest Waiting
request. -/
def Obligations.ResultRecordedOrListEnds : Prop :=
  ∀ (s : State) (pr : Proc) (r : Result), s.link.proc = some pr → pr.left ≠ [] →
    let all := pr.results ++ r :: pr.unreached
    let next := s.link.waiting.head?.map Request.taken
    let rest := s.link.waiting.tail
    (r.status.goesOn = true → pr.goesOn → s.answer r = s.recorded pr r) ∧
    (r.status.goesOn = false ∨ ¬ pr.goesOn → (∀ e ∈ all, e.status ≠ .armed) →
      (pr.live = true → s.answer r = { s with link := { s.link with
        responses := s.link.responses ++ [⟨pr.origin, pr.number, s.cfg.mgmtAddr, all, pr.restart⟩]
        proc := next, waiting := rest } }) ∧
      (pr.live = false → pr.restart = false →
        s.answer r = { s with link := { s.link with proc := next, waiting := rest } }) ∧
      (pr.live = false → pr.restart = true → s.answer r = s.restartBy .command))

/-- R67: a list with an armed commit ends: where every other command ended in Done and the origin holds the claim the
commit starts, its entry is Started, and validation lasts 2 ms and 1 ms for each 64 members; otherwise it is Idle
again, its entry is Skipped, and the claim timer starts anew where the origin holds the claim. A response that is
dropped changes nothing of this; where a Restart waited on it, the Restart acts (R181; log entry 17), before any write
starts (log entry 41). -/
def Obligations.ListEndDecidesArmedCommit : Prop :=
  ∀ (s : State) (pr : Proc) (r : Result), s.link.proc = some pr → pr.left ≠ [] →
    r.status.goesOn = false ∨ ¬ pr.goesOn →
    let all := pr.results ++ r :: pr.unreached
    let decided (st : Status) : List Result := all.map (fun e => if e.status = .armed then ⟨st, e.data⟩ else e)
    let ended (z : ZoneUnit) (st : Status) : State :=
      { s with
        zone := z
        link := { s.link with
          responses := s.link.responses ++
            (if pr.live then [⟨pr.origin, pr.number, s.cfg.mgmtAddr, decided st, pr.restart⟩] else [])
          proc := s.link.waiting.head?.map Request.taken, waiting := s.link.waiting.tail } }
    let holds := s.zone.owner = some pr.origin
    (∃ e ∈ all, e.status = .armed) →
    (pr.live = false → pr.restart = true → s.answer r = s.restartBy .command) ∧
    (pr.live = true ∨ pr.restart = false →
    ((∀ e ∈ all, e.status = .done ∨ e.status = .armed) → holds →
      ∃ n, 64 * n < s.zone.edit.total + 64 ∧ s.zone.edit.total ≤ 64 * n ∧
        s.answer r = ended { s.zone with commit := .validating (s.clockMs + 2 + n) } .started) ∧
    ((∃ e ∈ all, e.status ≠ .done ∧ e.status ≠ .armed) → holds →
      s.answer r
        = ended { s.zone with commit := .idle, claimDue := some (s.clockMs + s.cfg.claimIdle * 1000) } .skipped) ∧
    (¬ holds → s.answer r = ended { s.zone with commit := .idle } .skipped))

/-- R15, R46, R75, R76, R98, R119, R132, R152, R167, R193: a read changes nothing but the processor's list: the nine
reads answer with their data, each field of the state at its place in the layout (chapter 9), under the codes of its
table. Login Read by address gives the port and the place in its order of joining; an address that is not logged in is
Refused-Unknown. Zone Read and Licence Read have their refusals (the order of the list form's two is log entry 38). A
number that is none in a fixed layout leaves its two bytes open (log entries 19 and 28). -/
def Obligations.ReadsAnswerAndChangeNothing : Prop :=
  (∀ (s : State) (pr : Proc),
     (∀ p, s.Serves pr .portRead readPort p → Leaves .portRead s (s.answer ⟨.done, s.portData p⟩)) ∧
     (∀ f, s.Serves pr .loginRead readLoginRead f → Leaves .loginRead s (s.answer (s.chassis.loginRead f))) ∧
     (∀ f, s.Serves pr .zoneRead readZoneRead f → Leaves .zoneRead s (s.answer (s.zoneRead f))) ∧
     (∀ f, s.Serves pr .licenceRead readLicenceRead f → Leaves .licenceRead s (s.answer (s.licenceRead f))) ∧
     (s.Serves pr .environmentRead readUnit () → Leaves .environmentRead s (s.answer ⟨.done, s.environmentData⟩)) ∧
     (s.Serves pr .coolingRead readUnit () → Leaves .coolingRead s (s.answer ⟨.done, s.coolingData⟩)) ∧
     (s.Serves pr .powerRead readUnit () → Leaves .powerRead s (s.answer ⟨.done, s.powerData⟩)) ∧
     (s.Serves pr .alarmRead readUnit () → Leaves .alarmRead s (s.answer ⟨.done, s.alarmData⟩)) ∧
     (s.Serves pr .identityRead readUnit () → Leaves .identityRead s (s.answer ⟨.done, s.identityData⟩))) ∧
  (∀ s : State,
     (∀ p, (s.portData p).length = 21) ∧ s.environmentData.length = 428 ∧ s.coolingData.length = 66 ∧
     s.powerData.length = 84 + 5 * s.chassis.pwr.waitList.length ∧
     s.alarmData.length = 47 + 12 * s.chassis.alm.entries.length ∧
     s.identityData.length = 57 ∧ s.identityData.take 5 = [0x0B#8, 0x27#8, 0x08#8, 0x40#8, 0x01#8]) ∧
  (∀ (c : Chassis) (a : Addr), c.LoginsOk →
    ((∀ p, ¬ c.LoggedIn a p) → c.loginRead (.byAddr a) = ⟨.refusedUnknown, []⟩) ∧
    ∀ (p : PortId) (before after : List LoginEntry), c.logins = before ++ ⟨a, p⟩ :: after →
      c.loginRead (.byAddr a) = ⟨.done, [BitVec.ofFin p,
        BitVec.ofNat 8 ((before.filter (fun e => e.port == p)).length + 1)] ++ u16 c.logins.length⟩) ∧
  -- Port Read and Login Read by port
  (∀ (s : State) (p : PortId),
    let a := s.cfg.port p
    let r := s.chassis.port p
    let on := r.state.runs && r.granted.isSome
    s.portData p
      = [BitVec.ofFin p] ++ u8 (p.val / 32) ++ flag (s.chassis.blade (bladeOf p)) ++ flag a.enabled
        ++ u8 a.reqClass.num ++ u8 a.priority ++ flag a.reducedOk ++ u8 a.drainSecs ++ u8 r.state.code ++ flag on
        ++ u8 r.binding.code ++ u16 (match r.binding with | .licence id => id.toNat | _ => 0)
        ++ u16 (if r.binding = .counted then s.chassis.graceOf p else 0)
        ++ classByte r.seatCeil ++ classByte r.effCeil ++ classByte r.granted
        ++ (match r.state with
          | .draining .disabled due => u8 1 ++ u8 ((due - s.clockMs + 999) / 1000)
          | .draining .unseated due => u8 2 ++ u8 ((due - s.clockMs + 999) / 1000)
          | _ => [0x00#8, 0xFF#8])
        ++ classByte r.negotiated ∧
    let mine := s.chassis.logins.filter (fun e => e.port == p)
    s.chassis.loginRead (.byPort p) = ⟨.done, [BitVec.ofFin p] ++ u8 r.state.code ++ u8 mine.length
      ++ mine.flatMap (fun e => u24 e.addr.toNat) ++ u16 s.chassis.logins.length⟩) ∧
  -- Zone Read
  (∀ s : State,
    let z := s.zone
    let one (e : ZoneSet) : List Byte :=
      u8 e.name.length ++ e.name ++ u8 e.access.code ++ u16 e.zones.length
        ++ u16 (e.zones.map (fun y => y.members.length)).sum
    let isSet (k : Nat) (e : ZoneSet) : Prop := (k = 0 ∧ e = z.active) ∨ (k = 1 ∧ e = z.edit)
    let entry (i : Nat) (y : Zone) : List Byte := u16 i ++ (u8 y.name.length ++ y.name) ++ u16 y.members.length
    let whole (i : Nat) (y : Zone) : Result := ⟨.done, entry i y ++ y.members.flatMap (fun m => match m with
      | .port p => [0x00#8, BitVec.ofFin p]
      | .range b l => 0x01#8 :: (u24 b.toNat ++ u24 l.toNat))⟩
    s.zoneRead .summary = ⟨.done, one z.active ++ one z.edit ++ u16 z.generation.toNat
      ++ (match z.owner with | some o => u16 o.toNat | none => u16 0) ++ secsLeft16 s.clockMs z.claimDue
      ++ (match z.commit with | .idle => u8 0 | .armed => u8 1 | .validating _ => u8 2)
      ++ (match z.outcome with
        | .none => u8 0 ++ u16 0 ++ u16 0
        | .swapped g o => u8 1 ++ u16 g.toNat ++ u16 o.toNat
        | .failed i o => u8 2 ++ u16 i ++ u16 o.toNat)⟩ ∧
    (∀ k a n i nm, 2 ≤ k → s.zoneRead (.list k a n) = ⟨.refusedRange, []⟩ ∧
      s.zoneRead (.byIndex k i) = ⟨.refusedRange, []⟩ ∧ s.zoneRead (.byName k nm) = ⟨.refusedRange, []⟩) ∧
    ∀ k e, isSet k e →
      (∀ a n, (512 < a ∨ n < 1 ∨ 64 < n → s.zoneRead (.list k a n) = ⟨.refusedRange, []⟩) ∧
        (a ≤ 512 → 1 ≤ n → n ≤ 64 → e.zones.length < a → s.zoneRead (.list k a n) = ⟨.refusedUnknown, []⟩) ∧
        ∀ before mid after, a ≤ 512 → 1 ≤ n → n ≤ 64 → e.zones = before ++ mid ++ after → before.length = a →
          mid.length = n ∨ (mid.length < n ∧ after = []) →
          s.zoneRead (.list k a n)
            = ⟨.done, u8 mid.length ++ (mid.zipIdx a).flatMap (fun y => entry y.2 y.1)⟩) ∧
      (∀ i, (511 < i → s.zoneRead (.byIndex k i) = ⟨.refusedRange, []⟩) ∧
        (i ≤ 511 → e.zones.length ≤ i → s.zoneRead (.byIndex k i) = ⟨.refusedUnknown, []⟩) ∧
        ∀ y, i ≤ 511 → e.zones[i]? = some y → s.zoneRead (.byIndex k i) = whole i y) ∧
      ∀ nm, (nameOk nm = false → s.zoneRead (.byName k nm) = ⟨.refusedRange, []⟩) ∧
        (nameOk nm = true → (∀ y ∈ e.zones, y.name ≠ nm) → s.zoneRead (.byName k nm) = ⟨.refusedUnknown, []⟩) ∧
        ∀ i y, nameOk nm = true → e.Ok → e.zones[i]? = some y → y.name = nm →
          s.zoneRead (.byName k nm) = whole i y) ∧
  -- Licence Read
  (∀ s : State,
    let c := s.chassis
    let record (l : Licence) : List Byte :=
      u16 l.record.id.toNat ++ flag l.record.term.isSome ++ u8 l.record.state.code ++ u16 l.record.seats
        ++ u16 l.bound.length ++ u8 l.record.ceiling.num ++ u8 l.record.scope.length
        ++ l.record.scope.map (fun b => BitVec.ofNat 8 b.val)
        ++ (match l.record.term with | some t => u16 t.hours ++ u16 t.remaining ++ u16 t.warn | none => [])
    let holding (b : Binding) : Nat := ((List.finRange 256).filter (fun p => (c.port p).binding == b)).length
    s.licenceRead .summary = ⟨.done, u8 c.licences.length ++ c.licences.flatMap record ++ u16 c.seatWait.length
      ++ c.seatWait.map BitVec.ofFin ++ u16 (holding .counted) ++ u16 (holding .drainHold)
      ++ u16 s.cfg.graceLen ++ u16 s.hourSeconds⟩ ∧
    s.licenceRead (.one 0) = ⟨.refusedRange, []⟩ ∧
    (∀ id, id ≠ 0 → (∀ l ∈ c.licences, l.record.id ≠ BitVec.ofNat 16 id) →
      s.licenceRead (.one id) = ⟨.refusedUnknown, []⟩) ∧
    ∀ l ∈ c.licences, ∀ id, c.LicencesOk → id ≠ 0 → l.record.id = BitVec.ofNat 16 id →
      s.licenceRead (.one id) = ⟨.done, record l ++ l.bound.map BitVec.ofFin⟩) ∧
  -- Environment Read and Cooling Read
  (∀ s : State, ∃ hole : Nat → List Byte, (∀ k, (hole k).length = 2) ∧
    let num (k : Nat) (o : Option Int) : List Byte := match o with | some v => i16 v | none => hole k
    let chan (i : ChanId) : List Byte :=
      let c := s.cfg.channel i
      let w := s.env.chan i
      let v : Option Int := w.raw.map (fun r => match c.kind with
        | .temperature => (r.toNat : Int) - 220
        | .voltage => ((r.toNat * 1800 * c.divider / 1023 : Nat) : Int))
      flag c.enabled ++ u8 c.kind.code ++ u8 c.input.val ++ u8 c.divider ++ u8 c.role.code ++ i16 c.hiLimit
        ++ flag c.hiEnable ++ i16 c.loLimit ++ flag c.loEnable ++ u8 c.hysteresis ++ i16 c.critical ++ u8 c.target
        ++ flag w.raw.isSome ++ num i.val v
        ++ (if c.kind = .temperature then num (16 + i.val) (v.map (fun q => q / 4)) else u16 0)
        ++ codeBytes w.raw
        ++ u8 ((if w.hi then 1 else 0) + (if w.lo then 2 else 0) + (if w.emergency then 4 else 0))
    s.environmentData = (List.finRange 16).flatMap chan ++ flag s.env.inlet.isSome ++ num 32 s.env.inlet
      ++ (match s.env.scanner with
        | .off => u8 0 | .settling _ => u8 1 | .converting _ => u8 2 | .resting _ => u8 3)
      ++ flag s.cfg.scanner.enable ++ u16 s.cfg.scanner.restMs ++ u8 s.cfg.scanner.tolerance
      ++ u8 s.cfg.scanner.gateSecs ++ u8 s.env.trust.code ++ u8 s.env.fails ++ u8 s.env.passes
      ++ codeBytes s.env.refCode ++ flag s.env.thermal
      ++ (List.finRange 8).flatMap (fun t => flag s.trayPresent[t.val] ++ rpmBytes s.env.lastRpm[t.val])
      ++ (List.finRange 4).flatMap (fun i => u8 s.env.slots[i.val].state.code ++
          (match s.env.slots[i.val].candidate with | some (v, n) => u8 v.code ++ u8 n | none => [0xFF#8, 0x00#8]))
      ++ flag ((List.finRange 4).all (fun i => s.env.slots[i.val].state != .unknown)) ∧
    ∃ bits < 16, s.coolingData = u8 s.fan.current ++ u8 s.fan.computed ++ u8 bits ++ flag s.fan.excess.isSome
        ++ num 33 s.fan.excess ++ u16 s.cfg.cooling.minRpm ++ u8 s.cfg.cooling.minDuty ++ u8 s.cfg.cooling.gain
        ++ (List.finRange 8).flatMap (fun t => u8 (s.fan.tray t).state.code ++ u8 (s.fan.tray t).low
          ++ u8 (s.fan.tray t).high ++ rpmBytes s.env.lastRpm[t.val]
          ++ u8 (if (s.fan.tray t).state = .good then s.fan.current else 100)) ∧
      (bits.testBit 0 = true ↔ ∃ t, (s.fan.tray t).state = .failed) ∧
      (bits.testBit 1 = true ↔ s.env.trust ≠ .trusted) ∧ (bits.testBit 2 = true ↔ s.env.thermal = true) ∧
      (bits.testBit 3 = true ↔ ∀ i, (s.cfg.channel i).role = .cooling → s.reading? i = none)) ∧
  -- Power Read, the wait list in its order (R147)
  (∀ s : State, ∃ (hole : Nat → List Byte) (order : List WaitEntry), (∀ k, (hole k).length = 2) ∧
    order.Perm s.chassis.pwr.waitList ∧
    (s.chassis.pwr.waitList.Pairwise (fun d e => d.joinNo < e.joinNo) →
      order.Pairwise (fun d e => (s.cfg.port e.port).priority < (s.cfg.port d.port).priority ∨
        ((s.cfg.port e.port).priority = (s.cfg.port d.port).priority ∧ d.joinNo < e.joinNo))) ∧
    let w := s.chassis.pwr
    let i := w.inputs
    let g := s.cfg.power
    let stage (f : Stages → Nat) : List Byte := match w.stages with | some st => u16 (f st) | none => u16 0xFFFF
    let at_ (k : RateClass) : Nat := ((List.finRange 256).filter (fun p => (s.chassis.port p).granted == some k)).length
    let draw (o : Option RateClass) : Nat := match o with
      | some .c1 => g.d1 | some .c2 => g.d2 | some .c3 => g.d3 | some .c4 => g.d4 | none => 0
    let ports := ((List.finRange 256).map (fun p => draw (s.chassis.port p).granted)).sum
    s.powerData = (List.finRange 4).flatMap (fun k => u8 i.slots[k.val].code ++ u16 s.cfg.supply.ratings[k.val])
      ++ u8 s.cfg.supply.mode.code ++ flag i.settled ++ flag i.inlet.isSome
      ++ (match i.inlet with | some v => i16 v | none => hole 0) ++ u8 i.trust.code
      ++ (match w.stages with | some st => i16 st.inletT | none => u16 0x7FFF)
      ++ flag i.thermal ++ u8 i.good ++ u8 i.present ++ u8 i.blades ++ stage Stages.raw ++ stage Stages.factor
      ++ stage Stages.electrical ++ stage Stages.cooling ++ stage Stages.available ++ u16 w.budget
      ++ u16 (g.chassisBase + i.blades * g.bladeBase + i.present * g.trayDraw + ports) ++ u16 g.chassisBase
      ++ u16 (i.blades * g.bladeBase) ++ u16 (i.present * g.trayDraw) ++ u16 ports ++ u16 (at_ .c1) ++ u16 (at_ .c2)
      ++ u16 (at_ .c3) ++ u16 (at_ .c4) ++ flag w.episode ++ secsLeft16 s.clockMs w.holdoff
      ++ (match w.pacing with
        | some v => [0x01#8] ++ u8 v.count ++ u16 (v.dueMs - s.clockMs)
        | none => [0x00#8, 0x00#8] ++ hole 1)
      ++ u16 order.length
      ++ order.flatMap (fun e => [BitVec.ofFin e.port] ++ u8 e.kind.code ++ u8 (s.cfg.port e.port).priority
        ++ (if (s.clockMs - e.joinMs) / 1000 ≤ 65535 then u16 ((s.clockMs - e.joinMs) / 1000)
          else hole (2 + (s.clockMs - e.joinMs) / 1000 * 256 + e.port.val)))
      ++ flag w.powerWait ++ u8 g.knee ++ u8 g.slope ++ u8 g.untrustedInlet ++ u16 g.trayCapacity ++ u16 g.reserve
      ++ u16 g.chassisBase ++ u16 g.bladeBase ++ u8 g.trayDraw ++ u8 g.d1 ++ u8 g.d2 ++ u8 g.d3 ++ u8 g.d4
      ++ u16 g.margin ++ u16 g.holdoffSecs) ∧
  -- Alarm Read and Identity Read
  (∀ s : State,
    let a := s.chassis.alm
    (∃ bits < 8, s.alarmData = u8 a.entries.length
        ++ a.entries.flatMap (fun e => u8 e.kind.code.val ++ u24 e.subject ++ u8 (severityOf e.kind).code
          ++ flag (latchedKind e.kind) ++ u8 e.state.code ++ u32 e.raiseSec ++ flag e.pulse.isSome)
        ++ (match a.full with | some e => u8 e.state.code | none => [0xFF#8]) ++ u8 bits
        ++ (List.finRange 20).flatMap (fun k => u8 s.cfg.relays[k.val].mode.code ++ flag s.cfg.relays[k.val].enable)
        ++ u16 s.cfg.noticeOrigin.toNat ++ u8 a.notices.length ++ flag a.dip ∧
      (bits.testBit 0 = true ↔ a.Driven s.cfg.relays .minor) ∧ (bits.testBit 1 = true ↔ a.Driven s.cfg.relays .major) ∧
      (bits.testBit 2 = true ↔ a.Driven s.cfg.relays .critical)) ∧
    s.identityData = u16 0x0B27 ++ u16 0x0840 ++ u8 1
      ++ [256, 8, 4, 8, 16, 512, 256, 4096, 1024, 16, 32, 64, 1, 32, 64, 8, 16].flatMap u16
      ++ u24 s.cfg.mgmtAddr.toNat ++ flag s.store.settingsDirty ++ flag s.store.settingsValid
      ++ flag s.store.zonesDirty ++ flag s.store.zonesValid ++ flag s.chassis.licencesDirty ++ flag s.store.licencesValid
      ++ (match s.store.writer with
        | .idle => [0x00#8, 0xFF#8] | .held => [0x01#8, 0xFF#8] | .writing (.settings _) => [0x02#8, 0x00#8]
        | .writing (.zones _) => [0x02#8, 0x01#8] | .writing (.licences _) => [0x02#8, 0x02#8])
      ++ flag (s.store.monitor != .normal) ++ u8 s.store.cause.code ++ u32 s.seconds ++ flag s.store.startUp) ∧
  -- the codes and the places of none
  ([PortState.absent, .disabled, .unseated, .powerWait, .linkWait, .online].map PortState.code = [0, 1, 2, 3, 4, 5] ∧
   (∀ t d, (PortState.draining t d).code = 6) ∧ PortState.shed.code = 7 ∧ PortState.fault.code = 8 ∧
   [Binding.none, .counted, .drainHold].map Binding.code = [0, 2, 3] ∧ (∀ id, (Binding.licence id).code = 1) ∧
   [Access.none, .all].map Access.code = [0, 1] ∧ [LicState.active, .expired, .revoked].map LicState.code = [0, 1, 2] ∧
   [ChanKind.temperature, .voltage].map ChanKind.code = [0, 1] ∧
   [Role.none, .inlet, .cooling, .critical].map Role.code = [0, 1, 2, 3] ∧
   [Trust.unproven, .trusted, .lost].map Trust.code = [0, 1, 2] ∧
   [SlotState.unknown, .absent, .good, .fault].map SlotState.code = [0, 1, 2, 3] ∧
   [TrayState.absent, .good, .failed].map TrayState.code = [0, 1, 2] ∧
   [SupplyMode.spareOne, .combined].map SupplyMode.code = [0, 1] ∧ [WaitKind.powerWait, .shed].map WaitKind.code = [0, 1] ∧
   [EntryState.raised, .acknowledged, .clearedUnack].map EntryState.code = [0, 1, 2] ∧
   [Severity.minor, .major, .critical].map Severity.code = [0, 1, 2] ∧
   [RelayMode.held, .pulsed].map RelayMode.code = [0, 1] ∧
   [ResetCause.powerOn, .lossOfRetention, .line, .command].map ResetCause.code = [0, 1, 2, 3] ∧
   classByte none = [0x00#8] ∧ (∀ k : RateClass, classByte (some k) = u8 k.num) ∧ codeBytes none = [0xFF#8, 0xFF#8] ∧
   (∀ k, codeBytes (some k) = u16 k.toNat) ∧ rpmBytes none = [0xFF#8, 0xFF#8, 0xFF#8] ∧
   (∀ n, rpmBytes (some n) = u24 n) ∧ (∀ now, secsLeft16 now none = [0xFF#8, 0xFF#8]) ∧
   ∀ now due, secsLeft16 now (some due) = u16 ((due - now + 999) / 1000))

/-! ## Port commands -/

/-- R12: Port Enable writes the admin state; a drain toward DISABLED is cancelled, or goes on toward UNSEATED where
its binding is a drain-hold; a DISABLED port makes a seat request; another port's state stays. -/
def Obligations.PortEnableRaisesPort : Prop :=
  ∀ (s : State) (pr : Proc) (p : PortId), s.Serves pr .portEnable readPort p →
    let r := s.chassis.port p
    let e := s.setEnabled p true
    (match r.state with
     | .disabled => Leaves .portEnable s
         (State.answer ⟨.done, []⟩ { e with chassis := s.chassis.seatRequest e.ctx (outer e.ctx) p })
     | .draining .disabled due => Leaves .portEnable s
         (State.answer ⟨.done, []⟩ (e.withPort p
           (if r.binding = .drainHold then { r with state := .draining .unseated due }
            else { r with state := .online })))
     | .draining .unseated _ | .absent | .unseated | .powerWait | .linkWait | .online | .shed | .fault =>
         Leaves .portEnable s (e.answer ⟨.done, []⟩))

/-- R84, R6, R2, R141: a seat request of a port that is on no wait list and holds no grant: the seat that seat choice
names, at its licence's ceiling; else a counted grace binding where a grace remainder is stored; then the effective
ceiling, POWER-WAIT and a grant request with its evaluation; else UNSEATED at the tail of the seat wait list. -/
def Obligations.SeatRequestBindsOrWaits : Prop :=
  ∀ (x : Ctx) (c : Chassis) (p : PortId), (c.port p).granted = none → (∀ e ∈ c.pwr.waitList, e.port ≠ p) →
    let r := c.port p
    let req := (x.cfg.port p).reqClass
    let bound (d : Chassis) (b : Binding) (ceil eff : RateClass) : Chassis :=
      Chassis.evaluate x (Chassis.joinWait x p .powerWait
        (d.setPort p { r with state := .powerWait, binding := b, seatCeil := some ceil, effCeil := some eff }))
    (∀ l, c.seatChoice x p = some l →
      c.seatRequest x (outer x) p
        = bound (((c.bindSeat l.id p).setGrace p 0)) (.licence l.id) l.ceiling
            (if req.num ≤ l.ceiling.num then req else l.ceiling)) ∧
    (c.seatChoice x p = none → 0 < c.graceOf p → c.seatRequest x (outer x) p = bound c .counted req req) ∧
    (c.seatChoice x p = none → c.graceOf p = 0 →
      c.seatRequest x (outer x) p
        = { c.setPort p { r with state := .unseated } with seatWait := c.seatWait ++ [p] })

/-- R13: Port Disable writes the admin state. A running port drains toward DISABLED, and is DISABLED at once where it
has no login or drain time 0; a drain toward UNSEATED takes the target DISABLED; the other states move to DISABLED
at once and give seat, grant and places on the wait lists back. -/
def Obligations.PortDisableStopsPort : Prop :=
  ∀ (s : State) (pr : Proc) (p : PortId), s.Serves pr .portDisable readPort p → s.PortsOk →
    let r := s.chassis.port p
    let secs := (s.cfg.port p).drainSecs
    let e := s.setEnabled p false
    (match r.state with
     | .absent | .disabled | .draining .disabled _ => Leaves .portDisable s (e.answer ⟨.done, []⟩)
     | .draining .unseated due => Leaves .portDisable s
         (State.answer ⟨.done, []⟩ (e.withPort p { r with state := .draining .disabled due }))
     | .unseated => Leaves .portDisable s
         (State.answer ⟨.done, []⟩
           { e with chassis := { s.chassis.setPort p { r with state := .disabled } with
               seatWait := s.chassis.seatWait.filter (fun q => q != p) } })
     | .linkWait | .online =>
         (0 < secs → 0 < s.chassis.loginCount p → Leaves .portDisable s
           (State.answer ⟨.done, []⟩
             (e.withPort p { r with state := .draining .disabled (s.clockMs + secs * 1000) }))) ∧
         (secs = 0 ∨ s.chassis.loginCount p = 0 →
           ∃ u : State, Leaves .portDisable s (u.answer ⟨.done, []⟩) ∧ u.cfg = e.cfg ∧
             u.chassis.port p = ⟨.disabled, none, .none, none, none, none⟩ ∧
             (∀ a, ¬ u.chassis.LoggedIn a p) ∧
             (s.link.state = .up → .portControl p .disable ∈ u.blocks.controlLine))
     | .powerWait | .shed | .fault =>
         ∃ u : State, Leaves .portDisable s (u.answer ⟨.done, []⟩) ∧ u.cfg = e.cfg ∧
           u.chassis.port p = ⟨.disabled, r.negotiated, .none, none, none, none⟩ ∧
           ∀ w ∈ u.chassis.pwr.waitList, w.port ≠ p)

/-- R14: Port Set: a value out of its range (rate class 1..4, shed priority 0..7, a flag 0 or 1, drain time 0..30) is
Refused-Range and writes nothing; otherwise the fields given are written and the others kept. A changed requested rate
class has the effective ceiling computed again; a grant above it is reduced in place to it, with LINK-WAIT, a Port
Control Enable and the logins removed, or, in a drain, ends the drain; a changed class or shed priority has the budget
evaluated. -/
def Obligations.PortSetBringsGrantDown : Prop :=
  (∀ (f : PortSetForm) (old : PortAdmin),
    ((f.apply old).isSome = true ↔
      (∀ n ∈ f.reqClass, 1 ≤ n ∧ n ≤ 4) ∧ (∀ n ∈ f.priority, n ≤ 7) ∧ (∀ n ∈ f.reducedOk, n ≤ 1) ∧
      ∀ n ∈ f.drainSecs, n ≤ 30) ∧
    ∀ new ∈ f.apply old,
      new.enabled = old.enabled ∧ new.reqClass.num = f.reqClass.getD old.reqClass.num ∧
      new.priority = f.priority.getD old.priority ∧
      new.reducedOk = (f.reducedOk.map (fun n => n == 1)).getD old.reducedOk ∧
      new.drainSecs = f.drainSecs.getD old.drainSecs) ∧
  ∀ (s : State) (pr : Proc) (f : PortSetForm), s.Serves pr .portSet readPortSet f →
    let p := f.port
    let old := s.cfg.port p
    let r := s.chassis.port p
    (f.apply old = none → Leaves .portSet s (s.answer ⟨.refusedRange, []⟩)) ∧
    ∀ new, f.apply old = some new →
      let e : State := { s with cfg := s.cfg.setPort p new }
      let ceil := effective new.reqClass r.seatCeil
      let told := s.chassis.setPort p { r with effCeil := ceil }
      (new.reqClass = old.reqClass → new.priority = old.priority → Leaves .portSet s (e.answer ⟨.done, []⟩)) ∧
      (new.reqClass = old.reqClass → new.priority ≠ old.priority →
        Leaves .portSet s (State.answer ⟨.done, []⟩ { e with chassis := s.chassis.evaluate e.ctx })) ∧
      (new.reqClass ≠ old.reqClass → (∀ g ∈ r.granted, ∀ k ∈ ceil, g.num ≤ k.num) →
        Leaves .portSet s (State.answer ⟨.done, []⟩ { e with chassis := told.evaluate e.ctx })) ∧
      (∀ g k, new.reqClass ≠ old.reqClass → r.granted = some g → ceil = some k → k.num < g.num →
        (r.state = .linkWait ∨ r.state = .online →
          let lower := Chassis.removeLogins p (Chassis.putControl e.ctx p (.enable k)
            (s.chassis.setPort p { r with
              effCeil := ceil, granted := some k, state := .linkWait, negotiated := none }))
          Leaves .portSet s
            (State.answer ⟨.done, []⟩ { e with chassis := (lower.evaluate e.ctx).evaluate e.ctx })) ∧
        ∀ t due, r.state = .draining t due →
          Leaves .portSet s (State.answer ⟨.done, []⟩
            { e with chassis := (told.drainEnd e.ctx (outer e.ctx) p t).evaluate e.ctx }))

/-! ## Zone sets -/

/-- R54, R56, R57, R58: the edit claim: taken by Edit Begin, which copies the active set; given up by Edit Abort and
by the claim timer, which revert the edit set, the timer with the Edit Expired notice. A commit in flight answers Busy.
Without a claim timer its end changes nothing (log entry 1). -/
def Obligations.EditClaimTakenAndGivenUp : Prop :=
  (∀ (s : State) (pr : Proc), s.Serves pr .editBegin readUnit () →
    ((∃ d, s.zone.commit = .validating d) → Leaves .editBegin s (s.answer ⟨.busy, []⟩)) ∧
    ((∀ d, s.zone.commit ≠ .validating d) →
      (s.zone.owner = some pr.origin → Leaves .editBegin s (s.answer ⟨.done, []⟩)) ∧
      (∀ o, s.zone.owner = some o → o ≠ pr.origin → Leaves .editBegin s (s.answer ⟨.refusedClaimed, []⟩)) ∧
      (s.zone.owner = none → s.zone.commit = .idle → Leaves .editBegin s (State.answer ⟨.done, []⟩
        { s with zone := { s.zone with
            owner := some pr.origin, edit := s.zone.active
            claimDue := some (s.clockMs + s.cfg.claimIdle * 1000) } })) ∧
      (s.zone.owner = none → s.zone.commit = .armed → Leaves .editBegin s (State.answer ⟨.done, []⟩
        { s with zone := { s.zone with
            owner := some pr.origin, edit := s.zone.active, claimDue := none } })))) ∧
  (∀ (s : State) (pr : Proc), s.Serves pr .editAbort readUnit () →
    (s.zone.owner ≠ some pr.origin → Leaves .editAbort s (s.answer ⟨.refusedNoClaim, []⟩)) ∧
    (s.zone.owner = some pr.origin → (∃ d, s.zone.commit = .validating d) →
      Leaves .editAbort s (s.answer ⟨.busy, []⟩)) ∧
    (s.MayEdit pr.origin → Leaves .editAbort s (State.answer ⟨.done, []⟩
      (State.clear .zoneCommitFailed 0
        { s with zone := { s.zone with edit := s.zone.active, owner := none, claimDue := none } })))) ∧
  (∀ (s : State) (due : Nat) (o : Word16), s.Runs → s.zone.claimDue = some due → s.zone.owner = some o →
    LeavesAlarms .claimTimerExpiry s (State.notifyEvent .editExpired o.toNat (State.clear .zoneCommitFailed 0
      { s with
        clockMs := max s.clockMs due
        zone := { s.zone with edit := s.zone.active, owner := none, claimDue := none } }))) ∧
  ∀ s : State, s.Runs → s.zone.claimDue = none → Leaves .claimTimerExpiry s s

/-- R58 to R62: an edit command without the claim is Refused-No-Claim, and Busy while a commit is in flight; the edit
commands on the set and its zones, each with its refusals in their order (log entry 22 for Zone Rename). -/
def Obligations.EditCommandsChangeZones : Prop :=
  (∀ (s : State) (pr : Proc) (e : CmdEntry) (cmd : Cmd), s.Next pr e → e.code = cmd.code →
     cmd ∈ [Cmd.setRename, .defaultAccessSet, .zoneCreate, .zoneDelete, .zoneRename, .memberAdd, .memberRemove] →
     cmd.formOk e.params = true → cmd.privilege.rank ≤ pr.privilege.rank →
     (s.zone.owner ≠ some pr.origin → Leaves cmd.row s (s.answer ⟨.refusedNoClaim, []⟩)) ∧
     (s.zone.owner = some pr.origin → (∃ d, s.zone.commit = .validating d) →
       Leaves cmd.row s (s.answer ⟨.busy, []⟩))) ∧
  ∀ (s : State) (pr : Proc), s.MayEdit pr.origin →
    let e := s.zone.edit
    let done (z : ZoneSet) : State := State.answer ⟨.done, []⟩ (s.edited z)
    let no (st : Status) : State := s.answer ⟨st, []⟩
    let taken (n : List Byte) : Prop := ∃ z ∈ e.zones, z.name = n
    (∀ n, s.Serves pr .setRename readName n →
      (nameOk n = true → Leaves .setRename s (done { e with name := n })) ∧
      (nameOk n = false → Leaves .setRename s (no .refusedRange))) ∧
    (∀ v, s.Serves pr .defaultAccessSet (readNat 1) v →
      (v = 0 → Leaves .defaultAccessSet s (done { e with access := .none })) ∧
      (v = 1 → Leaves .defaultAccessSet s (done { e with access := .all })) ∧
      (2 ≤ v → Leaves .defaultAccessSet s (no .refusedRange))) ∧
    (∀ f, s.Serves pr .zoneCreate readZoneCreate f →
      let k := f.position.getD e.zones.length
      (nameOk f.name = false ∨ e.zones.length < k → Leaves .zoneCreate s (no .refusedRange)) ∧
      (nameOk f.name = true → k ≤ e.zones.length → 512 ≤ e.zones.length →
        Leaves .zoneCreate s (no .refusedFull)) ∧
      (nameOk f.name = true → k ≤ e.zones.length → e.zones.length < 512 → taken f.name →
        Leaves .zoneCreate s (no .refusedDuplicate)) ∧
      (nameOk f.name = true → k ≤ e.zones.length → e.zones.length < 512 → ¬ taken f.name →
        Leaves .zoneCreate s (done { e with zones := e.zones.insertIdx k ⟨f.name, []⟩ }))) ∧
    (∀ n, s.Serves pr .zoneDelete readName n →
      (nameOk n = false → Leaves .zoneDelete s (no .refusedRange)) ∧
      (nameOk n = true → ¬ taken n → Leaves .zoneDelete s (no .refusedUnknown)) ∧
      (nameOk n = true → taken n →
        Leaves .zoneDelete s (done { e with zones := e.zones.filter (fun z => z.name != n) }))) ∧
    ∀ f, s.Serves pr .zoneRename readZoneRename f →
      (nameOk f.old = false ∨ nameOk f.new = false → Leaves .zoneRename s (no .refusedRange)) ∧
      (nameOk f.old = true → nameOk f.new = true → f.new ≠ f.old → taken f.new →
        Leaves .zoneRename s (no .refusedDuplicate)) ∧
      (nameOk f.old = true → nameOk f.new = true → (f.new = f.old ∨ ¬ taken f.new) → ¬ taken f.old →
        Leaves .zoneRename s (no .refusedUnknown)) ∧
      (nameOk f.old = true → nameOk f.new = true → (f.new = f.old ∨ ¬ taken f.new) → taken f.old →
        Leaves .zoneRename s
          (done { e with zones := e.zones.map (fun z => if z.name = f.old then ⟨f.new, z.members⟩ else z) }))

/-- R63, R64: Member Add and Member Remove, each with its refusals in their order; a member joins the tail of its
zone. -/
def Obligations.MemberCommandsChangeZone : Prop :=
  ∀ (s : State) (pr : Proc) (f : MemberForm), s.MayEdit pr.origin → s.zone.edit.Ok →
    let e := s.zone.edit
    let done (g : List Member → List Member) : State := State.answer ⟨.done, []⟩ (s.edited { e with
      zones := e.zones.map (fun z => if z.name = f.zone then ⟨z.name, g z.members⟩ else z) })
    let no (st : Status) : State := s.answer ⟨st, []⟩
    let fine := nameOk f.zone = true ∧ f.member.ok = true
    (s.Serves pr .memberAdd readMember f →
      (¬ fine → Leaves .memberAdd s (no .refusedRange)) ∧
      (fine → 4096 ≤ e.total → Leaves .memberAdd s (no .refusedFull)) ∧
      (fine → e.total < 4096 → (∀ z ∈ e.zones, z.name ≠ f.zone) → Leaves .memberAdd s (no .refusedUnknown)) ∧
      ∀ z ∈ e.zones, fine → e.total < 4096 → z.name = f.zone →
        (256 ≤ z.members.length → Leaves .memberAdd s (no .refusedFull)) ∧
        (z.members.length < 256 → f.member ∈ z.members → Leaves .memberAdd s (no .refusedDuplicate)) ∧
        (z.members.length < 256 → f.member ∉ z.members →
          Leaves .memberAdd s (done (fun ms => ms ++ [f.member])))) ∧
    (s.Serves pr .memberRemove readMember f →
      (¬ fine → Leaves .memberRemove s (no .refusedRange)) ∧
      (fine → (∀ z ∈ e.zones, z.name ≠ f.zone) → Leaves .memberRemove s (no .refusedUnknown)) ∧
      ∀ z ∈ e.zones, fine → z.name = f.zone →
        (f.member ∉ z.members → Leaves .memberRemove s (no .refusedUnknown)) ∧
        (f.member ∈ z.members →
          Leaves .memberRemove s (done (fun ms => ms.filter (fun m => m != f.member)))))

/-- R66: Zone Commit arms a commit at its place in the list: Refused-No-Claim without the claim, Busy while one is in
flight, Refused-Duplicate where one is armed; an armed commit stops the claim timer. -/
def Obligations.ZoneCommitArms : Prop :=
  ∀ (s : State) (pr : Proc), s.Serves pr .zoneCommit readUnit () →
    (s.zone.owner ≠ some pr.origin → Leaves .zoneCommit s (s.answer ⟨.refusedNoClaim, []⟩)) ∧
    (s.zone.owner = some pr.origin →
      (∀ d, s.zone.commit = .validating d → Leaves .zoneCommit s (s.answer ⟨.busy, []⟩)) ∧
      (s.zone.commit = .armed → Leaves .zoneCommit s (s.answer ⟨.refusedDuplicate, []⟩)) ∧
      (s.zone.commit = .idle → Leaves .zoneCommit s
        (State.answer ⟨.armed, []⟩ { s with zone := { s.zone with commit := .armed, claimDue := none } })))

/-- R68, R69, R70, R71: validation ends. With an empty zone the commit fails: the sets and the claim stay, the claim
timer starts anew, Zone Commit Failed is raised, and the outcome holds the lowest such zone's index. Otherwise the
sets are swapped: the edit set is the active set under the next generation, the claim is given up, one Permit Flush
marker joins the tail of the verdict queue, and the Zones section is marked. Commit Failed carries that index and
Commit Done the generation as its subject. Without a validation its end changes nothing (log entry 1). -/
def Obligations.ValidationSwapsOrFails : Prop :=
  (∀ (s : State) (due : Nat) (o : Word16), s.Runs → s.zone.commit = .validating due → s.zone.owner = some o →
    let now := max s.clockMs due
    let g := s.zone.generation + 1#16
    (∀ (i : Nat) (z : Zone), s.zone.edit.zones[i]? = some z → z.members = [] →
      (∀ j w, j < i → s.zone.edit.zones[j]? = some w → w.members ≠ []) →
      LeavesAlarms .validationEnd s (State.notifyEvent .commitFailed i (State.raise .zoneCommitFailed 0
        { s with
          clockMs := now
          zone := { s.zone with
            commit := .idle, claimDue := some (now + s.cfg.claimIdle * 1000), outcome := .failed i o } }))) ∧
    (s.zone.edit.Full →
      LeavesAlarms .validationEnd s (State.notifyEvent .commitDone g.toNat (State.clear .zoneCommitFailed 0
        { s with
          clockMs := now
          zone := ⟨s.zone.edit, s.zone.edit, g, none, none, .idle, .swapped g o⟩
          link := { s.link with verdicts := s.link.verdicts.filter VerdictItem.isVerdict ++ [.flush g] }
          store := { s.store with zonesDirty := true } })))) ∧
  ∀ s : State, s.Runs → (∀ d, s.zone.commit ≠ .validating d) → Leaves .validationEnd s s

/-! ## Licences -/

/-- R80, R78: Licence Install: a value out of range, an id in the table, a full table; otherwise the record joins the
end of the table, Active and with no bound seat, the section is marked and a binding pass runs. -/
def Obligations.LicenceInstallAddsRecord : Prop :=
  (∀ (s : State) (pr : Proc) (f : LicenceInstallForm), s.Serves pr .licenceInstall readLicenceInstall f →
    (f.record? = none → Leaves .licenceInstall s (s.answer ⟨.refusedRange, []⟩)) ∧
    ∀ r, f.record? = some r →
      ((∃ l ∈ s.chassis.licences, l.record.id = r.id) →
        Leaves .licenceInstall s (s.answer ⟨.refusedDuplicate, []⟩)) ∧
      ((∀ l ∈ s.chassis.licences, l.record.id ≠ r.id) → 32 ≤ s.chassis.licences.length →
        Leaves .licenceInstall s (s.answer ⟨.refusedFull, []⟩)) ∧
      ((∀ l ∈ s.chassis.licences, l.record.id ≠ r.id) → s.chassis.licences.length < 32 →
        let added : Chassis :=
          { s.chassis with licences := s.chassis.licences ++ [⟨r, []⟩], licencesDirty := true }
        Leaves .licenceInstall s (State.answer ⟨.done, []⟩ { s with chassis := added.pass s.ctx }))) ∧
  ∀ f : LicenceInstallForm,
    (f.record?.isSome = true ↔
      f.id ≠ 0 ∧ (1 ≤ f.seats ∧ f.seats ≤ 256) ∧ (1 ≤ f.ceiling ∧ f.ceiling ≤ 4) ∧
      (f.scope.length ≤ 8 ∧ (∀ b ∈ f.scope, b ≤ 7) ∧ f.scope.Nodup) ∧
      (if f.term then ∃ h, f.hours = some h ∧ 1 ≤ h else f.hours = none ∧ f.warn = none)) ∧
    ∀ r ∈ f.record?,
      r.id = BitVec.ofNat 16 f.id ∧ r.seats = f.seats ∧ r.ceiling.num = f.ceiling ∧
      r.scope.map Fin.val = f.scope ∧ r.state = .active ∧
      r.term = (if f.term then f.hours.map (fun h => ⟨h, h, f.warn.getD 168⟩) else none)

/-- R81, R82: Licence Revoke and Licence Remove by the record's state. After the revocation of an Active licence the
record is Revoked, has no bound seat, and no port holds a seat of it; the other records stay as they are. No port of
the taken list without a stored grace remainder is given grace: where the list holds one port, that port is bound to a
seat of another licence that has one, and without one, in LINK-WAIT or ONLINE with a login and a drain time, it drains
toward UNSEATED with a drain-hold binding. -/
def Obligations.LicenceRevokeAndRemove : Prop :=
  ∀ (s : State) (pr : Proc) (id : Nat), s.chassis.LicencesOk →
    let w := BitVec.ofNat 16 id
    let found (st : LicState) (l : Licence) : Prop :=
      id ≠ 0 ∧ l ∈ s.chassis.licences ∧ l.record.id = w ∧ l.record.state = st
    let others := s.chassis.licences.filter (fun m => m.record.id != w)
    (s.Serves pr .licenceRevoke (readNat 2) id →
      (id = 0 → Leaves .licenceRevoke s (s.answer ⟨.refusedRange, []⟩)) ∧
      (id ≠ 0 → (∀ l ∈ s.chassis.licences, l.record.id ≠ w) →
        Leaves .licenceRevoke s (s.answer ⟨.refusedUnknown, []⟩)) ∧
      (∀ l, found .revoked l → Leaves .licenceRevoke s (s.answer ⟨.done, []⟩)) ∧
      (∀ l, found .expired l → Leaves .licenceRevoke s (State.answer ⟨.done, []⟩
        (State.clear .licenseExpired id
          { s with chassis := { s.chassis with
              licences := s.chassis.licences.map (fun m =>
                if m.record.id = w then { m with record := { m.record with state := .revoked } } else m)
              licencesDirty := true } }))) ∧
      ∀ l, found .active l → s.PortsOk → (∀ p, (s.chassis.port p).binding = .licence w → p ∈ l.bound) →
        ∃ u : State, Leaves .licenceRevoke s (u.answer ⟨.done, []⟩) ∧ u.chassis.licencesDirty = true ∧
          u.chassis.licences.map Licence.record = s.chassis.licences.map (fun m =>
            if m.record.id = w then { m.record with state := .revoked } else m.record) ∧
          (∀ m ∈ u.chassis.licences, m.record.id = w → m.bound = []) ∧
          (∀ p, (u.chassis.port p).binding ≠ .licence w) ∧
          (∀ p, (s.chassis.port p).binding = .licence w → s.chassis.graceOf p = 0 → (u.chassis.port p).binding ≠ .counted) ∧
          ∀ p, l.bound = [p] → (s.chassis.port p).binding = .licence w → s.chassis.passDue = false →
            let r := s.chassis.port p
            let free (m : Licence) : Prop := m ∈ s.chassis.licences ∧ m ≠ l ∧ m.record.state = .active ∧
              m.bound.length < m.record.seats ∧ (m.record.scope = [] ∨ bladeOf p ∈ m.record.scope)
            (∀ m, free m → (∀ k, free k → k = m) → (∀ g ∈ r.granted, g.num ≤ m.record.ceiling.num) →
              u.chassis.port p = { r with
                binding := .licence m.record.id, seatCeil := some m.record.ceiling
                effCeil := effective (s.cfg.port p).reqClass (some m.record.ceiling) } ∧
              ∃ k ∈ u.chassis.licences, k.record = m.record ∧ k.bound = m.bound ++ [p]) ∧
            ((∀ m, ¬ free m) → r.state = .linkWait ∨ r.state = .online → 0 < (s.cfg.port p).drainSecs →
              0 < s.chassis.loginCount p →
              u.chassis.port p = { r with
                state := .draining .unseated (s.clockMs + (s.cfg.port p).drainSecs * 1000), binding := .drainHold })) ∧
    (s.Serves pr .licenceRemove (readNat 2) id →
      (id = 0 → Leaves .licenceRemove s (s.answer ⟨.refusedRange, []⟩)) ∧
      (id ≠ 0 → (∀ l ∈ s.chassis.licences, l.record.id ≠ w) →
        Leaves .licenceRemove s (s.answer ⟨.refusedUnknown, []⟩)) ∧
      (∀ l, found .active l → Leaves .licenceRemove s (s.answer ⟨.refusedState, []⟩)) ∧
      (∀ l, found .expired l → Leaves .licenceRemove s (State.answer ⟨.done, []⟩
        (State.clear .licenseExpired id
          { s with chassis := { s.chassis with licences := others, licencesDirty := true } }))) ∧
      ∀ l, found .revoked l → Leaves .licenceRemove s (State.answer ⟨.done, []⟩
        { s with chassis := { s.chassis with licences := others, licencesDirty := true } }))

/-- R93, R88: Licence Warn Set writes a Term licence's threshold, whatever its state, and marks the section; Grace Set
takes a grace length of 0 to 720 hours. -/
def Obligations.WarnAndGraceSettings : Prop :=
  (∀ (s : State) (pr : Proc) (f : WarnForm), s.Serves pr .licenceWarnSet readWarn f → s.chassis.LicencesOk →
    let w := BitVec.ofNat 16 f.id
    (f.id = 0 → Leaves .licenceWarnSet s (s.answer ⟨.refusedRange, []⟩)) ∧
    (f.id ≠ 0 → (∀ l ∈ s.chassis.licences, l.record.id ≠ w) →
      Leaves .licenceWarnSet s (s.answer ⟨.refusedUnknown, []⟩)) ∧
    ∀ l ∈ s.chassis.licences, f.id ≠ 0 → l.record.id = w →
      (l.record.term = none → Leaves .licenceWarnSet s (s.answer ⟨.refusedState, []⟩)) ∧
      ∀ t, l.record.term = some t → Leaves .licenceWarnSet s (State.answer ⟨.done, []⟩
        { s with chassis := { s.chassis with
            licences := s.chassis.licences.map (fun m =>
              if m.record.id = w then { m with record := { m.record with term := some { t with warn := f.warn } } }
              else m)
            licencesDirty := true } })) ∧
  ∀ (s : State) (pr : Proc) (n : Nat), s.Serves pr .graceSet (readNat 2) n →
    (n ≤ 720 → Leaves .graceSet s (State.answer ⟨.done, []⟩ { s with cfg := { s.cfg with graceLen := n } })) ∧
    (720 < n → Leaves .graceSet s (s.answer ⟨.refusedRange, []⟩))

/-- R83: seat choice finds a seat exactly where there is a candidate, and the licence chosen goes before every other
candidate. R87: at the end of a binding pass, with those it causes (log entry 7), no port that waits or holds a
counted grace binding finds a seat; the first counted grace port in ascending number that finds one is bound to it,
and where there is none the first of the seat wait list; where no port finds one the pass changes nothing. R85: a seat
release by the kind of the binding. -/
def Obligations.SeatChoiceTakesBestLicence : Prop :=
  ∀ (x : Ctx) (c : Chassis) (p : PortId),
    let r := (x.cfg.port p).reqClass
    let fits (l : Licence) : Prop := l ∈ c.licences ∧ l.record.state = .active ∧
      l.bound.length < l.record.seats ∧ (l.record.scope = [] ∨ bladeOf p ∈ l.record.scope)
    ((∀ l, ¬ fits l) → c.seatChoice x p = none) ∧
    ((∃ l, fits l) → ∃ l, fits l ∧ c.seatChoice x p = some l.record ∧
      ∀ m, fits m →
        (r.num ≤ m.record.ceiling.num →
          r.num ≤ l.record.ceiling.num ∧ l.record.ceiling.num ≤ m.record.ceiling.num) ∧
        (l.record.ceiling.num < r.num → m.record.ceiling.num ≤ l.record.ceiling.num) ∧
        (m.record.ceiling = l.record.ceiling → l.record.term.isSome = true → m.record.term.isSome = true) ∧
        (m.record.ceiling = l.record.ceiling → m.record.term.isSome = l.record.term.isSome →
          l.record.id.toNat ≤ m.record.id.toNat)) ∧
    (let d := c.pass x
     d.passDue = false ∧
     (∀ q, q ∈ d.seatWait ∨ (d.port q).binding = .counted → d.seatChoice x q = none) ∧
     ((∀ q, q ∈ c.seatWait ∨ (c.port q).binding = .counted → c.seatChoice x q = none) →
       d = { c with passDue := false }) ∧
     (∀ l, (∀ q, c.RowOk q) → (c.port p).binding = .counted → (c.port p).state.isDraining = false →
       (∀ q, q.val < p.val → (c.port q).binding = .counted → c.seatChoice x q = none) →
       c.seatChoice x p = some l → (∀ g ∈ (c.port p).granted, g.num ≤ r.num ∧ g.num ≤ l.ceiling.num) →
       (d.port p).binding = .licence l.id ∧ (d.port p).seatCeil = some l.ceiling ∧ d.graceOf p = 0) ∧
     ∀ l before after, (∀ q, c.RowOk q) → (∀ q, (c.port q).binding = .counted → c.seatChoice x q = none) →
       c.seatWait = before ++ p :: after → p ∉ before → (∀ q ∈ before, c.seatChoice x q = none) →
       c.seatChoice x p = some l →
       (d.port p).binding = .licence l.id ∧ (d.port p).seatCeil = some l.ceiling ∧ p ∉ d.seatWait) ∧
    (let cleared := c.setPort p { c.port p with binding := .none, seatCeil := none, effCeil := none }
     let d := c.seatRelease x (outer x) p
     ((c.port p).binding = .none → d = cleared) ∧
     (∀ id, (c.port p).binding = .licence id → d = Chassis.pass x { cleared with
       licences := c.licences.map (fun l =>
         if l.record.id = id then { l with bound := l.bound.filter (fun q => q != p) } else l) }) ∧
     ((c.port p).binding = .counted → d.ports = cleared.ports ∧ d.graceOf p = 0 ∧ d.licences = c.licences ∧
       (c.graceOf p ≠ 0 → d.licencesDirty = true) ∧ d.seatWait = c.seatWait) ∧
     ((c.port p).binding = .drainHold → d.ports = cleared.ports ∧ d.grace = c.grace ∧ d.licences = c.licences))

/-- R91, R191: a second of running time: the running-time counter and SEAT's seconds counter advance, with the wraps
of both; the wrap of the latter is the hour tick, and the row HOUR_TICK is that second (log entry 25). -/
def Obligations.SecondsCountAndHourTickWraps : Prop :=
  ∀ s : State, s.Runs →
    (s.hourSeconds ≠ 3599 → Leaves .secondsCounterAdvance s
      { s with
        clockMs := max s.clockMs s.secondDueMs
        secondDueMs := s.secondDueMs + 1000
        seconds := (s.seconds + 1) % 4294967296
        hourSeconds := s.hourSeconds + 1 }) ∧
    (s.hourSeconds ≠ 3599 → Leaves .hourTick s s) ∧
    (s.hourSeconds = 3599 → exec .hourTick s = exec .secondsCounterAdvance s ∧
      ∃ t, exec .secondsCounterAdvance s = .next t ∧ t.hourSeconds = 0 ∧ t.secondDueMs = s.secondDueMs + 1000 ∧
        t.seconds = (s.seconds + 1) % 4294967296 ∧ t.cfg = s.cfg ∧ t.zone = s.zone ∧ t.env = s.env ∧
        t.fan = s.fan)

/-- R92, R94, R95, R96: at an hour tick in which no counted grace binding runs out, each Active Term licence with a
bound port loses one hour, and one whose hours are then 0 is Expired, has no bound seat and License Expired raised;
every other field of every record stays; each Active Term licence left has License Expiry Near raised where its hours
are no greater than its threshold and cleared where they are greater (raises while the table has room). A counted
grace binding loses one hour, or a binding pass of the tick gives its port a seat, and it ends at 0. The one port of
the one licence that expires goes through the rebind choice: a seat of another licence, else a counted grace binding
of the grace length, else the loss of its seat. -/
def Obligations.HourTickRunsHoursDown : Prop :=
  (∀ s : State, s.Runs → s.hourSeconds = 3599 → s.chassis.LicencesOk →
     (∀ p, (s.chassis.port p).binding = .counted → 2 ≤ s.chassis.graceOf p) →
     ∃ t, exec .hourTick s = .next t ∧
       t.chassis.licences.map Licence.record = s.chassis.licences.map (fun l =>
         match l.record.term with
         | some h =>
           if l.record.state = .active then
             let left := if l.bound = [] then h.remaining else h.remaining - 1
             { l.record with
               term := some { h with remaining := left }
               state := if left = 0 then .expired else .active }
           else l.record
         | none => l.record) ∧
       (∀ l ∈ t.chassis.licences, l.record.state = .expired → l.bound = []) ∧
       (s.chassis.alm.entries.length + s.chassis.licences.length + 5 ≤ 64 →
         ∀ l ∈ t.chassis.licences, l.record.state = .expired →
           (∀ m ∈ s.chassis.licences, m.record.id = l.record.id → m.record.state = .active) →
           ∃ e ∈ t.chassis.alm.entries, e.kind = .licenseExpired ∧ e.subject = l.record.id.toNat) ∧
       ((∀ e ∈ s.chassis.alm.entries, e.kind = .licenseExpiryNear → e.state ≠ .clearedUnack) →
         ∀ l ∈ t.chassis.licences, ∀ h, l.record.term = some h → l.record.state = .active →
           (h.warn < h.remaining →
             ∀ e ∈ t.chassis.alm.entries, e.kind = .licenseExpiryNear → e.subject ≠ l.record.id.toNat) ∧
           (h.remaining ≤ h.warn → s.chassis.alm.entries.length + s.chassis.licences.length + 5 ≤ 64 →
             ∃ e ∈ t.chassis.alm.entries, e.kind = .licenseExpiryNear ∧ e.subject = l.record.id.toNat ∧
               e.state ≠ .clearedUnack))) ∧
  (∀ s : State, s.Runs → s.hourSeconds = 3599 → s.PortsOk →
    (∀ l ∈ s.chassis.licences, l.record.state = .active → ∀ h, l.record.term = some h → 2 ≤ h.remaining) →
    ∃ t, exec .hourTick s = .next t ∧
      ∀ p, (s.chassis.port p).binding = .counted →
        (2 ≤ s.chassis.graceOf p → (s.chassis.port p).state.isDraining = false →
          (t.chassis.graceOf p = s.chassis.graceOf p - 1 ∧ (t.chassis.port p).binding = .counted) ∨
            (s.chassis.licences ≠ [] ∧ t.chassis.graceOf p = 0 ∧ ∃ id, (t.chassis.port p).binding = .licence id)) ∧
        (s.chassis.graceOf p ≤ 1 → t.chassis.graceOf p = 0 ∧ (t.chassis.port p).binding ≠ .counted)) ∧
  ∀ (s : State) (l : Licence) (h : Term) (p : PortId), s.Runs → s.hourSeconds = 3599 → s.PortsOk →
    s.chassis.LicencesOk → s.chassis.BindingsOk → s.chassis.passDue = false →
    (∀ q, (s.chassis.port q).binding ≠ .counted) → l ∈ s.chassis.licences → l.record.state = .active →
    l.record.term = some h → h.remaining ≤ 1 → l.bound = [p] →
    (∀ m ∈ s.chassis.licences, m ≠ l → m.record.state = .active → ∀ k, m.record.term = some k → 2 ≤ k.remaining) →
    let r := s.chassis.port p
    let now := max s.clockMs s.secondDueMs
    let free (m : Licence) : Prop := m ∈ s.chassis.licences ∧ m ≠ l ∧ m.record.state = .active ∧
      m.bound.length < m.record.seats ∧ (m.record.scope = [] ∨ bladeOf p ∈ m.record.scope)
    ∃ t, exec .hourTick s = .next t ∧
      (∀ m, free m → (∀ k, free k → k = m) → (∀ g ∈ r.granted, g.num ≤ m.record.ceiling.num) →
        t.chassis.port p = { r with
          binding := .licence m.record.id, seatCeil := some m.record.ceiling
          effCeil := effective (s.cfg.port p).reqClass (some m.record.ceiling) } ∧
        ∃ k ∈ t.chassis.licences, k.record.id = m.record.id ∧ k.bound = m.bound ++ [p]) ∧
      ((∀ m, ¬ free m) → 0 < s.cfg.graceLen →
        t.chassis.port p = { r with binding := .counted } ∧ t.chassis.graceOf p = s.cfg.graceLen) ∧
      ((∀ m, ¬ free m) → s.cfg.graceLen = 0 →
        (r.state = .linkWait ∨ r.state = .online → 0 < (s.cfg.port p).drainSecs → 0 < s.chassis.loginCount p →
          t.chassis.port p = { r with
            state := .draining .unseated (now + (s.cfg.port p).drainSecs * 1000), binding := .drainHold }) ∧
        (∀ tg due, r.state = .draining tg due → t.chassis.port p = { r with binding := .drainHold }) ∧
        (r.state = .powerWait ∨ r.state = .shed ∨ r.state = .fault →
          (∀ q, (s.chassis.port q).state.isDraining = false) →
          t.chassis.port p = { r with state := .unseated, binding := .none, seatCeil := none, effCeil := none } ∧
          p ∈ t.chassis.seatWait))

/-! ## Channels and rounds -/

/-- R102, R103: Channel Set: a channel above 15, a value out of its range, or a resulting record that breaks the rules
of R102 is Refused-Range. Otherwise the record is written, an Inlet role is taken from every other channel, a
rewired channel loses value and conditions, a channel that is no longer Critical loses its emergency condition, and
the thermal state and the inlet reading are judged and handed to PWR. -/
def Obligations.ChannelSetWritesRecord : Prop :=
  (∀ (s : State) (pr : Proc) (f : ChannelSetForm), s.Serves pr .channelSet readChannelSet f →
    (16 ≤ f.chan → Leaves .channelSet s (s.answer ⟨.refusedRange, []⟩)) ∧
    ∀ i : ChanId, f.chan = i.val →
      (f.apply (s.cfg.channel i) = none → Leaves .channelSet s (s.answer ⟨.refusedRange, []⟩)) ∧
      ∀ new, f.apply (s.cfg.channel i) = some new →
        ∃ u : State, Leaves .channelSet s (u.answer ⟨.done, []⟩) ∧
          u.cfg.channel i = new ∧
          (∀ j, j ≠ i → u.cfg.channel j =
            if new.role = .inlet ∧ (s.cfg.channel j).role = .inlet then { s.cfg.channel j with role := .none }
            else s.cfg.channel j) ∧
          u.env.chan i =
            (if (s.cfg.channel i).rewired new then ⟨none, false, false, false⟩
             else if (s.cfg.channel i).role = .critical ∧ new.role ≠ .critical then
               { s.env.chan i with emergency := false }
             else s.env.chan i) ∧
          (∀ j, j ≠ i → u.env.chan j = s.env.chan j) ∧
          (u.env.thermal = true ↔ ∃ j, (u.env.chan j).emergency = true) ∧ u.env.inlet = u.inletReading ∧
          u.chassis.pwr.inputs.thermal = u.env.thermal ∧ u.chassis.pwr.inputs.inlet = u.env.inlet ∧
          u.env.trust = s.env.trust ∧ u.zone = s.zone ∧ u.clockMs = s.clockMs) ∧
  ∀ (f : ChannelSetForm) (old : ChanCfg),
    let kind := f.kind.getD old.kind.code
    let role := f.role.getD old.role.code
    let hi := (f.hiLimit.map signed16).getD old.hiLimit
    let lo := (f.loLimit.map signed16).getD old.loLimit
    ((f.apply old).isSome = true ↔
      (∀ n ∈ f.enabled, n ≤ 1) ∧ (∀ n ∈ f.kind, n ≤ 1) ∧ (∀ n ∈ f.input, n ≤ 15) ∧
      (∀ n ∈ f.divider, 1 ≤ n ∧ n ≤ 4) ∧ (∀ n ∈ f.role, n ≤ 3) ∧ (∀ n ∈ f.hiEnable, n ≤ 1) ∧
      (∀ n ∈ f.loEnable, n ≤ 1) ∧ (∀ n ∈ f.hysteresis, n ≤ 20) ∧
      (∀ n ∈ f.critical, -55 ≤ signed16 n ∧ signed16 n ≤ 200) ∧ (∀ n ∈ f.target, n ≤ 100) ∧
      (role ≠ 0 → kind = 0) ∧ lo < hi ∧ (kind = 0 → -55 ≤ lo ∧ hi ≤ 200) ∧ (kind = 1 → 0 ≤ lo ∧ hi ≤ 7200)) ∧
    ∀ new ∈ f.apply old,
      new.enabled = (f.enabled.map (fun n => n == 1)).getD old.enabled ∧ new.kind.code = kind ∧
      new.input.val = f.input.getD old.input.val ∧ new.divider = f.divider.getD old.divider ∧
      new.role.code = role ∧ new.hiLimit = hi ∧ new.loLimit = lo ∧
      new.hiEnable = (f.hiEnable.map (fun n => n == 1)).getD old.hiEnable ∧
      new.loEnable = (f.loEnable.map (fun n => n == 1)).getD old.loEnable ∧
      new.hysteresis = f.hysteresis.getD old.hysteresis ∧
      new.critical = (f.critical.map signed16).getD old.critical ∧ new.target = f.target.getD old.target

/-- R106: Scanner Set writes the settings given; turning off in Settling or Resting enters Off at once, with trust
Unproven, and in Converting waits for the round's end; turning on leads from Off to Settling and cancels a waiting
turn-off. -/
def Obligations.ScannerSetTurnsScanner : Prop :=
  ∀ (s : State) (pr : Proc) (f : ScannerSetForm), s.Serves pr .scannerSet readScannerSet f →
    let bad := (∃ n ∈ f.enable, 1 < n) ∨ (∃ n ∈ f.restMs, 65535 < n) ∨ (∃ n ∈ f.tolerance, n < 1 ∨ 63 < n) ∨
      ∃ n ∈ f.gateSecs, n ≠ 1 ∧ n ≠ 2 ∧ n ≠ 4
    let old := s.cfg.scanner
    let e : State := { s with cfg := { s.cfg with scanner :=
      ⟨(f.enable.map (fun n => n == 1)).getD old.enable, f.restMs.getD old.restMs,
        f.tolerance.getD old.tolerance, f.gateSecs.getD old.gateSecs⟩ } }
    (bad → Leaves .scannerSet s (s.answer ⟨.refusedRange, []⟩)) ∧
    (¬ bad → f.enable = none → Leaves .scannerSet s (e.answer ⟨.done, []⟩)) ∧
    (¬ bad → f.enable = some 1 → Leaves .scannerSet s (State.answer ⟨.done, []⟩
      (match s.env.scanner with
       | .off => { e with env := { s.env with scanner := .settling (s.clockMs + 50) } }
       | .converting _ => { e with env := { s.env with turnOff := false } }
       | .settling _ | .resting _ => e))) ∧
    (¬ bad → f.enable = some 0 →
      (s.env.scanner = .off → Leaves .scannerSet s (e.answer ⟨.done, []⟩)) ∧
      (∀ r, s.env.scanner = .converting r →
        Leaves .scannerSet s (State.answer ⟨.done, []⟩ { e with env := { s.env with turnOff := true } })) ∧
      ((∃ d, s.env.scanner = .settling d) ∨ (∃ d, s.env.scanner = .resting d) →
        ∃ u : State, Leaves .scannerSet s (u.answer ⟨.done, []⟩) ∧ u.cfg = e.cfg ∧
          u.env = { s.env with
            scanner := .off, turnOff := false, conv := none, readNow := none
            trust := .unproven, fails := 0, passes := 0 } ∧
          u.fan = (if s.env.trust = .trusted then { s.fan with current := 100, computed := 100 } else s.fan) ∧
          u.chassis.pwr.inputs.trust = .unproven ∧ u.zone = s.zone ∧ u.clockMs = s.clockMs))

/-- R114, R104: Read Now: its refusals, a channel index above 15 before the scanner's state (log entry 40); its
conversion starts at once where none is under way and waits behind one otherwise, and the command holds the processor;
at its end the command is answered Done with the channel, the raw code, the value in quarter and whole degrees or in
mV, and the mark of a converter that is not Trusted; the scanner goes on. Without a Read Now conversion the end of one
changes nothing (log entry 1). -/
def Obligations.ReadNowConvertsOnce : Prop :=
  (∀ (s : State) (pr : Proc) (n : Nat), s.Serves pr .readNow (readNat 1) n →
    let held : Link := { s.link with proc := some { pr with holding := true } }
    (16 ≤ n → Leaves .readNow s (s.answer ⟨.refusedRange, []⟩)) ∧
    ∀ i : ChanId, n = i.val →
      let c := s.cfg.channel i
      let idle := s.env.scanner = .off ∨ (∃ d, s.env.scanner = .settling d) ∨ s.env.turnOff = true
      (c.enabled = false ∨ idle → Leaves .readNow s (s.answer ⟨.refusedState, []⟩)) ∧
      (c.enabled = true → ¬ idle → s.env.conv = none → Leaves .readNow s
        { s with
          link := held
          env := { s.env with
            readNow := none, conv := some (.readNow ⟨i, c.kind, c.input, c.divider, false⟩, s.clockMs + 10) } }) ∧
      (c.enabled = true → ¬ idle → s.env.conv.isSome = true → Leaves .readNow s
        { s with link := held, env := { s.env with readNow := some i } })) ∧
  (∀ (s : State) (t : Taken) (due : Nat) (code : RawCode), s.Runs → s.env.conv = some (.readNow t, due) →
    s.env.readNow = none →
    let now := max s.clockMs due
    let v : Int := match t.kind with
      | .temperature => code.toNat - 220
      | .voltage => code.toNat * 1800 * t.divider / 1023
    let whole : Int := match t.kind with
      | .temperature => v / 4
      | .voltage => 0
    let data := u8 t.chan.val ++ u16 code.toNat ++ i16 v ++ i16 whole ++ flag (s.env.trust != .trusted)
    Leaves (.readNowConversionEnd code) s (State.answer ⟨.done, data⟩
      (match s.env.scanner with
       | .converting r =>
           { s with
             clockMs := now
             env := { s.env with conv := some (if r.left = [] then .reference else .channel, now + 10) } }
       | .resting none =>
           { s with
             clockMs := now
             env := { s.env with
               scanner := .converting ⟨s.cfg.roundList, []⟩
               conv := some (if s.cfg.roundList = [] then .reference else .channel, now + 10) } }
       | .off | .settling _ | .resting (some _) =>
           { s with clockMs := now, env := { s.env with conv := none } }))) ∧
  ∀ (s : State) (code : RawCode), s.Runs → (∀ t due, s.env.conv ≠ some (.readNow t, due)) →
    Leaves (.readNowConversionEnd code) s s

/-- R106, R107, R114: settling and rest lead to a round, which takes the enabled channels in ascending index and
converts them one after another, 10 ms each, the reference last; a Read Now that waits comes before the next of
them, and holds back a round whose rest runs out during it. The ends of settling, rest, a conversion and a round change
nothing where none of them runs (log entry 1). -/
def Obligations.RoundConvertsChannelsInOrder : Prop :=
  (∀ s : State, s.Runs →
    let first (now : Nat) : State :=
      { s with
        clockMs := now
        env := { s.env with
          scanner := .converting ⟨s.cfg.roundList, []⟩
          conv := some (if s.cfg.roundList = [] then .reference else .channel, now + 10) } }
    (∀ due, s.env.scanner = .settling due → s.env.readNow = none →
      Leaves .settlingEnd s (first (max s.clockMs due))) ∧
    ((∀ due, s.env.scanner ≠ .settling due) → Leaves .settlingEnd s s) ∧
    (∀ due, s.env.scanner = .resting (some due) → s.env.conv = none → s.env.readNow = none →
      Leaves .restIntervalEnd s (first (max s.clockMs due))) ∧
    (∀ due, s.env.scanner = .resting (some due) → s.env.conv.isSome = true →
      Leaves .restIntervalEnd s
        { s with clockMs := max s.clockMs due, env := { s.env with scanner := .resting none } }) ∧
    ((∀ due, s.env.scanner ≠ .resting (some due)) → Leaves .restIntervalEnd s s)) ∧
  (∀ (s : State) (code : RawCode) (due : Nat) (t : Taken) (ts : List Taken) (held : List (Taken × RawCode)),
    s.Runs → s.env.conv = some (.channel, due) → s.env.scanner = .converting ⟨t :: ts, held⟩ →
    let now := max s.clockMs due
    let went (conv : Conv) : State :=
      { s with
        clockMs := now
        env := { s.env with
          scanner := .converting ⟨ts, held ++ [(t, code)]⟩, conv := some (conv, now + 10), readNow := none } }
    (s.env.readNow = none →
      Leaves (.conversionEnd code) s (went (if ts = [] then .reference else .channel))) ∧
    ∀ i, s.env.readNow = some i → Leaves (.conversionEnd code) s (went (.readNow (s.cfg.take i)))) ∧
  (∀ (s : State) (code : RawCode), s.Runs → (∀ due, s.env.conv ≠ some (.channel, due)) →
    Leaves (.conversionEnd code) s s) ∧
  (∀ (s : State) (code : RawCode), s.Runs → (∀ due, s.env.conv ≠ some (.reference, due)) →
    Leaves (.roundEnd code) s s) ∧
  ∀ c : Settings, (c.roundList.map Taken.chan).Pairwise (· < ·) ∧
    (∀ t ∈ c.roundList, (c.channel t.chan).enabled = true ∧ t.kind = (c.channel t.chan).kind ∧
      t.input = (c.channel t.chan).input ∧ t.divider = (c.channel t.chan).divider ∧ t.void = false) ∧
    ∀ i, (c.channel i).enabled = true → i ∈ c.roundList.map Taken.chan

/-- R108 to R113: the round end checks the reference against 512, moves the trust state and its counts, and where the
round passed and trust is Trusted takes the readings that stand and judges each enabled channel with a value, with its
hysteresis; otherwise values and conditions hold. A waiting turn-off then enters Off (after these effects: log entry
27); else the scanner rests, or the next round starts where the rest interval is 0; a Read Now that waits is converted
first. PWR holds what ENV holds. A condition that begins has its alarm raised, one that ends has it cleared (R111,
R112); so has Sensor Trust Lost at the entries to Lost and Trusted and the departures from Lost (R110). -/
def Obligations.RoundEndMovesTrustAndTakesReadings : Prop :=
  ∀ (s : State) (code : RawCode) (due : Nat) (r : Round), s.Runs → s.env.conv = some (.reference, due) →
    s.env.scanner = .converting r → (r.held.map (fun e => e.1.chan)).Nodup →
    let tol := s.cfg.scanner.tolerance
    let passed := 512 ≤ code.toNat + tol ∧ code.toNat ≤ 512 + tol
    let now := max s.clockMs due
    ∃ (t : State) (trust : Trust) (fails passes : Nat), exec (.roundEnd code) s = .next t ∧
      (match s.env.trust with
       | .unproven => (passed → trust = .trusted ∧ fails = 0 ∧ passes = 0) ∧
           (¬ passed → if s.env.fails = 0 then trust = .unproven ∧ fails = 1 ∧ passes = s.env.passes
             else trust = .lost ∧ fails = 0 ∧ passes = 0)
       | .trusted => (passed → trust = .trusted ∧ fails = 0 ∧ passes = s.env.passes) ∧
           (¬ passed → if s.env.fails = 0 then trust = .trusted ∧ fails = 1 ∧ passes = s.env.passes
             else trust = .lost ∧ fails = 0 ∧ passes = 0)
       | .lost => (passed → if s.env.passes ≤ 2 then trust = .lost ∧ fails = s.env.fails ∧ passes = s.env.passes + 1
             else trust = .trusted ∧ fails = 0 ∧ passes = 0) ∧
           (¬ passed → trust = .lost ∧ fails = s.env.fails ∧ passes = 0)) ∧
      t.clockMs = now ∧ t.env.refCode = some code ∧ t.cfg = s.cfg ∧ t.zone = s.zone ∧
      (s.env.turnOff = true → t.env.scanner = .off ∧ t.env.conv = none ∧ t.env.trust = .unproven ∧
        t.env.fails = 0 ∧ t.env.passes = 0) ∧
      (s.env.turnOff = false → t.env.trust = trust ∧ t.env.fails = fails ∧ t.env.passes = passes ∧
        (0 < s.cfg.scanner.restMs → t.env.scanner = .resting (some (now + s.cfg.scanner.restMs)) ∧
          t.env.conv = s.env.readNow.map (fun i => (.readNow (s.cfg.take i), now + 10))) ∧
        (s.cfg.scanner.restMs = 0 → t.env.scanner = .converting ⟨s.cfg.roundList, []⟩ ∧
          t.env.conv = some (match s.env.readNow with
            | some i => .readNow (s.cfg.take i)
            | none => if s.cfg.roundList = [] then .reference else .channel, now + 10)) ∧ t.env.readNow = none) ∧
      (¬ (passed ∧ trust = .trusted) → t.env.chans = s.env.chans ∧ t.env.thermal = s.env.thermal) ∧
      (passed → trust = .trusted → (∀ i : ChanId,
        (t.env.chan i).raw = (match r.held.find? (fun e => e.1.chan == i) with
          | some e => if e.1.admitted s.cfg then some e.2 else (s.env.chan i).raw
          | none => (s.env.chan i).raw) ∧
        (t.reading? i = none → (t.env.chan i).hi = (s.env.chan i).hi ∧ (t.env.chan i).lo = (s.env.chan i).lo ∧
          (t.env.chan i).emergency = (s.env.chan i).emergency) ∧
        ∀ v, t.reading? i = some v →
          let c := s.cfg.channel i
          let h : Int := c.hysteresis
          (t.env.chan i).hi =
            (c.hiEnable && (decide (c.hiLimit < v) || ((s.env.chan i).hi && decide (c.hiLimit - h ≤ v)))) ∧
          (t.env.chan i).lo =
            (c.loEnable && (decide (v < c.loLimit) || ((s.env.chan i).lo && decide (v ≤ c.loLimit + h)))) ∧
          (t.env.chan i).emergency =
            (if c.role = .critical then
              decide (c.critical < v) || ((s.env.chan i).emergency && decide (c.critical - h ≤ v))
             else (s.env.chan i).emergency)) ∧
        (t.env.thermal = true ↔ ∃ i, (t.env.chan i).emergency = true)) ∧
      t.env.inlet = t.inletReading ∧ t.chassis.pwr.inputs.trust = t.env.trust ∧
      t.chassis.pwr.inputs.thermal = t.env.thermal ∧ t.chassis.pwr.inputs.inlet = t.env.inlet ∧
      (s.chassis.alm.Ok →
        let stands (k : AlarmKind) (n : Nat) : Prop := ∃ e ∈ t.chassis.alm.entries, e.kind = k ∧ e.subject = n
        let ended (k : AlarmKind) (n : Nat) : Prop :=
          ∀ e ∈ t.chassis.alm.entries, e.kind = k → e.subject = n → e.state = .clearedUnack
        let judged (k : AlarmKind) (n : Nat) (stood is : Bool) : Prop :=
          (stood = false → is = true → s.chassis.alm.entries.length ≤ 10 → stands k n) ∧
          (stood = true → is = false → ended k n)
        (∀ i : ChanId,
          let temp := (s.cfg.channel i).kind = .temperature
          judged (if temp then .overTemperature else .overVoltage) i.val (s.env.chan i).hi (t.env.chan i).hi ∧
          judged (if temp then .underTemperature else .underVoltage) i.val (s.env.chan i).lo (t.env.chan i).lo ∧
          judged .thermalEmergency i.val (s.env.chan i).emergency (t.env.chan i).emergency) ∧
        (s.env.turnOff = false → trust = .lost → s.env.trust ≠ .lost → s.chassis.alm.entries.length ≤ 10 →
          stands .sensorTrustLost 0) ∧
        ((s.env.trust = .lost ∧ t.env.trust ≠ .lost) ∨ (s.env.trust ≠ .trusted ∧ trust = .trusted) →
          ended .sensorTrustLost 0))

/-! ## Cooling and supply -/

/-- R126, R127, R128: the duty at a round end: from the highest excess over the targets of the Cooling channels that
have a value, 100 under an override or where no channel counts; upward at once, downward 5 points a round. A turn-off
taken at the round end makes it 100 (log entry 27). -/
def Obligations.RoundEndFormsDuty : Prop :=
  ∀ (s : State) (code : RawCode) (due : Nat) (r : Round), s.Runs → s.env.conv = some (.reference, due) →
    s.env.scanner = .converting r → s.DutyOk →
    ∃ t, exec (.roundEnd code) s = .next t ∧
      (s.env.turnOff = true → t.fan.current = 100 ∧ t.fan.computed = 100) ∧
      (s.env.turnOff = false →
        let counts (i : ChanId) (e : Int) : Prop :=
          (s.cfg.channel i).role = .cooling ∧ ∃ v, t.reading? i = some v ∧ e = v - (s.cfg.channel i).target
        let full := (∃ k : TrayId, (s.fan.tray k).state = .failed) ∨ t.env.trust ≠ .trusted ∨ t.env.thermal = true
        ((∀ i e, ¬ counts i e) → t.fan.excess = none ∧ t.fan.computed = 100) ∧
        (full → t.fan.computed = 100) ∧
        (∀ i e, counts i e → (∀ j d, counts j d → d ≤ e) → t.fan.excess = some e ∧
          (¬ full → t.fan.computed = min 100 (s.cfg.cooling.minDuty + s.cfg.cooling.gain * e.toNat))) ∧
        t.fan.current = (if s.fan.current ≤ t.fan.computed then t.fan.computed
          else max t.fan.computed (s.fan.current - 5))) ∧
      t.fan.trays = s.fan.trays

/-- R115, R116, R122, R123, R130: a pulse is counted up to 65,535 while the tray's gate runs; a gate's end gives its
RPM, starts the next gate and is judged by the tray's table; a presence change moves the tray, and what changes of
the good and the present trays is handed to PWR. Where no gate runs a pulse and a gate's end change nothing (log
entry 1). -/
def Obligations.TrayEventsMoveTray : Prop :=
  (∀ (s : State) (k : TrayId), s.Runs →
    (s.env.gates[k.val] = none → Leaves (.tachPulse k) s s ∧ Leaves (.gateEnd k) s s) ∧
    ∀ g, s.env.gates[k.val] = some g →
      Leaves (.tachPulse k) s { s with env := { s.env with
        gates := s.env.gates.set k.val (some { g with count := min 65535 (g.count + 1) }) } }) ∧
  (∀ (s : State) (k : TrayId) (g : Gate), s.Runs → s.env.gates[k.val] = some g →
    let now := max s.clockMs g.dueMs
    let rpm := g.count * 60 / (2 * g.secs)
    let r := s.fan.tray k
    let e (tray : Tray) (f : Fan → Fan) : State :=
      { s with
        clockMs := now
        env := { s.env with
          lastRpm := s.env.lastRpm.set k.val (some rpm)
          gates := s.env.gates.set k.val (some ⟨0, s.cfg.scanner.gateSecs, now + s.cfg.scanner.gateSecs * 1000⟩) }
        fan := f { s.fan with trays := s.fan.trays.set k.val tray } }
    (s.cfg.cooling.minRpm ≤ rpm →
      (r.state = .good → r.high = 2 →
        Leaves (.gateEnd k) s (State.clear .fanTrayFailed k.val (e ⟨.good, 0, 3⟩ id))) ∧
      (r.state = .good → r.high ≠ 2 → Leaves (.gateEnd k) s (e ⟨.good, 0, min 3 (r.high + 1)⟩ id)) ∧
      (r.state = .failed → r.high < 2 → Leaves (.gateEnd k) s (e ⟨.failed, r.low, r.high + 1⟩ id)) ∧
      (r.state = .failed → 2 ≤ r.high → Leaves (.gateEnd k) s
        (State.onChassis (fun x => Chassis.handPwr x (fun i => { i with good := i.good + 1 }))
          (State.clear .fanTrayFailed k.val (e ⟨.good, 0, 0⟩ id))))) ∧
    (rpm < s.cfg.cooling.minRpm →
      (r.state = .failed → Leaves (.gateEnd k) s (e ⟨.failed, r.low, 0⟩ id)) ∧
      (r.state = .good → r.low < 2 → Leaves (.gateEnd k) s (e ⟨.good, r.low + 1, 0⟩ id)) ∧
      (r.state = .good → 2 ≤ r.low → Leaves (.gateEnd k) s
        (State.onChassis (fun x => Chassis.handPwr x (fun i => { i with good := i.good - 1 }))
          (State.raise .fanTrayFailed k.val
            (e ⟨.failed, 0, 0⟩ (fun f => { f with current := 100, computed := 100 }))))))) ∧
  ∀ (s : State) (k : TrayId), s.Runs →
    let line (b : Bool) : State := { s with trayPresent := s.trayPresent.set k.val b }
    let gate : Gate := ⟨0, s.cfg.scanner.gateSecs, s.clockMs + s.cfg.scanner.gateSecs * 1000⟩
    let was := (s.fan.tray k).state
    (was = .absent → Leaves (.presenceLost k) s (line false)) ∧
    (was ≠ .absent → Leaves (.presenceLost k) s
      (State.onChassis (fun x => Chassis.handPwr x (fun i =>
          { i with good := if was = .good then i.good - 1 else i.good, present := i.present - 1 }))
        (State.clear .fanTrayFailed k.val (State.raise .fanTrayAbsent k.val
          { line false with
            env := { s.env with
              gates := s.env.gates.set k.val none, lastRpm := s.env.lastRpm.set k.val none }
            fan := { s.fan with trays := s.fan.trays.set k.val ⟨.absent, 0, 0⟩ } })))) ∧
    (was ≠ .absent → Leaves (.presenceGained k) s (line true)) ∧
    (was = .absent → Leaves (.presenceGained k) s
      (State.onChassis (fun x => Chassis.handPwr x (fun i =>
          { i with good := i.good + 1, present := i.present + 1 }))
        (State.clear .fanTrayAbsent k.val
          { line true with
            env := { s.env with gates := s.env.gates.set k.val (some gate) }
            fan := { s.fan with trays := s.fan.trays.set k.val ⟨.good, 0, 0⟩ } })))

/-- R117, R118: a sample of the four slots: a state is taken when it is read three times in a row; PWR is handed each
change, and settlement when no slot is Unknown; the next sample comes 100 ms later. A slot that takes a state has Supply
Fault and Supply Absent each raised where that is its state and cleared otherwise. -/
def Obligations.SupplySampleMovesSlots : Prop :=
  ∀ (s : State) (seated good : BitVec 4), s.Runs →
    ∃ t, exec (.supplySample seated good) s = .next t ∧
      t.clockMs = max s.clockMs s.env.sampleDue ∧ t.env.sampleDue = s.env.sampleDue + 100 ∧
      t.env = { s.env with slots := t.env.slots, sampleDue := t.env.sampleDue } ∧
      (∀ i : SlotId,
        let reads : SlotState :=
          if seated.getLsbD i.val then if good.getLsbD i.val then .good else .fault else .absent
        let old := s.env.slots[i.val]
        let new := t.env.slots[i.val]
        (reads = old.state → new = ⟨old.state, none⟩) ∧
        (reads ≠ old.state → old.candidate = some (reads, 2) → new = ⟨reads, none⟩) ∧
        (reads ≠ old.state → old.candidate = some (reads, 1) → new = ⟨old.state, some (reads, 2)⟩) ∧
        (reads ≠ old.state → (∀ n, old.candidate ≠ some (reads, n)) → new = ⟨old.state, some (reads, 1)⟩) ∧
        t.chassis.pwr.inputs.slots[i.val] =
          (if new.state = old.state then s.chassis.pwr.inputs.slots[i.val] else new.state) ∧
        (new.state ≠ old.state → s.chassis.alm.Ok →
          let stands (k : AlarmKind) : Prop := ∃ e ∈ t.chassis.alm.entries, e.kind = k ∧ e.subject = i.val
          let ended (k : AlarmKind) : Prop :=
            ∀ e ∈ t.chassis.alm.entries, e.kind = k → e.subject = i.val → e.state = .clearedUnack
          (new.state = .fault → s.chassis.alm.entries.length + 8 ≤ 64 → stands .supplyFault) ∧
          (new.state ≠ .fault → ended .supplyFault) ∧
          (new.state = .absent → s.chassis.alm.entries.length + 8 ≤ 64 → stands .supplyAbsent) ∧
          (new.state ≠ .absent → ended .supplyAbsent))) ∧
      (t.chassis.pwr.inputs.settled = true ↔
        s.chassis.pwr.inputs.settled = true ∨ ∀ i : SlotId, t.env.slots[i.val].state ≠ .unknown) ∧
      t.cfg = s.cfg ∧ t.fan = s.fan ∧ t.zone = s.zone

/-! ## Settings -/

/-- R55, R58, R125, R134, R138, R162, R183: the other setting commands: a value out of its range is Refused-Range;
otherwise every value given is written. A minimum duty above the current duty lifts both duties; Supply Set and
Power Set have the budget evaluated. -/
def Obligations.SettingCommandsKeepRanges : Prop :=
  (∀ (s : State) (pr : Proc) (n : Nat), s.Serves pr .claimTimeSet (readNat 2) n →
    (30 ≤ n → n ≤ 3600 → Leaves .claimTimeSet s
      (State.answer ⟨.done, []⟩ { s with cfg := { s.cfg with claimIdle := n } })) ∧
    (n < 30 ∨ 3600 < n → Leaves .claimTimeSet s (s.answer ⟨.refusedRange, []⟩))) ∧
  (∀ (s : State) (pr : Proc) (f : CoolingSetForm), s.Serves pr .coolingSet readCoolingSet f →
    let bad := (∃ n ∈ f.minRpm, 20000 < n) ∨ (∃ n ∈ f.minDuty, n < 20 ∨ 100 < n) ∨ ∃ n ∈ f.gain, n < 1 ∨ 20 < n
    let old := s.cfg.cooling
    let duty := f.minDuty.getD old.minDuty
    (bad → Leaves .coolingSet s (s.answer ⟨.refusedRange, []⟩)) ∧
    (¬ bad → Leaves .coolingSet s (State.answer ⟨.done, []⟩
      { s with
        cfg := { s.cfg with cooling := ⟨f.minRpm.getD old.minRpm, duty, f.gain.getD old.gain⟩ }
        fan := if f.minDuty.isSome = true ∧ s.fan.current < duty then { s.fan with current := duty, computed := duty }
          else s.fan }))) ∧
  (∀ (s : State) (pr : Proc) (f : SupplySetForm), s.Serves pr .supplySet readSupplySet f →
    let bad := (∃ o ∈ [f.r0, f.r1, f.r2, f.r3], ∃ n ∈ o, 5000 < n) ∨ ∃ n ∈ f.mode, 1 < n
    let old := s.cfg.supply
    let e : State := { s with cfg := { s.cfg with supply :=
      ⟨#v[f.r0.getD old.ratings[0], f.r1.getD old.ratings[1], f.r2.getD old.ratings[2], f.r3.getD old.ratings[3]],
        if f.mode = some 0 then .spareOne else if f.mode = some 1 then .combined else old.mode⟩ } }
    (bad → Leaves .supplySet s (s.answer ⟨.refusedRange, []⟩)) ∧
    (¬ bad → Leaves .supplySet s (State.answer ⟨.done, []⟩ { e with chassis := s.chassis.evaluate e.ctx }))) ∧
  (∀ (s : State) (pr : Proc) (f : PowerSetForm), s.Serves pr .powerSet readPowerSet f →
    let bad := (∃ n ∈ f.knee, n < 20) ∨ ∃ o ∈ [(f.knee, 60), (f.slope, 50), (f.untrustedInlet, 100),
      (f.trayCapacity, 2000), (f.reserve, 1000), (f.chassisBase, 3000), (f.bladeBase, 500), (f.trayDraw, 200),
      (f.d1, 50), (f.d2, 50), (f.d3, 50), (f.d4, 50), (f.margin, 1000), (f.holdoffSecs, 600)], ∃ n ∈ o.1, o.2 < n
    let w := s.cfg.power
    let e : State := { s with cfg := { s.cfg with power :=
      { knee := f.knee.getD w.knee, slope := f.slope.getD w.slope
        untrustedInlet := f.untrustedInlet.getD w.untrustedInlet
        trayCapacity := f.trayCapacity.getD w.trayCapacity, reserve := f.reserve.getD w.reserve
        chassisBase := f.chassisBase.getD w.chassisBase, bladeBase := f.bladeBase.getD w.bladeBase
        trayDraw := f.trayDraw.getD w.trayDraw, d1 := f.d1.getD w.d1, d2 := f.d2.getD w.d2
        d3 := f.d3.getD w.d3, d4 := f.d4.getD w.d4, margin := f.margin.getD w.margin
        holdoffSecs := f.holdoffSecs.getD w.holdoffSecs } } }
    (bad → Leaves .powerSet s (s.answer ⟨.refusedRange, []⟩)) ∧
    (¬ bad → Leaves .powerSet s (State.answer ⟨.done, []⟩ { e with chassis := s.chassis.evaluate e.ctx }))) ∧
  (∀ (s : State) (pr : Proc) (n : Nat), s.Serves pr .alarmSet readAlarmSet (.origin n) →
    Leaves .alarmSet s (State.answer ⟨.done, []⟩ { s with cfg := { s.cfg with noticeOrigin := BitVec.ofNat 16 n } })) ∧
  (∀ (s : State) (pr : Proc) (k : Nat) (mode enable : Option Nat),
    s.Serves pr .alarmSet readAlarmSet (.kind k mode enable) →
    let bad := 20 ≤ k ∨ (∃ n ∈ mode, 1 < n) ∨ ∃ n ∈ enable, 1 < n
    (bad → Leaves .alarmSet s (s.answer ⟨.refusedRange, []⟩)) ∧
    ∀ i : Fin 20, k = i.val → ¬ bad →
      let old := s.cfg.relays[i.val]
      let new : RelayCfg :=
        ⟨if mode = some 0 then .held else if mode = some 1 then .pulsed else old.mode,
          (enable.map (fun n => n == 1)).getD old.enable⟩
      Leaves .alarmSet s
        (State.answer ⟨.done, []⟩ { s with cfg := { s.cfg with relays := s.cfg.relays.set i.val new } })) ∧
  ∀ (s : State) (pr : Proc) (a : Nat), s.Serves pr .addressSet (readNat 3) a →
    Leaves .addressSet s (State.answer ⟨.done, []⟩ { s with cfg := { s.cfg with mgmtAddr := BitVec.ofNat 24 a } })

/-! ## The power governor -/

/-- R135, R136, R137, R139, R143 to R146: the seven stages of the budget and the four parts of the demand. An evaluation
forms them, has Redundancy Lost raised and cleared, and ends with a demand within the budget unless every grant left is
Protected; while supply is not settled none runs. Where no port drains, its shed pass revokes a run `ps` of the
shed order, none more than it takes: each of those ports is in SHED, with Port Control Disable, without logins, and
joins the grant wait list in that order; the holdoff starts and the episode opens with Power Shed Active. The episode
closes, and the alarm is cleared, where no SHED entry stands. -/
def Obligations.EvaluationKeepsDemandInBudget : Prop :=
  (∀ (i : PwrInputs) (cfg : Settings),
    let good := (List.finRange 4).filter (fun k : SlotId => i.slots[k.val] = .good)
    let sum := (good.map (fun k => cfg.supply.ratings[k.val])).sum
    let st := i.stages cfg
    let w := cfg.power
    (cfg.supply.mode = .combined ∨ good.length < 2 → st.raw = sum) ∧
    (cfg.supply.mode = .spareOne → 2 ≤ good.length →
      ∃ k ∈ good, (∀ j ∈ good, cfg.supply.ratings[j.val] ≤ cfg.supply.ratings[k.val]) ∧
        st.raw + cfg.supply.ratings[k.val] = sum) ∧
    (∀ v, i.trust = .trusted → i.inlet = some v → st.inletT = v) ∧
    (i.trust ≠ .trusted ∨ i.inlet = none → st.inletT = w.untrustedInlet) ∧
    (st.factor : Int) =
      (if st.inletT ≤ w.knee then 1000 else max 500 (1000 - w.slope * (st.inletT - w.knee))) ∧
    st.electrical = st.raw * st.factor / 1000 ∧ st.cooling = i.good * w.trayCapacity ∧
    st.available = (if i.thermal then 0 else min st.electrical st.cooling) ∧
    st.budget w = st.available - w.reserve ∧ st.budget w ≤ sum ∧
    (i.redundancyLost cfg = true ↔ i.settled = true ∧ cfg.supply.mode = .spareOne ∧ good.length < 2)) ∧
  ∀ (x : Ctx) (c : Chassis),
    (c.pwr.inputs.settled = false → c.evaluate x = c) ∧
    (c.pwr.inputs.settled = true →
      let d := c.evaluate x
      d.pwr.inputs = c.pwr.inputs ∧ d.pwr.stages = some (c.pwr.inputs.stages x.cfg) ∧
      d.pwr.budget = (c.pwr.inputs.stages x.cfg).budget x.cfg.power ∧
      d.pwr.redundancyLost = c.pwr.inputs.redundancyLost x.cfg ∧
      (d.demand x ≤ d.pwr.budget ∨ ∀ p, (d.port p).granted.isSome = true → 7 ≤ (x.cfg.port p).priority)) ∧
    (let w := x.cfg.power
     let draw (g : Option RateClass) : Nat := match g with
       | some .c1 => w.d1 | some .c2 => w.d2 | some .c3 => w.d3 | some .c4 => w.d4 | none => 0
     c.demand x = w.chassisBase + c.pwr.inputs.blades * w.bladeBase + c.pwr.inputs.present * w.trayDraw
       + ((List.finRange 256).map (fun p => draw (c.port p).granted)).sum) ∧
    (c.pwr.inputs.settled = true →
      let d := c.evaluate x
      let stands (k : AlarmKind) : Prop := ∃ e ∈ d.alm.entries, e.kind = k ∧ e.subject = 0
      let ended (k : AlarmKind) : Prop := ∀ e ∈ d.alm.entries, e.kind = k → e.subject = 0 → e.state = .clearedUnack
      (c.pwr.redundancyLost = false → d.pwr.redundancyLost = true → c.alm.entries.length < 64 →
        stands .redundancyLost) ∧
      (c.alm.Ok → c.pwr.redundancyLost = true → d.pwr.redundancyLost = false → ended .redundancyLost) ∧
      (d.pwr.episode = true → ∃ e ∈ d.pwr.waitList, e.kind = .shed) ∧
      (c.alm.Ok → c.pwr.episode = true → d.pwr.episode = false → ended .powerShedActive) ∧
      (d.pwr.budget < c.demand x →
        (∀ p, (c.port p).granted.isSome = true → (c.port p).state = .linkWait ∨ (c.port p).state = .online) →
        let prio (p : PortId) : Nat := (x.cfg.port p).priority
        let online (p : PortId) : Prop := (c.port p).state = .online
        let ahead (p q : PortId) : Prop := prio p < prio q ∨
          (prio p = prio q ∧ ((¬ online p ∧ online q) ∨ ((online p ↔ online q) ∧ q.val < p.val)))
        let may (p : PortId) : Prop := (c.port p).granted.isSome = true ∧ prio p ≤ 6
        ∃ ps : List PortId, ps.Pairwise ahead ∧ (∀ p ∈ ps, may p) ∧
          (∀ p q, p ∈ ps → q ∉ ps → may q → ahead p q) ∧
          (∀ p ∈ ps, d.port p = { c.port p with state := .shed, granted := none, negotiated := none }) ∧
          (∀ p, p ∉ ps → d.port p = c.port p) ∧
          (∀ p ∈ ps.getLast?, d.pwr.budget < d.demand x + x.cfg.power.drawOf (c.port p).granted) ∧
          d.logins = c.logins.filter (fun e => !ps.contains e.port) ∧
          (x.linkUp = true → ∀ p ∈ ps, (p, Control.disable) ∈ d.slots) ∧
          d.pwr.waitList.map (fun e => (e.port, e.kind))
            = c.pwr.waitList.map (fun e => (e.port, e.kind)) ++ ps.map (fun p => (p, WaitKind.shed)) ∧
          (ps = [] → d.pwr.holdoff = c.pwr.holdoff) ∧
          (ps ≠ [] → d.pwr.holdoff = some (x.clockMs + x.cfg.power.holdoffSecs * 1000) ∧ d.pwr.episode = true ∧
            (c.pwr.episode = false → c.alm.entries.length < 63 → stands .powerShedActive))))

/-- R146, R148, R150: the governor's timers: the holdoff's end has the budget evaluated; so has the end of a pacing
window where a port waits; the wait timer's end raises Power Wait. A timer that does not run has no end (log entry 1).
R147: a port joins the tail of the grant wait list with the next join number and the time, the list renumbered where
the number would run over. R149, R150: an evaluation within the budget whose holdoff does not run grants to the
entries of the list by shed priority and joining: each of `gs` takes the highest class offered that fits with the
margin, at most 16 in a window; while the holdoff runs none. The wait timer starts at a join while supply is not
settled as well (log entry 32). -/
def Obligations.GovernorTimersRunOut : Prop :=
  ∀ s : State, s.Runs →
    let w := s.chassis.pwr
    let at_ (due : Nat) (v : Pwr) : State :=
      { s with clockMs := max s.clockMs due, chassis := { s.chassis with pwr := v } }
    (∀ due, w.holdoff = some due →
      Leaves .holdoffExpiry s ((at_ due { w with holdoff := none }).onChassis Chassis.evaluate)) ∧
    (w.holdoff = none → Leaves .holdoffExpiry s s) ∧
    (∀ g, w.pacing = some g → w.waitList = [] →
      Leaves .pacingWindowEnd s (at_ g.dueMs { w with pacing := none })) ∧
    (∀ g, w.pacing = some g → w.waitList ≠ [] →
      Leaves .pacingWindowEnd s ((at_ g.dueMs { w with pacing := none }).onChassis Chassis.evaluate)) ∧
    (w.pacing = none → Leaves .pacingWindowEnd s s) ∧
    (∀ due, w.waitTimer = some due →
      Leaves .waitTimerExpiry s
        (State.raise .powerWait 0 (at_ due { w with powerWait := true, waitTimer := none }))) ∧
    (w.waitTimer = none → Leaves .waitTimerExpiry s s) ∧
    let x := s.ctx
    let c := s.chassis
    (∀ p k, let d := c.joinWait x p k
      (w.nextJoin ≤ 4294967295 → d.pwr.waitList = w.waitList ++ [⟨p, k, w.nextJoin, s.clockMs⟩] ∧
        d.pwr.nextJoin = w.nextJoin + 1) ∧
      (4294967295 < w.nextJoin →
        d.pwr.waitList = w.waitList.zipIdx.map (fun e => { e.1 with joinNo := e.2 })
          ++ [⟨p, k, w.waitList.length, s.clockMs⟩] ∧
        d.pwr.nextJoin = w.waitList.length + 1) ∧
      d.pwr.waitTimer = (if k = .powerWait ∧ ∀ e ∈ w.waitList, e.kind = .shed then some (s.clockMs + 10000)
        else w.waitTimer)) ∧
    (w.inputs.settled = true →
      let d := c.evaluate x
      let budget := (w.inputs.stages s.cfg).budget s.cfg.power
      (c.demand x ≤ budget → w.holdoff.isSome = true →
        d.ports = c.ports ∧ d.pwr.waitList = w.waitList ∧ d.pwr.pacing = w.pacing) ∧
      (c.demand x ≤ budget → w.holdoff = none → (∀ e ∈ w.waitList, (c.port e.port).granted = none) →
        (w.waitList.map WaitEntry.port).Nodup → w.waitList.Pairwise (fun a b => a.joinNo < b.joinNo) →
        let prio (e : WaitEntry) : Nat := (s.cfg.port e.port).priority
        let m := if w.episode then s.cfg.power.margin else 0
        let draw (g : RateClass) : Nat := s.cfg.power.draw g
        let offered (e : WaitEntry) (g : RateClass) : Prop := ∃ k, (c.port e.port).effCeil = some k ∧
          (g = k ∨ ((s.cfg.port e.port).reducedOk = true ∧ g.num ≤ k.num))
        let count := (w.pacing.map Pacing.count).getD 0
        ∃ (os : List WaitEntry) (gs : List (WaitEntry × RateClass)),
          os.Perm w.waitList ∧
          os.Pairwise (fun a b => prio b < prio a ∨ (prio a = prio b ∧ a.joinNo < b.joinNo)) ∧
          (gs.map Prod.fst).Sublist os ∧
          (∀ v ∈ gs, offered v.1 v.2 ∧
            d.port v.1.port = { c.port v.1.port with state := .linkWait, granted := some v.2 } ∧
            (x.linkUp = true → (v.1.port, Control.enable v.2) ∈ d.slots) ∧
            ∀ k, offered v.1 k → v.2.num < k.num → budget + draw v.2 < d.demand x + draw k + m) ∧
          (∀ p, (∀ v ∈ gs, v.1.port ≠ p) → d.port p = c.port p) ∧
          d.pwr.waitList = w.waitList.filter (fun e => !(gs.map Prod.fst).contains e) ∧
          d.demand x = c.demand x + (gs.map (fun v => draw v.2)).sum ∧
          (gs ≠ [] → d.demand x + m ≤ budget) ∧
          (∀ e g, os.head? = some e → offered e g → count < 16 → c.demand x + draw g + m ≤ budget →
            (∀ k, offered e k → g.num < k.num → budget < c.demand x + draw k + m) → (e, g) ∈ gs) ∧
          count + gs.length ≤ max 16 count ∧
          (count + gs.length < 16 → ∀ e ∈ d.pwr.waitList, ∀ g, offered e g → budget < d.demand x + draw g + m) ∧
          d.pwr.pacing = (if gs = [] then w.pacing
            else some (match w.pacing with
              | some v => { v with count := v.count + gs.length }
              | none => ⟨gs.length, s.clockMs + 250⟩))))

/-! ## Alarms -/

/-- R156, R157, R158, R164, R165: a raise creates one entry at the end of the table, and one that the full table
refuses raises Alarm Table Full in its reserved place; a clear removes an entry or leaves a Raised latched one
Cleared-Unacknowledged, and a removal that frees a place ends Alarm Table Full; each raise, clear and event forms its
notice where the notice origin is set, and a notice joins the queue of 32 by severity. -/
def Obligations.AlarmsRaiseClearAndNotify : Prop :=
  (∀ (x : Ctx) (k : AlarmKind) (n : Nat) (a : Alm),
    let stands := ∃ e ∈ a.entries, e.kind = k ∧ e.subject = n
    let b := a.raise x k n
    (stands → b = a) ∧
    (¬ stands → a.entries.length < 64 →
      b.entries = a.entries ++ [⟨k, n, .raised, x.seconds, some (x.clockMs + 2000)⟩] ∧ b.full = a.full ∧
      b.notices = (if x.cfg.noticeOrigin = 0#16 then a.notices
        else enqueueNotice ⟨x.cfg.noticeOrigin, .alarm k, n, severityOf k, .raised, x.seconds, false⟩ a.notices)) ∧
    (¬ stands → 64 ≤ a.entries.length → b.entries = a.entries ∧
      (a.full.isSome = true → b = a) ∧
      (a.full = none → b.full = some ⟨.alarmTableFull, 0, .raised, x.seconds, some (x.clockMs + 2000)⟩ ∧
        b.notices = (if x.cfg.noticeOrigin = 0#16 then a.notices
          else enqueueNotice ⟨x.cfg.noticeOrigin, .alarm .alarmTableFull, 0, severityOf .alarmTableFull, .raised,
            x.seconds, false⟩ a.notices))) ∧
    b.dip = a.dip) ∧
  (∀ (x : Ctx) (k : AlarmKind) (n : Nat) (a : Alm), a.Ok →
    let b := a.clear x k n
    let told (k : AlarmKind) (n : Nat) (q : List Notice) : List Notice :=
      if x.cfg.noticeOrigin = 0#16 then q
      else enqueueNotice ⟨x.cfg.noticeOrigin, .alarm k, n, severityOf k, .cleared, x.seconds, false⟩ q
    ((∀ e ∈ a.entries, ¬ (e.kind = k ∧ e.subject = n)) → b = a) ∧
    (∀ e ∈ a.entries, e.kind = k → e.subject = n →
      (e.state = .clearedUnack → b = a) ∧
      (e.state = .raised → latchedKind k = true →
        b.entries = a.entries.map (fun f => if f = e then { e with state := .clearedUnack } else f) ∧
        b.full = a.full ∧ b.notices = told k n a.notices) ∧
      (e.state = .acknowledged ∨ (e.state = .raised ∧ latchedKind k = false) →
        b.entries = a.entries.filter (fun f => f != e) ∧ b.full = none ∧
        b.notices = (if a.full = none then told k n a.notices else told .alarmTableFull 0 (told k n a.notices)))) ∧
    b.dip = a.dip) ∧
  (∀ (x : Ctx) (k : NoticeKind) (n : Nat) (a : Alm),
    a.notifyEvent x k n = (if x.cfg.noticeOrigin = 0#16 then a
      else { a with notices :=
        enqueueNotice ⟨x.cfg.noticeOrigin, k, n, .minor, .event, x.seconds, false⟩ a.notices })) ∧
  ∀ (m : Notice) (q : List Notice),
    (q.length < 32 → enqueueNotice m q = q ++ [m]) ∧
    (32 ≤ q.length →
      (∀ (u v : List Notice) (l : Notice), q = u ++ l :: v → l.severity.code < m.severity.code →
        (∀ o ∈ v, m.severity.code ≤ o.severity.code) → enqueueNotice m q = u ++ v ++ [{ m with overflow := true }]) ∧
      ∀ (u : List Notice) (l : Notice), q = u ++ [l] → (∀ o ∈ q, m.severity.code ≤ o.severity.code) →
        enqueueNotice m q = u ++ [{ l with overflow := true }])

/-- R159, R160, R163: Acknowledge in its two forms: a Raised entry becomes Acknowledged and its pulse timer stops, a
Cleared-Unacknowledged one is removed; while the dip flag is set Supply Dip is left alone (log entry 31). The end of a
pulse timer stops it and changes nothing else; without a running one nothing changes (log entry 1). -/
def Obligations.AcknowledgeAndPulseEnd : Prop :=
  let acked (e : AlarmEntry) : Option AlarmEntry :=
    match e.state with
    | .raised => some ⟨e.kind, e.subject, .acknowledged, e.raiseSec, none⟩
    | .acknowledged => some e
    | .clearedUnack => none
  let onAlm (s : State) (only : AlarmEntry → Prop) [DecidablePred only] : State :=
    let a := s.chassis.alm
    let b : Alm :=
      { a with
        entries := a.entries.filterMap (fun e => if only e then acked e else some e)
        full := a.full.bind (fun e => if only e then acked e else some e) }
    { s with chassis := { s.chassis with alm := b.freed s.ctx } }
  (∀ (s : State) (pr : Proc), s.Serves pr .acknowledge readAck .all →
    LeavesAlarms .acknowledge s (State.answer ⟨.done, []⟩
      (onAlm s (fun e => ¬ (s.chassis.alm.dip = true ∧ e.kind = .supplyDip ∧ e.subject = 0))))) ∧
  (∀ (s : State) (pr : Proc) (k n : Nat), s.Serves pr .acknowledge readAck (.key k n) →
    (AlarmKind.ofCode? k = none → LeavesAlarms .acknowledge s (s.answer ⟨.refusedRange, []⟩)) ∧
    ∀ kind, AlarmKind.ofCode? k = some kind →
      let stands := ∃ e, (e ∈ s.chassis.alm.entries ∨ s.chassis.alm.full = some e) ∧ e.kind = kind ∧ e.subject = n
      let shielded := kind = .supplyDip ∧ s.chassis.alm.dip = true
      (subjectOk kind n = false → LeavesAlarms .acknowledge s (s.answer ⟨.refusedRange, []⟩)) ∧
      (subjectOk kind n = true → shielded → LeavesAlarms .acknowledge s (s.answer ⟨.refusedState, []⟩)) ∧
      (subjectOk kind n = true → ¬ shielded → ¬ stands → LeavesAlarms .acknowledge s (s.answer ⟨.refusedUnknown, []⟩)) ∧
      (subjectOk kind n = true → ¬ shielded → stands →
        LeavesAlarms .acknowledge s
          (State.answer ⟨.done, []⟩ (onAlm s (fun e => e.kind = kind ∧ e.subject = n))))) ∧
  ∀ (s : State) (k : AlarmKind) (n : Nat), s.Runs → s.chassis.alm.Ok →
    let a := s.chassis.alm
    let stop (e : AlarmEntry) : AlarmEntry := if e.kind = k ∧ e.subject = n then { e with pulse := none } else e
    (∀ e due, e ∈ a.entries ∨ (a.full = some e ∧ ∀ f ∈ a.entries, ¬ (f.kind = k ∧ f.subject = n)) →
      e.kind = k → e.subject = n → e.pulse = some due →
      LeavesAlarms (.pulseTimerExpiry k n) s
        { s with
          clockMs := max s.clockMs due
          chassis := { s.chassis with alm := { a with entries := a.entries.map stop, full := a.full.map stop } } }) ∧
    ((∀ e, e ∈ a.entries ∨ a.full = some e → e.kind = k → e.subject = n → e.pulse = none) →
      LeavesAlarms (.pulseTimerExpiry k n) s s)

/-! ## The configuration store -/

/-- R187, R189, R191: Save marks the Settings section and the Restart command asks for its Restart, both answered
Started; at a write's completion the section holds the captured contents, Store Fault is cleared for it and the
writer goes on, while the RESET line is held as well (log entry 14); without a write nothing completes (log entry 1).
The next write starts at once with the first marked section in the order Licences, Zones, Settings, its mark cleared
and its contents captured, or the writer is Held while the dip flag is set. A mark set while a section is being written
stays for the next write. A Restart that acts in the event of the command acts before a write starts (log entry 41). -/
def Obligations.SaveRestartAndWriteCompletion : Prop :=
  (∀ (s : State) (pr : Proc), s.Serves pr .save readUnit () →
    Leaves .save s
      (State.answer ⟨.started, []⟩ { s with store := { s.store with settingsDirty := true } })) ∧
  (∀ (s : State) (pr : Proc), s.Serves pr .restart readUnit () →
    Leaves .restart s
      (State.answer ⟨.started, []⟩ { s with link := { s.link with proc := some { pr with restart := true } } })) ∧
  ∀ s : State, s.store.monitor ≠ .lost →
    (∀ c, s.store.writer = .writing (.settings c) → Leaves .writeCompletion s
      (State.clear .storeFault 0 { s with store := { s.store with settings := some c, writer := .idle } })) ∧
    (∀ z, s.store.writer = .writing (.zones z) → Leaves .writeCompletion s
      (State.clear .storeFault 1 { s with store := { s.store with zones := some z, writer := .idle } })) ∧
    (∀ l, s.store.writer = .writing (.licences l) → Leaves .writeCompletion s
      (State.clear .storeFault 2 { s with store := { s.store with licences := some l, writer := .idle } })) ∧
    ((∀ i, s.store.writer ≠ .writing i) → Leaves .writeCompletion s s) ∧
    (∀ i, s.store.writer = .writing i →
      let dip := s.chassis.alm.dip
      let l := s.chassis.licencesDirty
      let z := s.store.zonesDirty
      let c := s.store.settingsDirty
      ∃ t, exec .writeCompletion s = .next t ∧
        let marks (l z c : Bool) : Prop :=
          t.chassis.licencesDirty = l ∧ t.store.zonesDirty = z ∧ t.store.settingsDirty = c
        (dip = true → t.store.writer = (if l || z || c then .held else .idle) ∧ marks l z c) ∧
        (dip = false → l = true → t.store.writer = .writing (.licences ⟨s.chassis.licences.map Licence.record,
          s.chassis.grace⟩) ∧ marks false z c) ∧
        (dip = false → l = false → z = true →
          t.store.writer = .writing (.zones ⟨s.zone.active, s.zone.generation⟩) ∧ marks l false c) ∧
        (dip = false → l = false → z = false → c = true →
          t.store.writer = .writing (.settings s.cfg) ∧ marks l z false) ∧
        (dip = false → l = false → z = false → c = false → t.store.writer = .idle ∧ marks l z c)) ∧
    (∀ pr, s.Serves pr .save readUnit () → pr.live = true →
      ∃ t, exec .save s = .next t ∧
        (∀ i, s.store.writer = .writing i → t.store.writer = .writing i ∧ t.store.settingsDirty = true) ∧
        (s.store.writer = .idle → s.marked = false →
          (s.chassis.alm.dip = false → t.store.writer = .writing (.settings s.cfg) ∧ t.store.settingsDirty = false) ∧
          (s.chassis.alm.dip = true → t.store.writer = .held ∧ t.store.settingsDirty = true))) ∧
    ∀ due i, s.Runs → s.zone.commit = .validating due → s.zone.edit.Full → s.store.writer = .writing i →
      ∃ t, exec .validationEnd s = .next t ∧ t.store.writer = .writing i ∧ t.store.zonesDirty = true

/-- R190: the standby monitor: a fall below the warning level enters Low after 1 ms, which raises Supply Dip, sets the
dip flag and the retention marker (R191); the return to Normal clears them, and a return within the 1 ms changes
nothing; entry to Lost cuts a write off and leaves every output undriven. All go on while the RESET line is held. A fall
outside Normal, and the end of a qualification that does not run, change nothing (log entry 1). -/
def Obligations.StandbyMonitorFollowsRail : Prop :=
  ∀ s : State, s.store.monitor ≠ .lost →
    let x := s.ctx
    let st := s.store
    (st.monitor = .normal → st.railLow = none →
      Leaves .railBelowWarning s { s with store := { st with railLow := some (s.clockMs + 1) } }) ∧
    (st.monitor ≠ .normal ∨ st.railLow.isSome = true → Leaves .railBelowWarning s s) ∧
    (∀ due, st.railLow = some due →
      let now := if s.resetHeld then s.clockMs else max s.clockMs due
      Leaves .standbyLowEntry s
        { s with
          clockMs := now
          store := { st with monitor := .low, railLow := none, marker := true }
          chassis := { s.chassis with
            alm := { s.chassis.alm.raise { x with clockMs := now } .supplyDip 0 with dip := true } } }) ∧
    (st.railLow = none → Leaves .standbyLowEntry s s) ∧
    (st.monitor = .low → Leaves .standbyReturnNormal s
      { s with
        store := { st with monitor := .normal, marker := false }
        chassis := { s.chassis with alm := { s.chassis.alm.clear x .supplyDip 0 with dip := false } } }) ∧
    (st.monitor = .normal → Leaves .standbyReturnNormal s { s with store := { st with railLow := none } }) ∧
    ∃ t, exec .standbyLost s = .next t ∧
      t.lines = ⟨false, false, false, Vector.replicate 8 none⟩ ∧ t.store.monitor = .lost ∧
      t.store.marker = st.marker ∧ t.store.writer = .idle ∧
      t.store.settings = (match st.writer with | .writing (.settings _) => none | _ => st.settings) ∧
      t.store.zones = (match st.writer with | .writing (.zones _) => none | _ => st.zones) ∧
      t.store.licences = (match st.writer with | .writing (.licences _) => none | _ => st.licences) ∧
      t.trayPresent = s.trayPresent ∧ t.resetHeld = s.resetHeld

/-! ## Invariants -/

/-- What stands between events (R90, R129, R163, R176, R187, R192): the arbiter has nothing to start, the writer
nothing to serve, Grace Running, the start-up flag and the lines agree with the state. -/
def Obligations.EveryStepLeavesPartAtRest : Prop :=
  ∀ s t : State, s.AtRest → step s = .next t → t.AtRest

/-- R26, R155, R157, R165, R29, R34, R71, R175: the login table, the alarm table, the notice queue, the answer list,
the credits and the counters stay within their bounds; R16, R26, R177: with the table of the nine states and those bounds,
logins belong to ports in ONLINE or DRAINING, a draining port has one, and no port is twice in the slots. -/
def Obligations.EveryStepKeepsTableBounds : Prop :=
  (∀ s t : State, s.chassis.LoginsOk → step s = .next t → t.chassis.LoginsOk) ∧
  (∀ s t : State, s.chassis.alm.Ok → step s = .next t → t.chassis.alm.Ok) ∧
  (∀ s t : State, s.CreditsOk → step s = .next t → t.CreditsOk) ∧
  (∀ s t : State, s.CountersOk → step s = .next t → t.CountersOk) ∧
  ∀ s t : State, s.PortsOk → s.chassis.LoginsOk → s.chassis.TrafficOk → step s = .next t → t.chassis.TrafficOk

/-- R48 to R53, R65, R78, R79, R125, R128: the zone sets, the edit claim, the licence table and the fan duty stay
within their bounds. -/
def Obligations.EveryStepKeepsConfigurationBounds : Prop :=
  (∀ s t : State, s.ZonesOk → step s = .next t → t.ZonesOk) ∧
  (∀ s t : State, s.ClaimOk → step s = .next t → t.ClaimOk) ∧
  (∀ s t : State, s.LicencesOk → step s = .next t → t.LicencesOk) ∧
  ∀ s t : State, s.DutyOk → step s = .next t → t.DutyOk

/-- R1 to R6, R86, R140, R147: the table of the nine port states: each port holds seat, ceilings, grant and places on
the wait lists as its state says, and no grant above its effective ceiling. R79: with it, the bound seat lists and the
ports' bindings agree. R143, R144: no grant while supply is not settled, and a demand above the budget only while every
grant is Protected. -/
def Obligations.EveryStepKeepsPortTable : Prop :=
  (∀ s t : State, s.PortsOk → step s = .next t → t.PortsOk) ∧
  (∀ s t : State, s.PortsOk → s.chassis.LicencesOk → s.chassis.BindingsOk → step s = .next t → t.chassis.BindingsOk) ∧
  ∀ s t : State, s.DemandOk → step s = .next t → t.DemandOk

/-- The state after reset meets the invariants. -/
def Obligations.ResetMeetsInvariants : Prop :=
  State.reset.AtRest ∧ State.reset.chassis.LoginsOk ∧ State.reset.chassis.alm.Ok ∧ State.reset.CreditsOk ∧
    State.reset.CountersOk ∧ State.reset.ZonesOk ∧ State.reset.ClaimOk ∧ State.reset.LicencesOk ∧
    State.reset.DutyOk ∧ State.reset.PortsOk ∧ State.reset.chassis.TrafficOk ∧ State.reset.chassis.BindingsOk ∧
    State.reset.DemandOk

end
end

