-- ==== Sys2Proof/Laws/Event.lean ====
section
/-! SUPPORT. What the end of an event can do, said once. -/

namespace Sys2Proof.Machine

/-! ## The alarm unit -/

@[simp] theorem Alm.notify_entries (x : Ctx) (k : NoticeKind) (n : Nat) (v : Severity) (t : Transition) (a : Alm) :
    (a.notify x k n v t).entries = a.entries := by
  unfold Alm.notify; split <;> rfl

@[simp] theorem Alm.notify_dip (x : Ctx) (k : NoticeKind) (n : Nat) (v : Severity) (t : Transition) (a : Alm) :
    (a.notify x k n v t).dip = a.dip := by
  unfold Alm.notify; split <;> rfl

@[simp] theorem Alm.notify_full (x : Ctx) (k : NoticeKind) (n : Nat) (v : Severity) (t : Transition) (a : Alm) :
    (a.notify x k n v t).full = a.full := by
  unfold Alm.notify; split <;> rfl

@[simp] theorem Alm.notifyAlarm_entries (x : Ctx) (k : AlarmKind) (n : Nat) (t : Transition) (a : Alm) :
    (a.notifyAlarm x k n t).entries = a.entries := by simp [Alm.notifyAlarm]

@[simp] theorem Alm.notifyAlarm_dip (x : Ctx) (k : AlarmKind) (n : Nat) (t : Transition) (a : Alm) :
    (a.notifyAlarm x k n t).dip = a.dip := by simp [Alm.notifyAlarm]

@[simp] theorem Alm.notifyAlarm_full (x : Ctx) (k : AlarmKind) (n : Nat) (t : Transition) (a : Alm) :
    (a.notifyAlarm x k n t).full = a.full := by simp [Alm.notifyAlarm]

@[simp] theorem Alm.notifyEvent_entries (x : Ctx) (k : NoticeKind) (n : Nat) (a : Alm) :
    (a.notifyEvent x k n).entries = a.entries := by simp [Alm.notifyEvent]

@[simp] theorem Alm.notifyEvent_dip (x : Ctx) (k : NoticeKind) (n : Nat) (a : Alm) :
    (a.notifyEvent x k n).dip = a.dip := by simp [Alm.notifyEvent]

@[simp] theorem Alm.freed_entries (x : Ctx) (a : Alm) : (a.freed x).entries = a.entries := by
  unfold Alm.freed; split <;> simp

@[simp] theorem Alm.freed_dip (x : Ctx) (a : Alm) : (a.freed x).dip = a.dip := by
  unfold Alm.freed; split <;> simp

@[simp] theorem Alm.raise_dip (x : Ctx) (k : AlarmKind) (n : Nat) (a : Alm) : (a.raise x k n).dip = a.dip := by
  unfold Alm.raise; split
  · rfl
  · split
    · simp
    · split <;> simp

@[simp] theorem Alm.clear_dip (x : Ctx) (k : AlarmKind) (n : Nat) (a : Alm) : (a.clear x k n).dip = a.dip := by
  unfold Alm.clear; split
  · rfl
  · split
    · rfl
    · split <;> simp [Alm.setState, Alm.remove]
    · simp [Alm.remove]

@[simp] theorem Alm.judge_dip (x : Ctx) (k : AlarmKind) (n : Nat) (b c : Bool) (a : Alm) :
    (a.judge x k n b c).dip = a.dip := by
  unfold Alm.judge; split <;> simp

/-- A new entry stands under its key. -/
theorem AlarmEntry.new_hasKey (x : Ctx) (k : AlarmKind) (n : Nat) : (AlarmEntry.new x k n).hasKey k n = true := by
  simp [AlarmEntry.new, AlarmEntry.hasKey]

/-- R156: a raise leaves every other key's entries as they are. -/
theorem Alm.raise_others (x : Ctx) (k : AlarmKind) (n : Nat) (a : Alm) :
    (a.raise x k n).entries.filter (fun e => !e.hasKey k n) = a.entries.filter (fun e => !e.hasKey k n) := by
  unfold Alm.raise; split
  · rfl
  · split
    · simp [List.filter_append, AlarmEntry.new_hasKey]
    · split <;> simp

/-- R158: a clear leaves every other key's entries as they are. -/
theorem Alm.clear_others (x : Ctx) (k : AlarmKind) (n : Nat) (a : Alm) :
    (a.clear x k n).entries.filter (fun e => !e.hasKey k n) = a.entries.filter (fun e => !e.hasKey k n) := by
  have hset : ∀ st, (a.setState k n st).entries.filter (fun e => !e.hasKey k n)
      = a.entries.filter (fun e => !e.hasKey k n) := by
    intro st
    simp only [Alm.setState]
    induction a.entries with
    | nil => rfl
    | cons e es ih =>
      by_cases h : e.hasKey k n
      · have h' : AlarmEntry.hasKey k n { e with state := st } = true := h
        simp [h, h', ih]
      · simp [h, ih]
  have hrem : (a.remove k n).entries.filter (fun e => !e.hasKey k n) = a.entries.filter (fun e => !e.hasKey k n) := by
    simp [Alm.remove, List.filter_filter]
  unfold Alm.clear; split
  · rfl
  · split
    · rfl
    · split
      · simpa using hset _
      · simpa using hrem
    · simpa using hrem

/-- A judgement leaves every other key's entries as they are. -/
theorem Alm.judge_others (x : Ctx) (k : AlarmKind) (n : Nat) (b c : Bool) (a : Alm) :
    (a.judge x k n b c).entries.filter (fun e => !e.hasKey k n) = a.entries.filter (fun e => !e.hasKey k n) := by
  unfold Alm.judge; split
  · exact Alm.raise_others ..
  · exact Alm.clear_others ..
  · rfl

/-! ## The end of an event leaves the blocks alone -/

theorem State.judgeGrace_blocks (s : State) : (s.onChassis Chassis.judgeGrace).blocks = s.blocks := by
  simp [State.blocks, State.onChassis, Chassis.judgeGrace, Alm.judge_others]

theorem State.endStartUp_blocks (s : State) : s.endStartUp.blocks = s.blocks := by
  unfold State.endStartUp; split
  · simp [State.blocks, State.notifyEvent, State.onChassis]
  · rfl

theorem State.beginWrite_blocks (s : State) (hw : ∀ i, s.store.writer ≠ .writing i) (hm : s.marked = true) :
    s.beginWrite.blocks = s.blocks := by
  have hn : ∀ m c, owed m c s.store.writer = m := by
    intro m c
    cases h : s.store.writer with
    | idle => simp [owed]
    | held => simp [owed]
    | writing i => exact absurd h (hw i)
  unfold State.beginWrite; split
  · rename_i h
    simp [State.blocks, hn, h]
    simp [owed, SectionImage.code]
  · rename_i h
    split
    · rename_i h2
      simp [State.blocks, hn, h, h2]
      simp [owed, SectionImage.code]
    · rename_i h2
      have h3 : s.store.settingsDirty = true := by simpa [State.marked, h, h2] using hm
      simp [State.blocks, hn, h, h2, h3]
      simp [owed, SectionImage.code]

theorem State.runWriter_blocks (s : State) : s.runWriter.blocks = s.blocks := by
  unfold State.runWriter
  cases hw : s.store.writer with
  | writing i => rfl
  | idle =>
    dsimp only
    split
    · rename_i hm
      split
      · simp [State.blocks, owed, hw]
      · exact State.beginWrite_blocks s (by simp [hw]) hm
    · rfl
  | held =>
    dsimp only
    split
    · rfl
    · split
      · rename_i hm
        exact State.beginWrite_blocks s (by simp [hw]) hm
      · simp [State.blocks, owed, hw]

theorem State.takeItem_blocks (s : State) (h : s.link.frame = none) : s.takeItem.blocks = s.blocks := by
  unfold State.takeItem
  split
  · rename_i v rest hv
    simp [State.blocks, State.startFrame, Link.unsentVerdicts, Link.verdictLine, Machine.controlLine,
      Link.responseLine, h, hv, VerdictItem.isVerdict, VerdictItem.frame, OutFrame.verdictSide,
      OutFrame.controlSide, OutFrame.responseSide, List.filter_cons]
    omega
  · rename_i g rest hv
    simp [State.blocks, State.startFrame, Link.unsentVerdicts, Link.verdictLine, Machine.controlLine,
      Link.responseLine, h, hv, VerdictItem.isVerdict, VerdictItem.frame, OutFrame.verdictSide,
      OutFrame.controlSide, OutFrame.responseSide, List.filter_cons]
  · rename_i hv
    split
    · rename_i ha
      simp [State.blocks, State.startFrame, Link.unsentVerdicts, Link.verdictLine, Machine.controlLine,
        Link.responseLine, h, hv, ha, Answer.frame, OutFrame.verdictSide, OutFrame.controlSide,
        OutFrame.responseSide, List.filter_cons]
    · rename_i ha
      simp [State.blocks, State.startFrame, Link.unsentVerdicts, Link.verdictLine, Machine.controlLine,
        Link.responseLine, h, hv, ha, Answer.frame, OutFrame.verdictSide, OutFrame.controlSide,
        OutFrame.responseSide, List.filter_cons]
    · rename_i ha
      split
      · rename_i hs
        simp [State.blocks, State.startFrame, Link.unsentVerdicts, Link.verdictLine, Machine.controlLine,
          Link.responseLine, h, hv, ha, hs, OutFrame.verdictSide, OutFrame.controlSide, OutFrame.responseSide,
          List.filter_cons]
      · rename_i hs
        split
        · rename_i r rest hr
          have e : s.link.requestCredits + 1 + rest.length = s.link.requestCredits + (r :: rest).length := by
            simp; omega
          simp [State.blocks, State.startFrame, Link.unsentVerdicts, Link.verdictLine, Machine.controlLine,
            Link.responseLine, h, hv, ha, hs, hr, OutFrame.verdictSide, OutFrame.controlSide,
            OutFrame.responseSide, List.filter_cons, -List.length_cons, e]
        · rename_i hr
          split
          · rename_i ho
            simp [State.blocks, State.startFrame, Link.unsentVerdicts, Link.verdictLine, Machine.controlLine,
              Link.responseLine, h, hv, ha, hs, hr, ho, OutFrame.verdictSide, OutFrame.controlSide,
              OutFrame.responseSide, List.filter_cons]
          · split
            · simp [State.blocks, State.startFrame, Link.unsentVerdicts, Link.verdictLine, Machine.controlLine,
                Link.responseLine, h, OutFrame.verdictSide, OutFrame.controlSide, OutFrame.responseSide]
            · rfl

theorem State.arbitrate_blocks (s : State) : s.arbitrate.blocks = s.blocks := by
  unfold State.arbitrate; split
  · rename_i h
    exact State.takeItem_blocks s h.2.2
  · rfl

/-- What the end of an event leaves alone. -/
theorem State.settle_blocks (s : State) : s.settle.blocks = s.blocks := by
  have hd : ∀ u : State, u.driveLines.blocks = u.blocks := fun _ => rfl
  unfold State.settle
  rw [hd, State.arbitrate_blocks, State.runWriter_blocks, State.endStartUp_blocks, State.judgeGrace_blocks]

/-- An event that the part takes leaves the blocks of what it does. -/
theorem State.event_blocks (f : State → State) (s : State) (h : s.Runs) :
    ∃ t, s.event f = .next t ∧ t.blocks = (f s).blocks := by
  have hn : ¬ (s.store.monitor = .lost ∨ s.resetHeld = true) := by
    rintro (h1 | h1)
    · exact h.1 h1
    · simp [h.2] at h1
  exact ⟨(f s).settle, by simp [State.event, hn], State.settle_blocks _⟩

/-! ## The end of an event leaves agreeing alarms alone -/

/-- What an alarm statement sees: the entries, the reserved place, and the notices being sent or waiting. -/
def State.alarmView (s : State) : List AlarmEntry × Option AlarmEntry × List Notice :=
  (s.chassis.alm.entries, s.chassis.alm.full, s.noticeLine)

theorem State.judgeGrace_of_agrees {s : State} (h : s.GraceAgrees) : s.onChassis Chassis.judgeGrace = s := by
  have hs : s.chassis.ports.toList.any (fun r => r.binding.isGrace) = s.chassis.graceRunning := by
    rw [Bool.eq_iff_iff, List.any_eq_true]
    refine Iff.trans ?_ (Iff.symm h)
    constructor
    · rintro ⟨r, hr, hg⟩
      obtain ⟨i, hi, rfl⟩ := List.mem_iff_getElem.1 hr
      exact ⟨⟨i, by simpa using hi⟩, by simpa [Chassis.port] using hg⟩
    · rintro ⟨q, hg⟩
      exact ⟨s.chassis.port q, by simp [Chassis.port], hg⟩
  have hj : Chassis.judgeGrace s.ctx s.chassis = s.chassis := by
    unfold Chassis.judgeGrace
    simp only [hs]
    cases hg : s.chassis.graceRunning <;> simp [Alm.judge, ← hg]
  simp [State.onChassis, hj]

theorem State.endStartUp_of_agrees {s : State} (h : s.StartUpAgrees) : s.endStartUp = s := by
  unfold State.endStartUp
  split
  · rename_i hc
    simp only [Bool.and_eq_true] at hc
    exact absurd hc.1.1 (by simp [h hc.1.2 hc.2])
  · rfl

theorem State.runWriter_alarms (s : State) : s.runWriter.alarmView = s.alarmView := by
  unfold State.runWriter State.beginWrite
  split
  · rfl
  · split
    · split
      · rfl
      · split
        · rfl
        · split <;> rfl
    · rfl
  · split
    · rfl
    · split
      · split
        · rfl
        · split <;> rfl
      · rfl

theorem State.takeItem_alarms (s : State) (h : s.link.frame = none) : s.takeItem.alarmView = s.alarmView := by
  unfold State.takeItem
  repeat' split
  all_goals simp_all [State.alarmView, State.noticeLine, State.startFrame, OutFrame.notice?]

theorem State.arbitrate_alarms (s : State) : s.arbitrate.alarmView = s.alarmView := by
  unfold State.arbitrate; split
  · rename_i h
    exact State.takeItem_alarms s h.2.2
  · rfl

/-- Where Grace Running and the start-up flag agree, the end of an event leaves alarms and notices alone. -/
theorem State.settle_alarms {s : State} (h : s.EndAgrees) : s.settle.alarmView = s.alarmView := by
  have hd : ∀ u : State, u.driveLines.alarmView = u.alarmView := fun _ => rfl
  unfold State.settle
  rw [hd, State.arbitrate_alarms, State.runWriter_alarms, State.judgeGrace_of_agrees h.1, State.endStartUp_of_agrees h.2]

/-! ## The relay lines -/

/-- R163: an entry drives its line as the rule says. -/
theorem AlarmEntry.drives_iff (relays : Vector RelayCfg 20) (e : AlarmEntry) :
    e.drives relays = true ↔ e.Drives relays := by
  unfold AlarmEntry.drives AlarmEntry.Drives
  cases h : relays[e.kind.code.val].mode <;> cases e.pulse <;> simp [h]

/-- R163: a line is driven where an entry of its severity drives it. -/
theorem Alm.lineDriven_iff (relays : Vector RelayCfg 20) (sev : Severity) (a : Alm) :
    a.lineDriven relays sev = true ↔ a.Driven relays sev := by
  simp only [Alm.lineDriven, Alm.Driven, List.any_eq_true, Bool.and_eq_true, beq_iff_eq, AlarmEntry.drives_iff]

end Sys2Proof.Machine
end

