-- ==== Sys2Proof/Laws/Command.lean ====
section
/-! SUPPORT. What an event, an inbound frame and a management command leave, said once. -/

namespace Sys2Proof.Machine

/-- A command whose meaning is an event leaves the blocks of what the event does. -/
theorem leaves_of_event {c : Instr} {f : State → State} {s s' : State} (h : s.Runs) (hc : exec c s = s.event f)
    (hf : (f s).blocks = s'.blocks) : Leaves c s s' := by
  obtain ⟨t, ht, hb⟩ := State.event_blocks f s h
  exact ⟨t, hc.trans ht, hb.trans hf⟩

/-- An event of the standby monitor or the writer leaves the blocks of what it does, in a hold as well. -/
theorem leaves_of_eventInHold {c : Instr} {f : State → State} {s s' : State} (h : s.store.monitor ≠ .lost)
    (hc : exec c s = s.eventInHold f) (hf : (f s).blocks = s'.blocks) : Leaves c s s' :=
  ⟨(f s).settle, by simp [hc, State.eventInHold, h], (State.settle_blocks _).trans hf⟩

/-- An event that leaves Grace Running and the start-up flag in agreement leaves the alarms and the notices of what it
does as well. -/
theorem leavesAlarms_of_event {c : Instr} {f : State → State} {s s' : State} (h : s.Runs) (hc : exec c s = s.event f)
    (hf : (f s).blocks = s'.blocks) (he : s.EndAgrees → (f s).EndAgrees)
    (ha : s.EndAgrees → (f s).alarmView = s'.alarmView) : LeavesAlarms c s s' := by
  have hn : ¬ (s.store.monitor = .lost ∨ s.resetHeld = true) := by
    rintro (h1 | h1)
    · exact h.1 h1
    · simp [h.2] at h1
  refine ⟨(f s).settle, by simp [hc, State.event, hn], (State.settle_blocks _).trans hf, fun hg => ?_⟩
  have hv := (State.settle_alarms (he hg)).trans (ha hg)
  simp only [State.alarmView, Prod.mk.injEq] at hv
  exact hv

/-- R170, R173: an inbound frame is taken while the link is UP and its fields are in range. -/
theorem State.frameIn_up {ok : Bool} {f : State → State} {s : State} (h : s.link.state = .up) (hok : ok = true) :
    s.frameIn ok f = f s := by simp [State.frameIn, h, hok]

/-- R170, R173: any other inbound frame changes nothing. -/
theorem State.frameIn_not {ok : Bool} {f : State → State} {s : State} (h : s.link.state ≠ .up ∨ ok = false) :
    s.frameIn ok f = s := by
  unfold State.frameIn
  rcases h with h | h <;> simp [h]

/-- The code of a command names it. -/
@[simp] theorem Cmd.ofCode?_code (cmd : Cmd) : Cmd.ofCode? cmd.code = some cmd := by cases cmd <;> rfl

/-- A code names a command exactly where it is that command's code. -/
theorem Cmd.ofCode?_eq_some {b : Byte} {cmd : Cmd} : Cmd.ofCode? b = some cmd ↔ b = cmd.code := by
  constructor
  · intro h
    unfold Cmd.ofCode? at h
    split at h <;> first
      | (cases h; apply BitVec.eq_of_toNat_eq; rename_i hb; rw [hb]; rfl)
      | cases h
  · rintro rfl; exact Cmd.ofCode?_code cmd

/-- R179: where the three checks pass the command is handed to its block. -/
theorem State.Serves.check {α : Type} {s : State} {pr : Proc} {cmd : Cmd} {read : List Byte → Option α} {a : α}
    (h : s.Serves pr cmd read a) : s.check cmd read = .go pr a := by
  obtain ⟨params, ⟨-, hp, hh, hl⟩, hr, hk⟩ := h
  obtain ⟨e, es, he⟩ : ∃ e es, pr.left = e :: es := by
    cases hpl : pr.left with
    | nil => simp [hpl] at hl
    | cons e es => exact ⟨e, es, rfl⟩
  have hee : e = ⟨cmd.code, params⟩ := by simpa [he] using hl
  subst hee
  simp [State.check, hp, hh, he, hr, Nat.not_lt.mpr hk]

/-- R178, R179: a management command that is served does its block's part, and its result is recorded. -/
theorem State.Serves.command {α : Type} {s : State} {pr : Proc} {cmd : Cmd} {read : List Byte → Option α} {a : α}
    (h : s.Serves pr cmd read a) (act : Proc → α → State → State × Result) :
    State.command cmd read act s = (act pr a s).1.answer (act pr a s).2 := by
  simp [State.command, h.check]

/-- A part whose processor serves a command takes events. -/
theorem State.Serves.runs {α : Type} {s : State} {pr : Proc} {cmd : Cmd} {read : List Byte → Option α} {a : α}
    (h : s.Serves pr cmd read a) : s.Runs := h.choose_spec.1.1

/-- The processor's request, while a command is served. -/
theorem State.Serves.proc {α : Type} {s : State} {pr : Proc} {cmd : Cmd} {read : List Byte → Option α} {a : α}
    (h : s.Serves pr cmd read a) : s.link.proc = some pr := h.choose_spec.1.2.1

/-- A served command leaves the blocks of its effect with the result recorded. -/
theorem leaves_of_command {α : Type} {c : Instr} {s s' : State} {pr : Proc} {cmd : Cmd}
    {read : List Byte → Option α} {a : α} {act : Proc → α → State → State × Result}
    (hc : exec c s = s.event (State.command cmd read act)) (h : s.Serves pr cmd read a)
    (hs : (act pr a s).1.answer (act pr a s).2 = s') : Leaves c s s' :=
  leaves_of_event h.runs hc (by rw [h.command, hs])

/-- R178: while the list goes on the result is recorded and the processor is at the next command. -/
theorem State.answer_goesOn {s : State} {pr : Proc} {r : Result} (h : s.link.proc = some pr)
    (hr : r.status.goesOn = true) (hg : pr.goesOn) : s.answer r = s.recorded pr r := by
  have ht : pr.left.tail ≠ [] := by
    intro h0
    have : pr.left.tail.length = 0 := by simp [h0]
    simp [Proc.goesOn] at hg
    simp at this; omega
  simp [State.answer, State.recorded, h, hr, ht]

end Sys2Proof.Machine
end

