-- ==== Sys2Proof/Laws/State.lean ====
section
/-! SUPPORT. What each named update of the state leaves in each field. -/

namespace Sys2Proof.Machine

/-! ## `State.onChassis` -/

@[simp] theorem State.onChassis_cfg (s : State) (f : Ctx → Chassis → Chassis) : (s.onChassis f).cfg = s.cfg := rfl
@[simp] theorem State.onChassis_clockMs (s : State) (f : Ctx → Chassis → Chassis) : (s.onChassis f).clockMs = s.clockMs := rfl
@[simp] theorem State.onChassis_secondDueMs (s : State) (f : Ctx → Chassis → Chassis) : (s.onChassis f).secondDueMs = s.secondDueMs := rfl
@[simp] theorem State.onChassis_seconds (s : State) (f : Ctx → Chassis → Chassis) : (s.onChassis f).seconds = s.seconds := rfl
@[simp] theorem State.onChassis_hourSeconds (s : State) (f : Ctx → Chassis → Chassis) : (s.onChassis f).hourSeconds = s.hourSeconds := rfl
@[simp] theorem State.onChassis_chassis (s : State) (f : Ctx → Chassis → Chassis) : (s.onChassis f).chassis = f s.ctx s.chassis := rfl
@[simp] theorem State.onChassis_queries (s : State) (f : Ctx → Chassis → Chassis) : (s.onChassis f).queries = s.queries := rfl
@[simp] theorem State.onChassis_env (s : State) (f : Ctx → Chassis → Chassis) : (s.onChassis f).env = s.env := rfl
@[simp] theorem State.onChassis_fan (s : State) (f : Ctx → Chassis → Chassis) : (s.onChassis f).fan = s.fan := rfl
@[simp] theorem State.onChassis_zone (s : State) (f : Ctx → Chassis → Chassis) : (s.onChassis f).zone = s.zone := rfl
@[simp] theorem State.onChassis_link (s : State) (f : Ctx → Chassis → Chassis) : (s.onChassis f).link = s.link := rfl
@[simp] theorem State.onChassis_store (s : State) (f : Ctx → Chassis → Chassis) : (s.onChassis f).store = s.store := rfl
@[simp] theorem State.onChassis_trayPresent (s : State) (f : Ctx → Chassis → Chassis) : (s.onChassis f).trayPresent = s.trayPresent := rfl
@[simp] theorem State.onChassis_resetHeld (s : State) (f : Ctx → Chassis → Chassis) : (s.onChassis f).resetHeld = s.resetHeld := rfl
@[simp] theorem State.onChassis_lines (s : State) (f : Ctx → Chassis → Chassis) : (s.onChassis f).lines = s.lines := rfl
@[simp] theorem State.onChassis_pending (s : State) (f : Ctx → Chassis → Chassis) : (s.onChassis f).pending = s.pending := rfl

/-! ## `State.raise` -/

@[simp] theorem State.raise_cfg (s : State) (k : AlarmKind) (n : Nat) : (s.raise k n).cfg = s.cfg := rfl
@[simp] theorem State.raise_clockMs (s : State) (k : AlarmKind) (n : Nat) : (s.raise k n).clockMs = s.clockMs := rfl
@[simp] theorem State.raise_secondDueMs (s : State) (k : AlarmKind) (n : Nat) : (s.raise k n).secondDueMs = s.secondDueMs := rfl
@[simp] theorem State.raise_seconds (s : State) (k : AlarmKind) (n : Nat) : (s.raise k n).seconds = s.seconds := rfl
@[simp] theorem State.raise_hourSeconds (s : State) (k : AlarmKind) (n : Nat) : (s.raise k n).hourSeconds = s.hourSeconds := rfl
@[simp] theorem State.raise_chassis (s : State) (k : AlarmKind) (n : Nat) : (s.raise k n).chassis = s.chassis.raise s.ctx k n := rfl
@[simp] theorem State.raise_queries (s : State) (k : AlarmKind) (n : Nat) : (s.raise k n).queries = s.queries := rfl
@[simp] theorem State.raise_env (s : State) (k : AlarmKind) (n : Nat) : (s.raise k n).env = s.env := rfl
@[simp] theorem State.raise_fan (s : State) (k : AlarmKind) (n : Nat) : (s.raise k n).fan = s.fan := rfl
@[simp] theorem State.raise_zone (s : State) (k : AlarmKind) (n : Nat) : (s.raise k n).zone = s.zone := rfl
@[simp] theorem State.raise_link (s : State) (k : AlarmKind) (n : Nat) : (s.raise k n).link = s.link := rfl
@[simp] theorem State.raise_store (s : State) (k : AlarmKind) (n : Nat) : (s.raise k n).store = s.store := rfl
@[simp] theorem State.raise_trayPresent (s : State) (k : AlarmKind) (n : Nat) : (s.raise k n).trayPresent = s.trayPresent := rfl
@[simp] theorem State.raise_resetHeld (s : State) (k : AlarmKind) (n : Nat) : (s.raise k n).resetHeld = s.resetHeld := rfl
@[simp] theorem State.raise_lines (s : State) (k : AlarmKind) (n : Nat) : (s.raise k n).lines = s.lines := rfl
@[simp] theorem State.raise_pending (s : State) (k : AlarmKind) (n : Nat) : (s.raise k n).pending = s.pending := rfl

/-! ## `State.clear` -/

@[simp] theorem State.clear_cfg (s : State) (k : AlarmKind) (n : Nat) : (s.clear k n).cfg = s.cfg := rfl
@[simp] theorem State.clear_clockMs (s : State) (k : AlarmKind) (n : Nat) : (s.clear k n).clockMs = s.clockMs := rfl
@[simp] theorem State.clear_secondDueMs (s : State) (k : AlarmKind) (n : Nat) : (s.clear k n).secondDueMs = s.secondDueMs := rfl
@[simp] theorem State.clear_seconds (s : State) (k : AlarmKind) (n : Nat) : (s.clear k n).seconds = s.seconds := rfl
@[simp] theorem State.clear_hourSeconds (s : State) (k : AlarmKind) (n : Nat) : (s.clear k n).hourSeconds = s.hourSeconds := rfl
@[simp] theorem State.clear_chassis (s : State) (k : AlarmKind) (n : Nat) : (s.clear k n).chassis = s.chassis.clear s.ctx k n := rfl
@[simp] theorem State.clear_queries (s : State) (k : AlarmKind) (n : Nat) : (s.clear k n).queries = s.queries := rfl
@[simp] theorem State.clear_env (s : State) (k : AlarmKind) (n : Nat) : (s.clear k n).env = s.env := rfl
@[simp] theorem State.clear_fan (s : State) (k : AlarmKind) (n : Nat) : (s.clear k n).fan = s.fan := rfl
@[simp] theorem State.clear_zone (s : State) (k : AlarmKind) (n : Nat) : (s.clear k n).zone = s.zone := rfl
@[simp] theorem State.clear_link (s : State) (k : AlarmKind) (n : Nat) : (s.clear k n).link = s.link := rfl
@[simp] theorem State.clear_store (s : State) (k : AlarmKind) (n : Nat) : (s.clear k n).store = s.store := rfl
@[simp] theorem State.clear_trayPresent (s : State) (k : AlarmKind) (n : Nat) : (s.clear k n).trayPresent = s.trayPresent := rfl
@[simp] theorem State.clear_resetHeld (s : State) (k : AlarmKind) (n : Nat) : (s.clear k n).resetHeld = s.resetHeld := rfl
@[simp] theorem State.clear_lines (s : State) (k : AlarmKind) (n : Nat) : (s.clear k n).lines = s.lines := rfl
@[simp] theorem State.clear_pending (s : State) (k : AlarmKind) (n : Nat) : (s.clear k n).pending = s.pending := rfl

/-! ## `State.notifyEvent` -/

@[simp] theorem State.notifyEvent_cfg (s : State) (k : NoticeKind) (n : Nat) : (s.notifyEvent k n).cfg = s.cfg := rfl
@[simp] theorem State.notifyEvent_clockMs (s : State) (k : NoticeKind) (n : Nat) : (s.notifyEvent k n).clockMs = s.clockMs := rfl
@[simp] theorem State.notifyEvent_secondDueMs (s : State) (k : NoticeKind) (n : Nat) : (s.notifyEvent k n).secondDueMs = s.secondDueMs := rfl
@[simp] theorem State.notifyEvent_seconds (s : State) (k : NoticeKind) (n : Nat) : (s.notifyEvent k n).seconds = s.seconds := rfl
@[simp] theorem State.notifyEvent_hourSeconds (s : State) (k : NoticeKind) (n : Nat) : (s.notifyEvent k n).hourSeconds = s.hourSeconds := rfl
@[simp] theorem State.notifyEvent_chassis (s : State) (k : NoticeKind) (n : Nat) : (s.notifyEvent k n).chassis = { s.chassis with alm := s.chassis.alm.notifyEvent s.ctx k n } := rfl
@[simp] theorem State.notifyEvent_queries (s : State) (k : NoticeKind) (n : Nat) : (s.notifyEvent k n).queries = s.queries := rfl
@[simp] theorem State.notifyEvent_env (s : State) (k : NoticeKind) (n : Nat) : (s.notifyEvent k n).env = s.env := rfl
@[simp] theorem State.notifyEvent_fan (s : State) (k : NoticeKind) (n : Nat) : (s.notifyEvent k n).fan = s.fan := rfl
@[simp] theorem State.notifyEvent_zone (s : State) (k : NoticeKind) (n : Nat) : (s.notifyEvent k n).zone = s.zone := rfl
@[simp] theorem State.notifyEvent_link (s : State) (k : NoticeKind) (n : Nat) : (s.notifyEvent k n).link = s.link := rfl
@[simp] theorem State.notifyEvent_store (s : State) (k : NoticeKind) (n : Nat) : (s.notifyEvent k n).store = s.store := rfl
@[simp] theorem State.notifyEvent_trayPresent (s : State) (k : NoticeKind) (n : Nat) : (s.notifyEvent k n).trayPresent = s.trayPresent := rfl
@[simp] theorem State.notifyEvent_resetHeld (s : State) (k : NoticeKind) (n : Nat) : (s.notifyEvent k n).resetHeld = s.resetHeld := rfl
@[simp] theorem State.notifyEvent_lines (s : State) (k : NoticeKind) (n : Nat) : (s.notifyEvent k n).lines = s.lines := rfl
@[simp] theorem State.notifyEvent_pending (s : State) (k : NoticeKind) (n : Nat) : (s.notifyEvent k n).pending = s.pending := rfl

/-! ## `State.carry` -/

@[simp] theorem State.carry_cfg (s : State) (d : Nat) : (s.carry d).cfg = s.cfg := rfl
@[simp] theorem State.carry_clockMs (s : State) (d : Nat) : (s.carry d).clockMs = max s.clockMs d := rfl
@[simp] theorem State.carry_secondDueMs (s : State) (d : Nat) : (s.carry d).secondDueMs = s.secondDueMs := rfl
@[simp] theorem State.carry_seconds (s : State) (d : Nat) : (s.carry d).seconds = s.seconds := rfl
@[simp] theorem State.carry_hourSeconds (s : State) (d : Nat) : (s.carry d).hourSeconds = s.hourSeconds := rfl
@[simp] theorem State.carry_chassis (s : State) (d : Nat) : (s.carry d).chassis = s.chassis := rfl
@[simp] theorem State.carry_queries (s : State) (d : Nat) : (s.carry d).queries = s.queries := rfl
@[simp] theorem State.carry_env (s : State) (d : Nat) : (s.carry d).env = s.env := rfl
@[simp] theorem State.carry_fan (s : State) (d : Nat) : (s.carry d).fan = s.fan := rfl
@[simp] theorem State.carry_zone (s : State) (d : Nat) : (s.carry d).zone = s.zone := rfl
@[simp] theorem State.carry_link (s : State) (d : Nat) : (s.carry d).link = s.link := rfl
@[simp] theorem State.carry_store (s : State) (d : Nat) : (s.carry d).store = s.store := rfl
@[simp] theorem State.carry_trayPresent (s : State) (d : Nat) : (s.carry d).trayPresent = s.trayPresent := rfl
@[simp] theorem State.carry_resetHeld (s : State) (d : Nat) : (s.carry d).resetHeld = s.resetHeld := rfl
@[simp] theorem State.carry_lines (s : State) (d : Nat) : (s.carry d).lines = s.lines := rfl
@[simp] theorem State.carry_pending (s : State) (d : Nat) : (s.carry d).pending = s.pending := rfl

/-! ## `State.driveLines` -/

@[simp] theorem State.driveLines_cfg (s : State) : (s.driveLines).cfg = s.cfg := rfl
@[simp] theorem State.driveLines_clockMs (s : State) : (s.driveLines).clockMs = s.clockMs := rfl
@[simp] theorem State.driveLines_secondDueMs (s : State) : (s.driveLines).secondDueMs = s.secondDueMs := rfl
@[simp] theorem State.driveLines_seconds (s : State) : (s.driveLines).seconds = s.seconds := rfl
@[simp] theorem State.driveLines_hourSeconds (s : State) : (s.driveLines).hourSeconds = s.hourSeconds := rfl
@[simp] theorem State.driveLines_chassis (s : State) : (s.driveLines).chassis = s.chassis := rfl
@[simp] theorem State.driveLines_queries (s : State) : (s.driveLines).queries = s.queries := rfl
@[simp] theorem State.driveLines_env (s : State) : (s.driveLines).env = s.env := rfl
@[simp] theorem State.driveLines_fan (s : State) : (s.driveLines).fan = s.fan := rfl
@[simp] theorem State.driveLines_zone (s : State) : (s.driveLines).zone = s.zone := rfl
@[simp] theorem State.driveLines_link (s : State) : (s.driveLines).link = s.link := rfl
@[simp] theorem State.driveLines_store (s : State) : (s.driveLines).store = s.store := rfl
@[simp] theorem State.driveLines_trayPresent (s : State) : (s.driveLines).trayPresent = s.trayPresent := rfl
@[simp] theorem State.driveLines_resetHeld (s : State) : (s.driveLines).resetHeld = s.resetHeld := rfl
@[simp] theorem State.driveLines_lines (s : State) : (s.driveLines).lines = s.linesNow := rfl
@[simp] theorem State.driveLines_pending (s : State) : (s.driveLines).pending = s.pending := rfl

/-! ## `State.startFrame` -/

@[simp] theorem State.startFrame_cfg (s : State) (f : OutFrame) : (s.startFrame f).cfg = s.cfg := rfl
@[simp] theorem State.startFrame_clockMs (s : State) (f : OutFrame) : (s.startFrame f).clockMs = s.clockMs := rfl
@[simp] theorem State.startFrame_secondDueMs (s : State) (f : OutFrame) : (s.startFrame f).secondDueMs = s.secondDueMs := rfl
@[simp] theorem State.startFrame_seconds (s : State) (f : OutFrame) : (s.startFrame f).seconds = s.seconds := rfl
@[simp] theorem State.startFrame_hourSeconds (s : State) (f : OutFrame) : (s.startFrame f).hourSeconds = s.hourSeconds := rfl
@[simp] theorem State.startFrame_chassis (s : State) (f : OutFrame) : (s.startFrame f).chassis = s.chassis := rfl
@[simp] theorem State.startFrame_queries (s : State) (f : OutFrame) : (s.startFrame f).queries = s.queries := rfl
@[simp] theorem State.startFrame_env (s : State) (f : OutFrame) : (s.startFrame f).env = s.env := rfl
@[simp] theorem State.startFrame_fan (s : State) (f : OutFrame) : (s.startFrame f).fan = s.fan := rfl
@[simp] theorem State.startFrame_zone (s : State) (f : OutFrame) : (s.startFrame f).zone = s.zone := rfl
@[simp] theorem State.startFrame_link (s : State) (f : OutFrame) : (s.startFrame f).link = { s.link with frame := some f } := rfl
@[simp] theorem State.startFrame_store (s : State) (f : OutFrame) : (s.startFrame f).store = s.store := rfl
@[simp] theorem State.startFrame_trayPresent (s : State) (f : OutFrame) : (s.startFrame f).trayPresent = s.trayPresent := rfl
@[simp] theorem State.startFrame_resetHeld (s : State) (f : OutFrame) : (s.startFrame f).resetHeld = s.resetHeld := rfl
@[simp] theorem State.startFrame_lines (s : State) (f : OutFrame) : (s.startFrame f).lines = s.lines := rfl
@[simp] theorem State.startFrame_pending (s : State) (f : OutFrame) : (s.startFrame f).pending = s.pending := rfl

/-! ## `State.withPort` -/

@[simp] theorem State.withPort_cfg (s : State) (p : PortId) (r : PortRec) : (s.withPort p r).cfg = s.cfg := rfl
@[simp] theorem State.withPort_clockMs (s : State) (p : PortId) (r : PortRec) : (s.withPort p r).clockMs = s.clockMs := rfl
@[simp] theorem State.withPort_secondDueMs (s : State) (p : PortId) (r : PortRec) : (s.withPort p r).secondDueMs = s.secondDueMs := rfl
@[simp] theorem State.withPort_seconds (s : State) (p : PortId) (r : PortRec) : (s.withPort p r).seconds = s.seconds := rfl
@[simp] theorem State.withPort_hourSeconds (s : State) (p : PortId) (r : PortRec) : (s.withPort p r).hourSeconds = s.hourSeconds := rfl
@[simp] theorem State.withPort_chassis (s : State) (p : PortId) (r : PortRec) : (s.withPort p r).chassis = s.chassis.setPort p r := rfl
@[simp] theorem State.withPort_queries (s : State) (p : PortId) (r : PortRec) : (s.withPort p r).queries = s.queries := rfl
@[simp] theorem State.withPort_env (s : State) (p : PortId) (r : PortRec) : (s.withPort p r).env = s.env := rfl
@[simp] theorem State.withPort_fan (s : State) (p : PortId) (r : PortRec) : (s.withPort p r).fan = s.fan := rfl
@[simp] theorem State.withPort_zone (s : State) (p : PortId) (r : PortRec) : (s.withPort p r).zone = s.zone := rfl
@[simp] theorem State.withPort_link (s : State) (p : PortId) (r : PortRec) : (s.withPort p r).link = s.link := rfl
@[simp] theorem State.withPort_store (s : State) (p : PortId) (r : PortRec) : (s.withPort p r).store = s.store := rfl
@[simp] theorem State.withPort_trayPresent (s : State) (p : PortId) (r : PortRec) : (s.withPort p r).trayPresent = s.trayPresent := rfl
@[simp] theorem State.withPort_resetHeld (s : State) (p : PortId) (r : PortRec) : (s.withPort p r).resetHeld = s.resetHeld := rfl
@[simp] theorem State.withPort_lines (s : State) (p : PortId) (r : PortRec) : (s.withPort p r).lines = s.lines := rfl
@[simp] theorem State.withPort_pending (s : State) (p : PortId) (r : PortRec) : (s.withPort p r).pending = s.pending := rfl

/-! ## `State.setEnabled` -/

@[simp] theorem State.setEnabled_cfg (s : State) (p : PortId) (b : Bool) : (s.setEnabled p b).cfg = s.cfg.setPort p { s.cfg.port p with enabled := b } := rfl
@[simp] theorem State.setEnabled_clockMs (s : State) (p : PortId) (b : Bool) : (s.setEnabled p b).clockMs = s.clockMs := rfl
@[simp] theorem State.setEnabled_secondDueMs (s : State) (p : PortId) (b : Bool) : (s.setEnabled p b).secondDueMs = s.secondDueMs := rfl
@[simp] theorem State.setEnabled_seconds (s : State) (p : PortId) (b : Bool) : (s.setEnabled p b).seconds = s.seconds := rfl
@[simp] theorem State.setEnabled_hourSeconds (s : State) (p : PortId) (b : Bool) : (s.setEnabled p b).hourSeconds = s.hourSeconds := rfl
@[simp] theorem State.setEnabled_chassis (s : State) (p : PortId) (b : Bool) : (s.setEnabled p b).chassis = s.chassis := rfl
@[simp] theorem State.setEnabled_queries (s : State) (p : PortId) (b : Bool) : (s.setEnabled p b).queries = s.queries := rfl
@[simp] theorem State.setEnabled_env (s : State) (p : PortId) (b : Bool) : (s.setEnabled p b).env = s.env := rfl
@[simp] theorem State.setEnabled_fan (s : State) (p : PortId) (b : Bool) : (s.setEnabled p b).fan = s.fan := rfl
@[simp] theorem State.setEnabled_zone (s : State) (p : PortId) (b : Bool) : (s.setEnabled p b).zone = s.zone := rfl
@[simp] theorem State.setEnabled_link (s : State) (p : PortId) (b : Bool) : (s.setEnabled p b).link = s.link := rfl
@[simp] theorem State.setEnabled_store (s : State) (p : PortId) (b : Bool) : (s.setEnabled p b).store = s.store := rfl
@[simp] theorem State.setEnabled_trayPresent (s : State) (p : PortId) (b : Bool) : (s.setEnabled p b).trayPresent = s.trayPresent := rfl
@[simp] theorem State.setEnabled_resetHeld (s : State) (p : PortId) (b : Bool) : (s.setEnabled p b).resetHeld = s.resetHeld := rfl
@[simp] theorem State.setEnabled_lines (s : State) (p : PortId) (b : Bool) : (s.setEnabled p b).lines = s.lines := rfl
@[simp] theorem State.setEnabled_pending (s : State) (p : PortId) (b : Bool) : (s.setEnabled p b).pending = s.pending := rfl

/-! ## `State.setTray` -/

@[simp] theorem State.setTray_cfg (s : State) (t : TrayId) (r : Tray) : (s.setTray t r).cfg = s.cfg := rfl
@[simp] theorem State.setTray_clockMs (s : State) (t : TrayId) (r : Tray) : (s.setTray t r).clockMs = s.clockMs := rfl
@[simp] theorem State.setTray_secondDueMs (s : State) (t : TrayId) (r : Tray) : (s.setTray t r).secondDueMs = s.secondDueMs := rfl
@[simp] theorem State.setTray_seconds (s : State) (t : TrayId) (r : Tray) : (s.setTray t r).seconds = s.seconds := rfl
@[simp] theorem State.setTray_hourSeconds (s : State) (t : TrayId) (r : Tray) : (s.setTray t r).hourSeconds = s.hourSeconds := rfl
@[simp] theorem State.setTray_chassis (s : State) (t : TrayId) (r : Tray) : (s.setTray t r).chassis = s.chassis := rfl
@[simp] theorem State.setTray_queries (s : State) (t : TrayId) (r : Tray) : (s.setTray t r).queries = s.queries := rfl
@[simp] theorem State.setTray_env (s : State) (t : TrayId) (r : Tray) : (s.setTray t r).env = s.env := rfl
@[simp] theorem State.setTray_fan (s : State) (t : TrayId) (r : Tray) : (s.setTray t r).fan = s.fan.setTray t r := rfl
@[simp] theorem State.setTray_zone (s : State) (t : TrayId) (r : Tray) : (s.setTray t r).zone = s.zone := rfl
@[simp] theorem State.setTray_link (s : State) (t : TrayId) (r : Tray) : (s.setTray t r).link = s.link := rfl
@[simp] theorem State.setTray_store (s : State) (t : TrayId) (r : Tray) : (s.setTray t r).store = s.store := rfl
@[simp] theorem State.setTray_trayPresent (s : State) (t : TrayId) (r : Tray) : (s.setTray t r).trayPresent = s.trayPresent := rfl
@[simp] theorem State.setTray_resetHeld (s : State) (t : TrayId) (r : Tray) : (s.setTray t r).resetHeld = s.resetHeld := rfl
@[simp] theorem State.setTray_lines (s : State) (t : TrayId) (r : Tray) : (s.setTray t r).lines = s.lines := rfl
@[simp] theorem State.setTray_pending (s : State) (t : TrayId) (r : Tray) : (s.setTray t r).pending = s.pending := rfl

/-! ## `State.setPresence` -/

@[simp] theorem State.setPresence_cfg (s : State) (t : TrayId) (b : Bool) : (s.setPresence t b).cfg = s.cfg := rfl
@[simp] theorem State.setPresence_clockMs (s : State) (t : TrayId) (b : Bool) : (s.setPresence t b).clockMs = s.clockMs := rfl
@[simp] theorem State.setPresence_secondDueMs (s : State) (t : TrayId) (b : Bool) : (s.setPresence t b).secondDueMs = s.secondDueMs := rfl
@[simp] theorem State.setPresence_seconds (s : State) (t : TrayId) (b : Bool) : (s.setPresence t b).seconds = s.seconds := rfl
@[simp] theorem State.setPresence_hourSeconds (s : State) (t : TrayId) (b : Bool) : (s.setPresence t b).hourSeconds = s.hourSeconds := rfl
@[simp] theorem State.setPresence_chassis (s : State) (t : TrayId) (b : Bool) : (s.setPresence t b).chassis = s.chassis := rfl
@[simp] theorem State.setPresence_queries (s : State) (t : TrayId) (b : Bool) : (s.setPresence t b).queries = s.queries := rfl
@[simp] theorem State.setPresence_env (s : State) (t : TrayId) (b : Bool) : (s.setPresence t b).env = s.env := rfl
@[simp] theorem State.setPresence_fan (s : State) (t : TrayId) (b : Bool) : (s.setPresence t b).fan = s.fan := rfl
@[simp] theorem State.setPresence_zone (s : State) (t : TrayId) (b : Bool) : (s.setPresence t b).zone = s.zone := rfl
@[simp] theorem State.setPresence_link (s : State) (t : TrayId) (b : Bool) : (s.setPresence t b).link = s.link := rfl
@[simp] theorem State.setPresence_store (s : State) (t : TrayId) (b : Bool) : (s.setPresence t b).store = s.store := rfl
@[simp] theorem State.setPresence_trayPresent (s : State) (t : TrayId) (b : Bool) : (s.setPresence t b).trayPresent = s.trayPresent.set t.val b := rfl
@[simp] theorem State.setPresence_resetHeld (s : State) (t : TrayId) (b : Bool) : (s.setPresence t b).resetHeld = s.resetHeld := rfl
@[simp] theorem State.setPresence_lines (s : State) (t : TrayId) (b : Bool) : (s.setPresence t b).lines = s.lines := rfl
@[simp] theorem State.setPresence_pending (s : State) (t : TrayId) (b : Bool) : (s.setPresence t b).pending = s.pending := rfl

/-! ## `Chassis.raise` -/

@[simp] theorem Chassis.raise_blades (c : Chassis) (x : Ctx) (k : AlarmKind) (n : Nat) : (c.raise x k n).blades = c.blades := rfl
@[simp] theorem Chassis.raise_ports (c : Chassis) (x : Ctx) (k : AlarmKind) (n : Nat) : (c.raise x k n).ports = c.ports := rfl
@[simp] theorem Chassis.raise_logins (c : Chassis) (x : Ctx) (k : AlarmKind) (n : Nat) : (c.raise x k n).logins = c.logins := rfl
@[simp] theorem Chassis.raise_slots (c : Chassis) (x : Ctx) (k : AlarmKind) (n : Nat) : (c.raise x k n).slots = c.slots := rfl
@[simp] theorem Chassis.raise_licences (c : Chassis) (x : Ctx) (k : AlarmKind) (n : Nat) : (c.raise x k n).licences = c.licences := rfl
@[simp] theorem Chassis.raise_grace (c : Chassis) (x : Ctx) (k : AlarmKind) (n : Nat) : (c.raise x k n).grace = c.grace := rfl
@[simp] theorem Chassis.raise_seatWait (c : Chassis) (x : Ctx) (k : AlarmKind) (n : Nat) : (c.raise x k n).seatWait = c.seatWait := rfl
@[simp] theorem Chassis.raise_graceRunning (c : Chassis) (x : Ctx) (k : AlarmKind) (n : Nat) : (c.raise x k n).graceRunning = c.graceRunning := rfl
@[simp] theorem Chassis.raise_licencesDirty (c : Chassis) (x : Ctx) (k : AlarmKind) (n : Nat) : (c.raise x k n).licencesDirty = c.licencesDirty := rfl
@[simp] theorem Chassis.raise_passDue (c : Chassis) (x : Ctx) (k : AlarmKind) (n : Nat) : (c.raise x k n).passDue = c.passDue := rfl
@[simp] theorem Chassis.raise_pwr (c : Chassis) (x : Ctx) (k : AlarmKind) (n : Nat) : (c.raise x k n).pwr = c.pwr := rfl
@[simp] theorem Chassis.raise_alm (c : Chassis) (x : Ctx) (k : AlarmKind) (n : Nat) : (c.raise x k n).alm = c.alm.raise x k n := rfl

/-! ## `Chassis.clear` -/

@[simp] theorem Chassis.clear_blades (c : Chassis) (x : Ctx) (k : AlarmKind) (n : Nat) : (c.clear x k n).blades = c.blades := rfl
@[simp] theorem Chassis.clear_ports (c : Chassis) (x : Ctx) (k : AlarmKind) (n : Nat) : (c.clear x k n).ports = c.ports := rfl
@[simp] theorem Chassis.clear_logins (c : Chassis) (x : Ctx) (k : AlarmKind) (n : Nat) : (c.clear x k n).logins = c.logins := rfl
@[simp] theorem Chassis.clear_slots (c : Chassis) (x : Ctx) (k : AlarmKind) (n : Nat) : (c.clear x k n).slots = c.slots := rfl
@[simp] theorem Chassis.clear_licences (c : Chassis) (x : Ctx) (k : AlarmKind) (n : Nat) : (c.clear x k n).licences = c.licences := rfl
@[simp] theorem Chassis.clear_grace (c : Chassis) (x : Ctx) (k : AlarmKind) (n : Nat) : (c.clear x k n).grace = c.grace := rfl
@[simp] theorem Chassis.clear_seatWait (c : Chassis) (x : Ctx) (k : AlarmKind) (n : Nat) : (c.clear x k n).seatWait = c.seatWait := rfl
@[simp] theorem Chassis.clear_graceRunning (c : Chassis) (x : Ctx) (k : AlarmKind) (n : Nat) : (c.clear x k n).graceRunning = c.graceRunning := rfl
@[simp] theorem Chassis.clear_licencesDirty (c : Chassis) (x : Ctx) (k : AlarmKind) (n : Nat) : (c.clear x k n).licencesDirty = c.licencesDirty := rfl
@[simp] theorem Chassis.clear_passDue (c : Chassis) (x : Ctx) (k : AlarmKind) (n : Nat) : (c.clear x k n).passDue = c.passDue := rfl
@[simp] theorem Chassis.clear_pwr (c : Chassis) (x : Ctx) (k : AlarmKind) (n : Nat) : (c.clear x k n).pwr = c.pwr := rfl
@[simp] theorem Chassis.clear_alm (c : Chassis) (x : Ctx) (k : AlarmKind) (n : Nat) : (c.clear x k n).alm = c.alm.clear x k n := rfl

/-! ## `Chassis.setPort` -/

@[simp] theorem Chassis.setPort_blades (c : Chassis) (p : PortId) (r : PortRec) : (c.setPort p r).blades = c.blades := rfl
@[simp] theorem Chassis.setPort_ports (c : Chassis) (p : PortId) (r : PortRec) : (c.setPort p r).ports = c.ports.set p.val r := rfl
@[simp] theorem Chassis.setPort_logins (c : Chassis) (p : PortId) (r : PortRec) : (c.setPort p r).logins = c.logins := rfl
@[simp] theorem Chassis.setPort_slots (c : Chassis) (p : PortId) (r : PortRec) : (c.setPort p r).slots = c.slots := rfl
@[simp] theorem Chassis.setPort_licences (c : Chassis) (p : PortId) (r : PortRec) : (c.setPort p r).licences = c.licences := rfl
@[simp] theorem Chassis.setPort_grace (c : Chassis) (p : PortId) (r : PortRec) : (c.setPort p r).grace = c.grace := rfl
@[simp] theorem Chassis.setPort_seatWait (c : Chassis) (p : PortId) (r : PortRec) : (c.setPort p r).seatWait = c.seatWait := rfl
@[simp] theorem Chassis.setPort_graceRunning (c : Chassis) (p : PortId) (r : PortRec) : (c.setPort p r).graceRunning = c.graceRunning := rfl
@[simp] theorem Chassis.setPort_licencesDirty (c : Chassis) (p : PortId) (r : PortRec) : (c.setPort p r).licencesDirty = c.licencesDirty := rfl
@[simp] theorem Chassis.setPort_passDue (c : Chassis) (p : PortId) (r : PortRec) : (c.setPort p r).passDue = c.passDue := rfl
@[simp] theorem Chassis.setPort_pwr (c : Chassis) (p : PortId) (r : PortRec) : (c.setPort p r).pwr = c.pwr := rfl
@[simp] theorem Chassis.setPort_alm (c : Chassis) (p : PortId) (r : PortRec) : (c.setPort p r).alm = c.alm := rfl

/-! ## `Chassis.setPwr` -/

@[simp] theorem Chassis.setPwr_blades (c : Chassis) (w : Pwr) : (c.setPwr w).blades = c.blades := rfl
@[simp] theorem Chassis.setPwr_ports (c : Chassis) (w : Pwr) : (c.setPwr w).ports = c.ports := rfl
@[simp] theorem Chassis.setPwr_logins (c : Chassis) (w : Pwr) : (c.setPwr w).logins = c.logins := rfl
@[simp] theorem Chassis.setPwr_slots (c : Chassis) (w : Pwr) : (c.setPwr w).slots = c.slots := rfl
@[simp] theorem Chassis.setPwr_licences (c : Chassis) (w : Pwr) : (c.setPwr w).licences = c.licences := rfl
@[simp] theorem Chassis.setPwr_grace (c : Chassis) (w : Pwr) : (c.setPwr w).grace = c.grace := rfl
@[simp] theorem Chassis.setPwr_seatWait (c : Chassis) (w : Pwr) : (c.setPwr w).seatWait = c.seatWait := rfl
@[simp] theorem Chassis.setPwr_graceRunning (c : Chassis) (w : Pwr) : (c.setPwr w).graceRunning = c.graceRunning := rfl
@[simp] theorem Chassis.setPwr_licencesDirty (c : Chassis) (w : Pwr) : (c.setPwr w).licencesDirty = c.licencesDirty := rfl
@[simp] theorem Chassis.setPwr_passDue (c : Chassis) (w : Pwr) : (c.setPwr w).passDue = c.passDue := rfl
@[simp] theorem Chassis.setPwr_pwr (c : Chassis) (w : Pwr) : (c.setPwr w).pwr = w := rfl
@[simp] theorem Chassis.setPwr_alm (c : Chassis) (w : Pwr) : (c.setPwr w).alm = c.alm := rfl

/-! ## `Chassis.removeLogins` -/

@[simp] theorem Chassis.removeLogins_blades (c : Chassis) (p : PortId) : (c.removeLogins p).blades = c.blades := rfl
@[simp] theorem Chassis.removeLogins_ports (c : Chassis) (p : PortId) : (c.removeLogins p).ports = c.ports := rfl
@[simp] theorem Chassis.removeLogins_logins (c : Chassis) (p : PortId) : (c.removeLogins p).logins = c.logins.filter (fun e => e.port != p) := rfl
@[simp] theorem Chassis.removeLogins_slots (c : Chassis) (p : PortId) : (c.removeLogins p).slots = c.slots := rfl
@[simp] theorem Chassis.removeLogins_licences (c : Chassis) (p : PortId) : (c.removeLogins p).licences = c.licences := rfl
@[simp] theorem Chassis.removeLogins_grace (c : Chassis) (p : PortId) : (c.removeLogins p).grace = c.grace := rfl
@[simp] theorem Chassis.removeLogins_seatWait (c : Chassis) (p : PortId) : (c.removeLogins p).seatWait = c.seatWait := rfl
@[simp] theorem Chassis.removeLogins_graceRunning (c : Chassis) (p : PortId) : (c.removeLogins p).graceRunning = c.graceRunning := rfl
@[simp] theorem Chassis.removeLogins_licencesDirty (c : Chassis) (p : PortId) : (c.removeLogins p).licencesDirty = c.licencesDirty := rfl
@[simp] theorem Chassis.removeLogins_passDue (c : Chassis) (p : PortId) : (c.removeLogins p).passDue = c.passDue := rfl
@[simp] theorem Chassis.removeLogins_pwr (c : Chassis) (p : PortId) : (c.removeLogins p).pwr = c.pwr := rfl
@[simp] theorem Chassis.removeLogins_alm (c : Chassis) (p : PortId) : (c.removeLogins p).alm = c.alm := rfl

/-! ## `Chassis.onLicence` -/

@[simp] theorem Chassis.onLicence_blades (c : Chassis) (i : Word16) (f : Licence → Licence) : (c.onLicence i f).blades = c.blades := rfl
@[simp] theorem Chassis.onLicence_ports (c : Chassis) (i : Word16) (f : Licence → Licence) : (c.onLicence i f).ports = c.ports := rfl
@[simp] theorem Chassis.onLicence_logins (c : Chassis) (i : Word16) (f : Licence → Licence) : (c.onLicence i f).logins = c.logins := rfl
@[simp] theorem Chassis.onLicence_slots (c : Chassis) (i : Word16) (f : Licence → Licence) : (c.onLicence i f).slots = c.slots := rfl
@[simp] theorem Chassis.onLicence_licences (c : Chassis) (i : Word16) (f : Licence → Licence) : (c.onLicence i f).licences = c.licences.map (fun l => if l.record.id == i then f l else l) := rfl
@[simp] theorem Chassis.onLicence_grace (c : Chassis) (i : Word16) (f : Licence → Licence) : (c.onLicence i f).grace = c.grace := rfl
@[simp] theorem Chassis.onLicence_seatWait (c : Chassis) (i : Word16) (f : Licence → Licence) : (c.onLicence i f).seatWait = c.seatWait := rfl
@[simp] theorem Chassis.onLicence_graceRunning (c : Chassis) (i : Word16) (f : Licence → Licence) : (c.onLicence i f).graceRunning = c.graceRunning := rfl
@[simp] theorem Chassis.onLicence_licencesDirty (c : Chassis) (i : Word16) (f : Licence → Licence) : (c.onLicence i f).licencesDirty = c.licencesDirty := rfl
@[simp] theorem Chassis.onLicence_passDue (c : Chassis) (i : Word16) (f : Licence → Licence) : (c.onLicence i f).passDue = c.passDue := rfl
@[simp] theorem Chassis.onLicence_pwr (c : Chassis) (i : Word16) (f : Licence → Licence) : (c.onLicence i f).pwr = c.pwr := rfl
@[simp] theorem Chassis.onLicence_alm (c : Chassis) (i : Word16) (f : Licence → Licence) : (c.onLicence i f).alm = c.alm := rfl

/-! ## `Chassis.bindSeat` -/

@[simp] theorem Chassis.bindSeat_blades (c : Chassis) (i : Word16) (p : PortId) : (c.bindSeat i p).blades = c.blades := rfl
@[simp] theorem Chassis.bindSeat_ports (c : Chassis) (i : Word16) (p : PortId) : (c.bindSeat i p).ports = c.ports := rfl
@[simp] theorem Chassis.bindSeat_logins (c : Chassis) (i : Word16) (p : PortId) : (c.bindSeat i p).logins = c.logins := rfl
@[simp] theorem Chassis.bindSeat_slots (c : Chassis) (i : Word16) (p : PortId) : (c.bindSeat i p).slots = c.slots := rfl
@[simp] theorem Chassis.bindSeat_grace (c : Chassis) (i : Word16) (p : PortId) : (c.bindSeat i p).grace = c.grace := rfl
@[simp] theorem Chassis.bindSeat_seatWait (c : Chassis) (i : Word16) (p : PortId) : (c.bindSeat i p).seatWait = c.seatWait := rfl
@[simp] theorem Chassis.bindSeat_graceRunning (c : Chassis) (i : Word16) (p : PortId) : (c.bindSeat i p).graceRunning = c.graceRunning := rfl
@[simp] theorem Chassis.bindSeat_licencesDirty (c : Chassis) (i : Word16) (p : PortId) : (c.bindSeat i p).licencesDirty = c.licencesDirty := rfl
@[simp] theorem Chassis.bindSeat_passDue (c : Chassis) (i : Word16) (p : PortId) : (c.bindSeat i p).passDue = c.passDue := rfl
@[simp] theorem Chassis.bindSeat_pwr (c : Chassis) (i : Word16) (p : PortId) : (c.bindSeat i p).pwr = c.pwr := rfl
@[simp] theorem Chassis.bindSeat_alm (c : Chassis) (i : Word16) (p : PortId) : (c.bindSeat i p).alm = c.alm := rfl

/-! ## `Chassis.unbindSeat` -/

@[simp] theorem Chassis.unbindSeat_blades (c : Chassis) (i : Word16) (p : PortId) : (c.unbindSeat i p).blades = c.blades := rfl
@[simp] theorem Chassis.unbindSeat_ports (c : Chassis) (i : Word16) (p : PortId) : (c.unbindSeat i p).ports = c.ports := rfl
@[simp] theorem Chassis.unbindSeat_logins (c : Chassis) (i : Word16) (p : PortId) : (c.unbindSeat i p).logins = c.logins := rfl
@[simp] theorem Chassis.unbindSeat_slots (c : Chassis) (i : Word16) (p : PortId) : (c.unbindSeat i p).slots = c.slots := rfl
@[simp] theorem Chassis.unbindSeat_grace (c : Chassis) (i : Word16) (p : PortId) : (c.unbindSeat i p).grace = c.grace := rfl
@[simp] theorem Chassis.unbindSeat_seatWait (c : Chassis) (i : Word16) (p : PortId) : (c.unbindSeat i p).seatWait = c.seatWait := rfl
@[simp] theorem Chassis.unbindSeat_graceRunning (c : Chassis) (i : Word16) (p : PortId) : (c.unbindSeat i p).graceRunning = c.graceRunning := rfl
@[simp] theorem Chassis.unbindSeat_licencesDirty (c : Chassis) (i : Word16) (p : PortId) : (c.unbindSeat i p).licencesDirty = c.licencesDirty := rfl
@[simp] theorem Chassis.unbindSeat_passDue (c : Chassis) (i : Word16) (p : PortId) : (c.unbindSeat i p).passDue = c.passDue := rfl
@[simp] theorem Chassis.unbindSeat_pwr (c : Chassis) (i : Word16) (p : PortId) : (c.unbindSeat i p).pwr = c.pwr := rfl
@[simp] theorem Chassis.unbindSeat_alm (c : Chassis) (i : Word16) (p : PortId) : (c.unbindSeat i p).alm = c.alm := rfl

/-! ## `Chassis.joinSeatWait` -/

@[simp] theorem Chassis.joinSeatWait_blades (c : Chassis) (p : PortId) : (c.joinSeatWait p).blades = c.blades := rfl
@[simp] theorem Chassis.joinSeatWait_ports (c : Chassis) (p : PortId) : (c.joinSeatWait p).ports = c.ports := rfl
@[simp] theorem Chassis.joinSeatWait_logins (c : Chassis) (p : PortId) : (c.joinSeatWait p).logins = c.logins := rfl
@[simp] theorem Chassis.joinSeatWait_slots (c : Chassis) (p : PortId) : (c.joinSeatWait p).slots = c.slots := rfl
@[simp] theorem Chassis.joinSeatWait_licences (c : Chassis) (p : PortId) : (c.joinSeatWait p).licences = c.licences := rfl
@[simp] theorem Chassis.joinSeatWait_grace (c : Chassis) (p : PortId) : (c.joinSeatWait p).grace = c.grace := rfl
@[simp] theorem Chassis.joinSeatWait_seatWait (c : Chassis) (p : PortId) : (c.joinSeatWait p).seatWait = c.seatWait ++ [p] := rfl
@[simp] theorem Chassis.joinSeatWait_graceRunning (c : Chassis) (p : PortId) : (c.joinSeatWait p).graceRunning = c.graceRunning := rfl
@[simp] theorem Chassis.joinSeatWait_licencesDirty (c : Chassis) (p : PortId) : (c.joinSeatWait p).licencesDirty = c.licencesDirty := rfl
@[simp] theorem Chassis.joinSeatWait_passDue (c : Chassis) (p : PortId) : (c.joinSeatWait p).passDue = c.passDue := rfl
@[simp] theorem Chassis.joinSeatWait_pwr (c : Chassis) (p : PortId) : (c.joinSeatWait p).pwr = c.pwr := rfl
@[simp] theorem Chassis.joinSeatWait_alm (c : Chassis) (p : PortId) : (c.joinSeatWait p).alm = c.alm := rfl

/-! ## `Chassis.leaveSeatWait` -/

@[simp] theorem Chassis.leaveSeatWait_blades (c : Chassis) (p : PortId) : (c.leaveSeatWait p).blades = c.blades := rfl
@[simp] theorem Chassis.leaveSeatWait_ports (c : Chassis) (p : PortId) : (c.leaveSeatWait p).ports = c.ports := rfl
@[simp] theorem Chassis.leaveSeatWait_logins (c : Chassis) (p : PortId) : (c.leaveSeatWait p).logins = c.logins := rfl
@[simp] theorem Chassis.leaveSeatWait_slots (c : Chassis) (p : PortId) : (c.leaveSeatWait p).slots = c.slots := rfl
@[simp] theorem Chassis.leaveSeatWait_licences (c : Chassis) (p : PortId) : (c.leaveSeatWait p).licences = c.licences := rfl
@[simp] theorem Chassis.leaveSeatWait_grace (c : Chassis) (p : PortId) : (c.leaveSeatWait p).grace = c.grace := rfl
@[simp] theorem Chassis.leaveSeatWait_seatWait (c : Chassis) (p : PortId) : (c.leaveSeatWait p).seatWait = c.seatWait.filter (fun q => q != p) := rfl
@[simp] theorem Chassis.leaveSeatWait_graceRunning (c : Chassis) (p : PortId) : (c.leaveSeatWait p).graceRunning = c.graceRunning := rfl
@[simp] theorem Chassis.leaveSeatWait_licencesDirty (c : Chassis) (p : PortId) : (c.leaveSeatWait p).licencesDirty = c.licencesDirty := rfl
@[simp] theorem Chassis.leaveSeatWait_passDue (c : Chassis) (p : PortId) : (c.leaveSeatWait p).passDue = c.passDue := rfl
@[simp] theorem Chassis.leaveSeatWait_pwr (c : Chassis) (p : PortId) : (c.leaveSeatWait p).pwr = c.pwr := rfl
@[simp] theorem Chassis.leaveSeatWait_alm (c : Chassis) (p : PortId) : (c.leaveSeatWait p).alm = c.alm := rfl

/-! ## `Chassis.markPass` -/

@[simp] theorem Chassis.markPass_blades (c : Chassis) : (c.markPass).blades = c.blades := rfl
@[simp] theorem Chassis.markPass_ports (c : Chassis) : (c.markPass).ports = c.ports := rfl
@[simp] theorem Chassis.markPass_logins (c : Chassis) : (c.markPass).logins = c.logins := rfl
@[simp] theorem Chassis.markPass_slots (c : Chassis) : (c.markPass).slots = c.slots := rfl
@[simp] theorem Chassis.markPass_licences (c : Chassis) : (c.markPass).licences = c.licences := rfl
@[simp] theorem Chassis.markPass_grace (c : Chassis) : (c.markPass).grace = c.grace := rfl
@[simp] theorem Chassis.markPass_seatWait (c : Chassis) : (c.markPass).seatWait = c.seatWait := rfl
@[simp] theorem Chassis.markPass_graceRunning (c : Chassis) : (c.markPass).graceRunning = c.graceRunning := rfl
@[simp] theorem Chassis.markPass_licencesDirty (c : Chassis) : (c.markPass).licencesDirty = c.licencesDirty := rfl
@[simp] theorem Chassis.markPass_passDue (c : Chassis) : (c.markPass).passDue = true := rfl
@[simp] theorem Chassis.markPass_pwr (c : Chassis) : (c.markPass).pwr = c.pwr := rfl
@[simp] theorem Chassis.markPass_alm (c : Chassis) : (c.markPass).alm = c.alm := rfl

/-! ## `Chassis.judgeGrace` -/

@[simp] theorem Chassis.judgeGrace_blades (c : Chassis) (x : Ctx) : (c.judgeGrace x).blades = c.blades := rfl
@[simp] theorem Chassis.judgeGrace_ports (c : Chassis) (x : Ctx) : (c.judgeGrace x).ports = c.ports := rfl
@[simp] theorem Chassis.judgeGrace_logins (c : Chassis) (x : Ctx) : (c.judgeGrace x).logins = c.logins := rfl
@[simp] theorem Chassis.judgeGrace_slots (c : Chassis) (x : Ctx) : (c.judgeGrace x).slots = c.slots := rfl
@[simp] theorem Chassis.judgeGrace_licences (c : Chassis) (x : Ctx) : (c.judgeGrace x).licences = c.licences := rfl
@[simp] theorem Chassis.judgeGrace_grace (c : Chassis) (x : Ctx) : (c.judgeGrace x).grace = c.grace := rfl
@[simp] theorem Chassis.judgeGrace_seatWait (c : Chassis) (x : Ctx) : (c.judgeGrace x).seatWait = c.seatWait := rfl
@[simp] theorem Chassis.judgeGrace_licencesDirty (c : Chassis) (x : Ctx) : (c.judgeGrace x).licencesDirty = c.licencesDirty := rfl
@[simp] theorem Chassis.judgeGrace_passDue (c : Chassis) (x : Ctx) : (c.judgeGrace x).passDue = c.passDue := rfl
@[simp] theorem Chassis.judgeGrace_pwr (c : Chassis) (x : Ctx) : (c.judgeGrace x).pwr = c.pwr := rfl

/-! ## `Chassis.joinWait` -/

@[simp] theorem Chassis.joinWait_blades (c : Chassis) (x : Ctx) (p : PortId) (k : WaitKind) : (c.joinWait x p k).blades = c.blades := rfl
@[simp] theorem Chassis.joinWait_ports (c : Chassis) (x : Ctx) (p : PortId) (k : WaitKind) : (c.joinWait x p k).ports = c.ports := rfl
@[simp] theorem Chassis.joinWait_logins (c : Chassis) (x : Ctx) (p : PortId) (k : WaitKind) : (c.joinWait x p k).logins = c.logins := rfl
@[simp] theorem Chassis.joinWait_slots (c : Chassis) (x : Ctx) (p : PortId) (k : WaitKind) : (c.joinWait x p k).slots = c.slots := rfl
@[simp] theorem Chassis.joinWait_licences (c : Chassis) (x : Ctx) (p : PortId) (k : WaitKind) : (c.joinWait x p k).licences = c.licences := rfl
@[simp] theorem Chassis.joinWait_grace (c : Chassis) (x : Ctx) (p : PortId) (k : WaitKind) : (c.joinWait x p k).grace = c.grace := rfl
@[simp] theorem Chassis.joinWait_seatWait (c : Chassis) (x : Ctx) (p : PortId) (k : WaitKind) : (c.joinWait x p k).seatWait = c.seatWait := rfl
@[simp] theorem Chassis.joinWait_graceRunning (c : Chassis) (x : Ctx) (p : PortId) (k : WaitKind) : (c.joinWait x p k).graceRunning = c.graceRunning := rfl
@[simp] theorem Chassis.joinWait_licencesDirty (c : Chassis) (x : Ctx) (p : PortId) (k : WaitKind) : (c.joinWait x p k).licencesDirty = c.licencesDirty := rfl
@[simp] theorem Chassis.joinWait_passDue (c : Chassis) (x : Ctx) (p : PortId) (k : WaitKind) : (c.joinWait x p k).passDue = c.passDue := rfl
@[simp] theorem Chassis.joinWait_alm (c : Chassis) (x : Ctx) (p : PortId) (k : WaitKind) : (c.joinWait x p k).alm = c.alm := rfl

/-! ## `Chassis.putControl` -/

@[simp] theorem Chassis.putControl_blades (c : Chassis) (x : Ctx) (p : PortId) (k : Control) : (c.putControl x p k).blades = c.blades := by unfold Chassis.putControl; split <;> rfl
@[simp] theorem Chassis.putControl_ports (c : Chassis) (x : Ctx) (p : PortId) (k : Control) : (c.putControl x p k).ports = c.ports := by unfold Chassis.putControl; split <;> rfl
@[simp] theorem Chassis.putControl_logins (c : Chassis) (x : Ctx) (p : PortId) (k : Control) : (c.putControl x p k).logins = c.logins := by unfold Chassis.putControl; split <;> rfl
@[simp] theorem Chassis.putControl_licences (c : Chassis) (x : Ctx) (p : PortId) (k : Control) : (c.putControl x p k).licences = c.licences := by unfold Chassis.putControl; split <;> rfl
@[simp] theorem Chassis.putControl_grace (c : Chassis) (x : Ctx) (p : PortId) (k : Control) : (c.putControl x p k).grace = c.grace := by unfold Chassis.putControl; split <;> rfl
@[simp] theorem Chassis.putControl_seatWait (c : Chassis) (x : Ctx) (p : PortId) (k : Control) : (c.putControl x p k).seatWait = c.seatWait := by unfold Chassis.putControl; split <;> rfl
@[simp] theorem Chassis.putControl_graceRunning (c : Chassis) (x : Ctx) (p : PortId) (k : Control) : (c.putControl x p k).graceRunning = c.graceRunning := by unfold Chassis.putControl; split <;> rfl
@[simp] theorem Chassis.putControl_licencesDirty (c : Chassis) (x : Ctx) (p : PortId) (k : Control) : (c.putControl x p k).licencesDirty = c.licencesDirty := by unfold Chassis.putControl; split <;> rfl
@[simp] theorem Chassis.putControl_passDue (c : Chassis) (x : Ctx) (p : PortId) (k : Control) : (c.putControl x p k).passDue = c.passDue := by unfold Chassis.putControl; split <;> rfl
@[simp] theorem Chassis.putControl_pwr (c : Chassis) (x : Ctx) (p : PortId) (k : Control) : (c.putControl x p k).pwr = c.pwr := by unfold Chassis.putControl; split <;> rfl
@[simp] theorem Chassis.putControl_alm (c : Chassis) (x : Ctx) (p : PortId) (k : Control) : (c.putControl x p k).alm = c.alm := by unfold Chassis.putControl; split <;> rfl

/-! ## `Chassis.setGrace` -/

@[simp] theorem Chassis.setGrace_blades (c : Chassis) (p : PortId) (n : Nat) : (c.setGrace p n).blades = c.blades := by unfold Chassis.setGrace; split <;> rfl
@[simp] theorem Chassis.setGrace_ports (c : Chassis) (p : PortId) (n : Nat) : (c.setGrace p n).ports = c.ports := by unfold Chassis.setGrace; split <;> rfl
@[simp] theorem Chassis.setGrace_logins (c : Chassis) (p : PortId) (n : Nat) : (c.setGrace p n).logins = c.logins := by unfold Chassis.setGrace; split <;> rfl
@[simp] theorem Chassis.setGrace_slots (c : Chassis) (p : PortId) (n : Nat) : (c.setGrace p n).slots = c.slots := by unfold Chassis.setGrace; split <;> rfl
@[simp] theorem Chassis.setGrace_licences (c : Chassis) (p : PortId) (n : Nat) : (c.setGrace p n).licences = c.licences := by unfold Chassis.setGrace; split <;> rfl
@[simp] theorem Chassis.setGrace_seatWait (c : Chassis) (p : PortId) (n : Nat) : (c.setGrace p n).seatWait = c.seatWait := by unfold Chassis.setGrace; split <;> rfl
@[simp] theorem Chassis.setGrace_graceRunning (c : Chassis) (p : PortId) (n : Nat) : (c.setGrace p n).graceRunning = c.graceRunning := by unfold Chassis.setGrace; split <;> rfl
@[simp] theorem Chassis.setGrace_passDue (c : Chassis) (p : PortId) (n : Nat) : (c.setGrace p n).passDue = c.passDue := by unfold Chassis.setGrace; split <;> rfl
@[simp] theorem Chassis.setGrace_pwr (c : Chassis) (p : PortId) (n : Nat) : (c.setGrace p n).pwr = c.pwr := by unfold Chassis.setGrace; split <;> rfl
@[simp] theorem Chassis.setGrace_alm (c : Chassis) (p : PortId) (n : Nat) : (c.setGrace p n).alm = c.alm := by unfold Chassis.setGrace; split <;> rfl

end Sys2Proof.Machine
end

