-- ==== Sys2Proof/Tests/Slice0.lean ====
section
/-! SUPPORT. Tests of the model: the ill-formed terms that WellFormed refuses, frames written out byte by byte,
worked values of the manual (each names its source), and for each statement with hypotheses a witness that meets
them. -/

namespace Sys2Proof.Tests

open Sys2Proof.Machine

-- One proof after another: each kernel evaluation would otherwise hold a thread and its stack.
set_option Elab.async false

/-! ## Small states -/

/-- A value of the state that an outcome gives. -/
def got {β : Type} (o : Host.Outcome State Fault Refusal) (f : State → β) : Option β :=
  match o with
  | .next t => some (f t)
  | .fault _ | .refused _ => none

/-- The reset state with the link UP and its full credits (R172). -/
def upS : State :=
  { State.reset with link := { Link.reset with state := .up, queryCredits := 64, requestCredits := 8 } }

/-- A request of origin 1 with one command, at the processor. -/
def one (cmd : Cmd) (ps : List Byte) : Proc := ⟨1#16, .administrator, 7#16, true, [], [⟨cmd.code, ps⟩], false, false⟩

/-- The state with one command of origin 1 at the processor. -/
def asks (cmd : Cmd) (ps : List Byte) (s : State) : State := { s with link := { s.link with proc := some (one cmd ps) } }

/-- A port record that a state allows (chapter 1, the nine states). -/
def rowOf : PortState → PortRec
  | .absent => PortRec.reset
  | .disabled => ⟨.disabled, none, .none, none, none, none⟩
  | .unseated => ⟨.unseated, none, .none, none, none, none⟩
  | .linkWait => ⟨.linkWait, none, .counted, some .c4, some .c4, some .c4⟩
  | .online => ⟨.online, some .c4, .counted, some .c4, some .c4, some .c4⟩
  | .draining t d => ⟨.draining t d, some .c4, .counted, some .c4, some .c4, some .c4⟩
  | .powerWait => ⟨.powerWait, none, .counted, some .c4, some .c4, none⟩
  | .shed => ⟨.shed, none, .counted, some .c4, some .c4, none⟩
  | .fault => ⟨.fault, none, .counted, some .c4, some .c4, none⟩

/-- Port 0 in a state, the rest of blade 0 DISABLED, the other blades absent. -/
def rowsOf (st : PortState) (p : PortId) : PortRec :=
  if p = 0 then rowOf st else if p.val < 32 then rowOf .disabled else PortRec.reset

/-- Blade 0 present with port 0 in a state and 5 hours of grace, the link UP. -/
def portIn (st : PortState) : State :=
  let c := upS.chassis
  { upS with chassis :=
    { c with
      blades := c.blades.set 0 true
      ports := Vector.ofFn (rowsOf st)
      seatWait := if st = .unseated then [0] else []
      grace := c.grace.set 0 5
      pwr := { c.pwr with
        inputs := { c.pwr.inputs with blades := 1 }
        waitList := st.waitKind.toList.map (fun k => ⟨0, k, 0, 0⟩)
        nextJoin := 1 } } }

/-- The ports of `portIn`. -/
theorem portIn_port (st : PortState) (p : PortId) : (portIn st).chassis.port p = rowsOf st p := by
  simp [portIn, Chassis.port]

/-- `portIn` keeps the table of the nine states. -/
theorem portIn_ok (st : PortState) (h : st ≠ .absent) : (portIn st).PortsOk := by
  refine ⟨fun p => ?_, ?_, fun p => ?_⟩
  · have hb : (portIn st).chassis.blade (bladeOf p) = decide (p.val < 32) := by
      simp [portIn, Chassis.blade, bladeOf, upS, State.reset, Vector.getElem_set]
      omega
    unfold Chassis.RowOk
    rw [portIn_port, hb]
    unfold rowsOf
    by_cases h0 : p = 0
    · subst h0
      cases st <;>
        first
        | exact absurd rfl h
        | simp [rowOf, portIn, PortState.seated, PortState.runs, PortState.waitKind]
    · by_cases h1 : p.val < 32
      · cases st <;> simp [h0, h1, rowOf, portIn, PortState.seated, PortState.runs, PortState.waitKind, Ne.symm h0]
      · cases st <;>
          simp [h0, h1, PortRec.reset, portIn, PortState.seated, PortState.runs, PortState.waitKind, Ne.symm h0]
  · cases st <;> simp [portIn]
  · unfold State.CeilingOk
    rw [portIn_port]
    have hc : ((portIn st).cfg.port p).reqClass = .c4 := by
      simp [portIn, upS, State.reset, Settings.port, Settings.factory, PortAdmin.factory]
    rw [hc]
    unfold rowsOf
    split
    · cases st <;> simp [rowOf, PortRec.reset, effective, RateClass.lower]
    · split <;> decide

/-- A licence record of one seat for every blade. -/
def lic (id : Word16) (ceil : RateClass) (term : Option Term) (st : LicState) : Licence :=
  ⟨⟨id, 1, ceil, [], term, st⟩, []⟩

/-- The state with a licence table. -/
def withLicences (ls : List Licence) (s : State) : State := { s with chassis := { s.chassis with licences := ls } }

/-- The state with a zone unit of claim owner 1. -/
def editing (e : ZoneSet) (commit : Commit) (s : State) : State :=
  { s with zone := { s.zone with owner := some 1#16, edit := e, commit := commit } }

/-- `portIn` with a licence table, port 0 bound to licence 9 in place of its counted grace binding. -/
def seatIn (st : PortState) (ls : List Licence) : State :=
  let s := portIn st
  { s with chassis := { s.chassis with
      licences := ls
      ports := s.chassis.ports.set 0 { rowOf st with binding := .licence 9 }
      grace := Vector.replicate 256 0 } }

/-- The ports of `seatIn`. -/
theorem seatIn_port (st : PortState) (ls : List Licence) (p : PortId) :
    (seatIn st ls).chassis.port p = if p = 0 then { rowOf st with binding := .licence 9 } else rowsOf st p := by
  have hp := portIn_port st p
  unfold Chassis.port at hp ⊢
  by_cases h : p = 0
  · subst h; simp [seatIn]
  · have h' : ¬ 0 = p.val := fun h0 => h (Fin.ext h0.symm)
    rw [if_neg h, ← hp]
    simp only [seatIn, Vector.getElem_set, if_neg h']

/-- `seatIn` keeps the table of the nine states. -/
theorem seatIn_ok (st : PortState) (ls : List Licence) (h : st.seated = true) : (seatIn st ls).PortsOk := by
  have hp := portIn_ok st (by rintro rfl; cases h)
  have e1 : (seatIn st ls).chassis.seatWait = (portIn st).chassis.seatWait := rfl
  have e2 : (seatIn st ls).chassis.pwr = (portIn st).chassis.pwr := rfl
  have e3 : ∀ b, (seatIn st ls).chassis.blade b = (portIn st).chassis.blade b := fun _ => by simp only [seatIn, Chassis.blade]
  have e4 : (seatIn st ls).cfg = (portIn st).cfg := rfl
  have hs : (rowOf st).state = st := by cases st <;> rfl
  refine ⟨fun p => ?_, e1 ▸ hp.2.1, fun p => ?_⟩
  · have hr : (portIn st).chassis.RowOk p := hp.1 p
    unfold Chassis.RowOk at hr ⊢
    rw [portIn_port] at hr
    rw [seatIn_port, e1, e2, e3]
    by_cases h0 : p = 0
    · subst h0
      exact ⟨by simp [hs, h], hr.2⟩
    · rw [if_neg h0]; exact hr
  · have hc : (portIn st).CeilingOk p := hp.2.2 p
    unfold State.CeilingOk at hc ⊢
    rw [portIn_port] at hc
    rw [seatIn_port, e4]
    by_cases h0 : p = 0
    · subst h0; exact hc
    · rw [if_neg h0]; exact hc

/-- Where licence 9 alone lists port 0, bound seat lists and bindings agree. -/
theorem seatIn_bindings (st : PortState) (l : Licence) (ls : List Licence) (h9 : l.record.id = 9) (hb : l.bound = [0])
    (hn : ∀ m ∈ ls, m.bound = []) : (seatIn st (l :: ls)).chassis.BindingsOk := by
  have hl : (seatIn st (l :: ls)).chassis.licences = l :: ls := rfl
  have hrow : ∀ id, (rowOf st).binding ≠ .licence id := by intro id; cases st <;> simp [rowOf, PortRec.reset]
  refine ⟨fun p id => ?_, ?_⟩
  · rw [seatIn_port, hl]
    constructor
    · intro h
      by_cases h0 : p = 0
      · subst h0
        exact ⟨l, by simp, by simpa [h9] using h, by simp [hb]⟩
      · rw [if_neg h0] at h
        unfold rowsOf at h
        rw [if_neg h0] at h
        split at h <;> cases h
    · rintro ⟨m, hm, hid, hp⟩
      rcases List.mem_cons.1 hm with rfl | hm
      · have h0 : p = 0 := by simpa [hb] using hp
        simp [h0, ← hid, h9]
      · simp [hn m hm] at hp
  · intro m hm
    rw [hl] at hm
    rcases List.mem_cons.1 hm with rfl | hm
    · simp [hb]
    · simp [hn m hm]

/-- The name of one character "A". -/
def nameA : List Byte := [0x41#8]

/-- The name of one character "B". -/
def nameB : List Byte := [0x42#8]

/-- A set of one zone "A" that holds port 0. -/
def setA : ZoneSet := ⟨nameA, .none, [⟨nameA, [.port 0]⟩]⟩

/-! ## WellFormed refuses (R173, layouts) -/

theorem test_wf_query_class : Instr.wf (.admissionQuery 0 0 0 0 2#8) = false := by decide
theorem test_wf_linkUp_class_zero : Instr.wf (.linkUp 0 0#8) = false := by decide
theorem test_wf_linkUp_class_five : Instr.wf (.linkUp 0 5#8) = false := by decide
theorem test_wf_inserted_blade : Instr.wf (.bladeEventInserted 8#8) = false := by decide
theorem test_wf_removed_blade : Instr.wf (.bladeEventRemoved 8#8) = false := by decide
theorem test_wf_origin : Instr.wf (.managementRequest 0 0 0 [⟨0x73#8, []⟩]) = false := by decide
theorem test_wf_privilege : Instr.wf (.managementRequest 1 3#8 0 [⟨0x73#8, []⟩]) = false := by decide
theorem test_wf_no_command : Instr.wf (.managementRequest 1 0 0 []) = false := by decide
theorem test_wf_17_commands :
    Instr.wf (.managementRequest 1 0 0 (List.replicate 17 ⟨0x73#8, []⟩)) = false := by decide
theorem test_wf_params :
    Instr.wf (.managementRequest 1 0 0 [⟨0x73#8, List.replicate 256 0#8⟩]) = false := by decide +kernel
theorem test_wf_16_commands :
    Instr.wf (.managementRequest 1 2 0 (List.replicate 16 ⟨0x73#8, []⟩)) = true := by decide

/-! ## Frames, with checks computed by hand from R173's polynomial -/

/-- The published check of the nine characters "123456789" under R173's parameters. -/
theorem test_crc_of_digits :
    frameCheck [0x31#8, 0x32#8, 0x33#8, 0x34#8, 0x35#8, 0x36#8, 0x37#8, 0x38#8, 0x39#8] = 0x29B1#16 := by
  decide +kernel
theorem test_frame_linkUp :
    parseFrame [0x12#8, 0x00#8, 0x03#8, 0x00#8, 0x00#8, 0x04#8, 0x44#8, 0x8C#8] = some (.linkUp 0 4#8) := by
  decide +kernel
theorem test_frame_login :
    parseFrame [0x12#8, 0x00#8, 0x05#8, 0x09#8, 0x04#8, 0x01#8, 0x02#8, 0x03#8, 0xC3#8, 0x91#8]
      = some (.login 9 0x010203#24) := by decide +kernel
theorem test_frame_portFault :
    parseFrame [0x12#8, 0x00#8, 0x02#8, 0x09#8, 0x02#8, 0xA5#8, 0x6F#8] = some (.portFault 9) := by decide +kernel
theorem test_frame_query :
    parseFrame [0x11#8, 0x00#8, 0x0A#8, 0x12#8, 0x34#8, 0x07#8, 0x01#8, 0x02#8, 0x03#8, 0x00#8, 0x00#8, 0xFC#8,
      0x01#8, 0x07#8, 0x71#8] = some (.admissionQuery 0x1234#16 7 0x010203#24 0x0000FC#24 1#8) := by decide +kernel
theorem test_frame_blade :
    parseFrame [0x13#8, 0x00#8, 0x02#8, 0x03#8, 0x01#8, 0xD0#8, 0x96#8] = some (.bladeEventRemoved 3#8) := by
  decide +kernel
theorem test_frame_request :
    parseFrame [0x14#8, 0x00#8, 0x0B#8, 0x00#8, 0x05#8, 0x01#8, 0x00#8, 0x09#8, 0x02#8, 0x01#8, 0x01#8, 0x07#8,
      0x73#8, 0x00#8, 0x01#8, 0xAF#8]
      = some (.managementRequest 5#16 1#8 9#16 [⟨0x01#8, [7#8]⟩, ⟨0x73#8, []⟩]) := by decide +kernel
theorem test_frame_wrong_check :
    parseFrame [0x13#8, 0x00#8, 0x02#8, 0x03#8, 0x01#8, 0xD0#8, 0x97#8] = none := by decide +kernel
theorem test_frame_blade_range :
    parseFrame [0x13#8, 0x00#8, 0x02#8, 0x08#8, 0x01#8, 0x0C#8, 0x6C#8] = none := by decide +kernel
theorem test_frame_verdict_out :
    OutFrame.bytes (.verdict ⟨0x1234#16, .permit, 2#16, some 1⟩)
      = [0x21#8, 0x00#8, 0x07#8, 0x12#8, 0x34#8, 0x00#8, 0x00#8, 0x02#8, 0x00#8, 0x01#8, 0x70#8, 0x9D#8] := by
  decide +kernel
theorem test_frame_control_out :
    OutFrame.bytes (.portControl 9 (.enable .c3))
      = [0x24#8, 0x00#8, 0x03#8, 0x09#8, 0x01#8, 0x03#8, 0x3B#8, 0xA6#8] := by decide +kernel

/-! ## Worked values of the manual -/

/-- R136, the derate table: K = 40, S = 20. -/
theorem test_derate_table :
    [35, 40, 46, 52, 67].map (derate Settings.factory.power) = [1000, 1000, 880, 760, 500] := by decide +kernel

/-- R136: 2,501 W at factor 880 give 2,200 W. -/
theorem test_electrical_rounds_down :
    (PwrInputs.stages ⟨#v[.good, .absent, .absent, .absent], true, some 46, .trusted, false, 6, 6, 0⟩
      { Settings.factory with supply := ⟨#v[2501, 0, 0, 0], .combined⟩ }).electrical = 2200 := by decide +kernel

/-- R135: Spare-One leaves one of two equal largest ratings out. -/
theorem test_spare_one : [rawSupply .spareOne [], rawSupply .spareOne [2500], rawSupply .spareOne [2500, 2500, 1000]]
    = [0, 2500, 3500] := by decide

/-- R126, the duty table: minimum duty 30, gain 5. -/
theorem test_duty_table :
    [some 6, some (-2), some 17, some 3, none].map (computedDuty Settings.factory.cooling false)
      = [60, 30, 100, 45, 100] := by decide +kernel

/-- R128: downward at most 5 points a round. -/
theorem test_slew : [slew 100 30, slew 33 30, slew 30 60] = [95, 30, 60] := by decide

/-- R83, the example: port 128 of blade 4 asks for class 3. -/
theorem test_seat_choice_example :
    let c : Chassis := { State.reset.chassis with licences :=
      [lic 12 .c4 (some ⟨100, 100, 10⟩) .active, lic 30 .c4 none .active, lic 8 .c2 none .active] }
    let cfg : Settings := { Settings.factory with ports := Settings.factory.ports.set 128 ⟨true, .c3, 3, true, 2⟩ }
    (c.seatChoice ⟨cfg, 0, 0, true⟩ 128).map LicenceRec.id = some 30#16 := by decide +kernel

/-- R104: code 404 is q = 184, 46.00 °C; the example of chapter 5, trust lost and regained. -/
theorem test_conversion : valueOf .temperature 1 404#10 = 184 ∧ wholeDegrees 184 = 46 := by decide

/-- Chapter 5, trust lost and regained, rounds 2 to 10. -/
theorem test_trust_example :
    [false, false, true, true, false, true, true, true, true].foldl
      (fun (r : Trust × Nat × Nat) b => moveTrust r.1 r.2.1 r.2.2 b) (.trusted, 0, 0) = (.trusted, 0, 0) ∧
    [false, false, true, true, false, true, true, true].foldl
      (fun (r : Trust × Nat × Nat) b => moveTrust r.1 r.2.1 r.2.2 b) (.trusted, 0, 0) = (.lost, 0, 3) := by decide

/-- Chapter 5, a supply slot turning faulty, samples s1 to s9. -/
theorem test_slot_example :
    [SlotState.good, .fault, .good, .fault, .fault, .fault].foldl SlotRec.sample ⟨.good, none⟩ = ⟨.fault, none⟩ ∧
    [SlotState.good, .fault, .good, .fault, .fault].foldl SlotRec.sample ⟨.good, none⟩
      = ⟨.good, some (.fault, 2)⟩ := by decide

/-! ## One step each -/

theorem test_linkUp : got (exec (.linkUp 0 2#8) (portIn .linkWait)) (fun t => (t.chassis.port 0).state)
    = some .online := by decide +kernel
theorem test_linkDown : got (exec (.linkDown 0) (portIn .online)) (fun t => (t.chassis.port 0).state)
    = some .linkWait := by decide +kernel
theorem test_portFault : got (exec (.portFault 0) (portIn .online)) (fun t => (t.chassis.port 0).state)
    = some .fault := by decide +kernel
theorem test_faultCleared : got (exec (.faultCleared 0) (portIn .fault)) (fun t => (t.chassis.port 0).state)
    = some .powerWait := by decide +kernel
theorem test_login_answer : got (exec (.login 0 5#24) (portIn .online)) (fun t => t.link.frame)
    = some (some (.loginAnswer 0 5#24 .accepted)) := by decide +kernel
theorem test_logout : got (exec (.logout 0 5#24) (portIn .online)) (fun t => t.chassis.logins) = some [] := by
  decide +kernel
theorem test_inserted : got (exec (.bladeEventInserted 1#8) (portIn .disabled)) (fun t => (t.chassis.port 32).state)
    = some .unseated := by decide +kernel
theorem test_removed : got (exec (.bladeEventRemoved 0#8) (portIn .online)) (fun t => (t.chassis.port 0).state)
    = some .absent := by decide +kernel
theorem test_query_overload :
    got (exec (.admissionQuery 3 0 0 0 0) { upS with link := { upS.link with queryCredits := 0 } })
      (fun t => t.link.frame) = some (some (.verdict ⟨3, .denyOverload, 0, none⟩)) := by decide +kernel
theorem test_query_evaluation :
    got (exec .queryEvaluation { portIn .disabled with queries := [⟨3, 0, 1, 2, .exchange⟩] })
      (fun t => t.link.frame) = some (some (.verdict ⟨3, .denyPort, 0, none⟩)) := by decide +kernel
theorem test_request_taken :
    got (exec (.managementRequest 1 2 7 [⟨0x73#8, []⟩]) upS) (fun t => (t.link.requestCredits, t.link.proc))
      = some (7, some ⟨1, .administrator, 7, true, [], [⟨0x73#8, []⟩], false, false⟩) := by decide +kernel
theorem test_training_starts_resync :
    got (exec .trainingComplete { upS with link := { Link.reset with state := .training } })
      (fun t => (t.link.queryCredits, t.link.requestCredits, t.link.frame))
      = some (64, 8, some (.permitFlush 0)) := by decide +kernel
theorem test_unknown_code :
    got (exec .unknownCommandCode { upS with link := { upS.link with
      proc := some { one .save [] with left := [⟨0x7F#8, []⟩] } } })
      (fun t => t.link.frame.map OutFrame.body)
      = some (some [0x00#8, 0x01#8, 0x00#8, 0x07#8, 0x00#8, 0x00#8, 0xE0#8, 0x01#8, 0x0B#8, 0x00#8, 0x00#8]) := by
  decide +kernel
theorem test_portEnable : got (exec .portEnable (asks .portEnable [0#8] (portIn .disabled)))
    (fun t => (t.chassis.port 0).state) = some .powerWait := by decide +kernel
theorem test_portDisable : got (exec .portDisable (asks .portDisable [0#8] (portIn .online)))
    (fun t => (t.chassis.port 0).state) = some .disabled := by decide +kernel
theorem test_editBegin : got (exec .editBegin (asks .editBegin [] upS))
    (fun t => (t.zone.owner, t.zone.claimDue)) = some (some 1, some 300000) := by decide +kernel
theorem test_zoneCreate :
    got (exec .zoneCreate (asks .zoneCreate [1#8, 0x42#8, 0#8, 0#8] (editing setA .idle upS)))
      (fun t => t.zone.edit.zones.map Zone.name) = some [nameB, nameA] := by decide +kernel
theorem test_memberAdd_duplicate :
    got (exec .memberAdd (asks .memberAdd [1#8, 0x41#8, 0#8, 0#8] (editing setA .idle upS)))
      (fun t => (t.zone.edit, t.link.frame)) =
      some (setA, some (.response ⟨1, 7, 0x0000E0#24, [⟨.refusedDuplicate, []⟩], false⟩)) := by decide +kernel
/-- R67, R68: one member needs 2 ms and one started 64. -/
theorem test_zoneCommit_validation_time :
    got (exec .zoneCommit (asks .zoneCommit [] (editing setA .idle upS))) (fun t => t.zone.commit)
      = some (.validating 3) := by decide +kernel
theorem test_validationEnd_swaps :
    got (exec .validationEnd (editing setA (.validating 3) upS)) (fun t => (t.zone.active, t.zone.generation))
      = some (setA, 1) := by decide +kernel
theorem test_licenceInstall :
    got (exec .licenceInstall (asks .licenceInstall
      [0#8, 9#8, 1#8, 0#8, 4#8, 3#8, 1#8, 2#8, 0#8, 100#8] upS)) (fun t => t.chassis.licences.map Licence.record)
      = some [⟨9, 4, .c3, [2], some ⟨100, 100, 168⟩, .active⟩] := by decide +kernel
/-- R179: check 2 comes before check 3, and the kind fixes the length: with too low a privilege, a Term licence without
hours and a Permanent one with them are out of range, and a Permanent one without them reaches the privilege. -/
theorem test_licenceInstall_form_before_privilege :
    [[0#8, 9#8, 1#8, 0#8, 4#8, 3#8, 0#8], [0#8, 9#8, 0#8, 0#8, 4#8, 3#8, 0#8, 0#8, 100#8],
      [0#8, 9#8, 0#8, 0#8, 4#8, 3#8, 0#8]].map (fun ps =>
        got (exec .licenceInstall { upS with link := { upS.link with
          proc := some { one .licenceInstall ps with privilege := .operator } } }) (fun t => t.link.frame)) =
      [.refusedRange, .refusedRange, .refusedPrivilege].map (fun st =>
        some (some (.response ⟨1, 7, 0x0000E0#24, [⟨st, []⟩], false⟩))) := by decide +kernel
theorem test_hourTick :
    got (exec .hourTick { withLicences [⟨⟨9, 4, .c3, [], some ⟨100, 100, 168⟩, .active⟩, [0]⟩] upS with
      hourSeconds := 3599 }) (fun t => t.chassis.licences.map (fun l => l.record.term))
      = some [some ⟨100, 99, 168⟩] := by decide +kernel
theorem test_channelSet :
    got (exec .channelSet (asks .channelSet [3#8, 0#8, 0x21#8, 1#8, 0xFF#8, 0xFE#8] upS))
      (fun t => t.cfg.channel 3) = some (ChanCfg.factory 3) := by decide +kernel
theorem test_round_begins :
    got (exec .settlingEnd upS) (fun t => (t.clockMs, t.env.conv)) = some (50, some (.reference, 60)) := by
  decide +kernel
theorem test_powerWait_raised :
    got (exec .waitTimerExpiry { upS with chassis := { upS.chassis with pwr := { upS.chassis.pwr with
      waitTimer := some 10000 } } }) (fun t => (t.clockMs, t.chassis.pwr.powerWait)) = some (10000, true) := by
  decide +kernel
theorem test_save_marks : got (exec .save (asks .save [] upS)) (fun t => t.store.settingsDirty) = some true := by
  decide +kernel
theorem test_write_completion :
    got (exec .writeCompletion upS) (fun t => (t.store.licences.isSome, t.store.writer.code))
      = some (true, 2) := by decide +kernel
theorem test_standby_low :
    got (exec .standbyLowEntry { upS with store := { upS.store with railLow := some 1 } })
      (fun t => (t.store.monitor, t.store.marker, t.chassis.alm.dip)) = some (.low, true, true) := by decide +kernel

/-! ## Witnesses: states and operands that meet the statements' hypotheses

Each is named for its statement. Where a clause has hypotheses of its own, a part of the witness meets them, at a
boundary of the range where there is one. -/

/-- The reset state below the retention level, as a part that leaves the factory. -/
def lostS : State := { State.reset with store := { State.reset.store with monitor := .lost } }

/-- The reset state under a held RESET line. -/
def heldS : State := { State.reset with resetHeld := true }

/-- A command of the processor of `asks` is served (R179). -/
theorem asks_serves {α : Type} (s : State) (cmd : Cmd) (ps : List Byte) (read : List Byte → Option α) (a : α)
    (hs : s.Runs) (h : read ps = some a) : (asks cmd ps s).Serves (one cmd ps) cmd read a :=
  ⟨ps, ⟨hs, rfl, rfl, rfl⟩, h, by show cmd.privilege.rank ≤ 2; cases cmd <;> decide⟩

/-- `upS` takes events. -/
theorem upS_runs : upS.Runs := ⟨by decide, rfl⟩

/-- `portIn` takes events. -/
theorem portIn_runs (st : PortState) : (portIn st).Runs := ⟨(by decide : Monitor.normal ≠ .lost), rfl⟩

/-- The reset state takes events. -/
theorem reset_runs : State.reset.Runs := ⟨by decide, rfl⟩

theorem witness_StepTakesFrontCommandOrIdles :
    ({ State.reset with pending := [.lineActivity] } : State).pending = .lineActivity :: [] ∧
    (State.reset.pending = [] ∧ State.reset.Runs) ∧ (lostS.pending = [] ∧ ¬ lostS.Runs) :=
  ⟨rfl, ⟨rfl, reset_runs⟩, rfl, fun h => h.1 rfl⟩

theorem witness_StoppedOrHeldPartTakesNoEvent :
    (lostS.store.monitor = .lost ∧ actsInLost .lineActivity = false) ∧
    (heldS.resetHeld = true ∧ actsInHold .lineActivity = false) ∧ ¬ lostS.Runs :=
  ⟨⟨rfl, rfl⟩, ⟨rfl, rfl⟩, fun h => h.1 rfl⟩

theorem witness_FactoryColdStartGivesReset :
    lostS.store.monitor = .lost ∧ lostS.store.settings = none ∧ lostS.store.zones = none ∧
    lostS.store.licences = none ∧ lostS.store.marker = false ∧ lostS.trayPresent = Vector.replicate 8 false ∧
    lostS.resetHeld = false := ⟨rfl, rfl, rfl, rfl, rfl, rfl, rfl⟩

theorem witness_ColdStartTakesStoredValues :
    let u : State := { lostS with clockMs := 5, seconds := 7, link := upS.link }
    lostS.store.monitor = .lost ∧ u.store.monitor = .lost ∧ lostS.store.settings = u.store.settings ∧
    lostS.store.zones = u.store.zones ∧ lostS.store.licences = u.store.licences ∧
    lostS.store.marker = u.store.marker ∧ lostS.trayPresent = u.trayPresent ∧ lostS.resetHeld = u.resetHeld ∧
    lostS.pending = u.pending ∧ lostS.clockMs ≠ u.clockMs :=
  ⟨rfl, rfl, rfl, rfl, rfl, rfl, rfl, rfl, rfl, by decide⟩

theorem witness_ResetLineRestartsAndHolds :
    State.reset.Runs ∧
    (∃ e ∈ State.reset.chassis.alm.entries, latchedKind e.kind = true ∧ e.kind ≠ .storeFault ∧ e.kind ≠ .fanTrayFailed) ∧
    (heldS.store.monitor ≠ .lost ∧ heldS.resetHeld = true) ∧
    (∀ t : TrayId, heldS.trayPresent[t.val] = true ↔ (heldS.fan.tray t).state ≠ .absent) :=
  ⟨reset_runs, ⟨⟨.supplyDip, 0, .clearedUnack, 0, some 2000⟩, by decide, by decide, by decide, by decide⟩,
    ⟨by decide, rfl⟩, by decide +kernel⟩

theorem witness_FrameNotTakenHasNoEffect :
    (State.reset.Runs ∧ (Instr.linkUp 0 4#8).frame?.isSome = true ∧ State.reset.link.state ≠ .up) ∧
    (upS.Runs ∧ (Instr.linkUp 0 5#8).frame?.isSome = true ∧ Instr.wf (.linkUp 0 5#8) = false) :=
  ⟨⟨reset_runs, rfl, by decide⟩, upS_runs, rfl, rfl⟩

theorem witness_QueryTakesCreditOrOverload :
    let with63 (n : Nat) : State := { upS with link := { upS.link with
      queryCredits := 0, answers := List.replicate n (.login 0 0 .accepted) } }
    (upS.Runs ∧ upS.link.state = .up ∧ (1#8 : Byte).toNat ≤ 1 ∧ 0 < upS.link.queryCredits) ∧
    ((with63 63).Runs ∧ (with63 63).link.queryCredits = 0 ∧ (with63 63).link.answers.length < 64) ∧
    ((with63 64).Runs ∧ (with63 64).link.queryCredits = 0 ∧ 64 ≤ (with63 64).link.answers.length) :=
  ⟨⟨upS_runs, rfl, by decide, by decide⟩, ⟨⟨by decide, rfl⟩, rfl, by decide⟩, ⟨by decide, rfl⟩, rfl, by decide⟩

/-- `portIn` with logins and one query. -/
def asked (st : PortState) (ls : List LoginEntry) (q : Query) (z : ZoneSet) : State :=
  let s := portIn st
  { s with chassis := { s.chassis with logins := ls }, queries := [q], zone := { s.zone with active := z } }

theorem witness_QueryAnsweredBySixSteps :
    let two : List LoginEntry := [⟨1, 0⟩, ⟨2, 0⟩]
    let q : Query := ⟨9, 0, 1, 2, .exchange⟩
    let f : Query := ⟨9, 0, 1, 0xFF, .fabricService⟩
    let far : Query := ⟨9, 0, 1, 0x100, .fabricService⟩
    let zs : ZoneSet := ⟨nameA, .none, [⟨nameA, [.port 5]⟩, ⟨nameB, [.range 1 2]⟩]⟩
    (upS.Runs ∧ upS.queries = []) ∧
    ((asked .online two q setA).Runs ∧ (asked .online two q setA).chassis.LoginsOk ∧
      (asked .online two q setA).queries = q :: []) ∧
    ¬ ((asked .linkWait two q setA).chassis.port 0).state = .online ∧
    (((asked (.draining .disabled 5) two f setA).chassis.port 0).state.isDraining = true ∧ f.Fabric) ∧
    (¬ far.Fabric ∧ ¬ q.Fabric ∧ ((asked .online two q setA).chassis.port 0).state = .online) ∧
    ¬ (asked .online [⟨2, 0⟩] q setA).chassis.LoggedIn 1 0 ∧
    ((asked .online [⟨1, 0⟩, ⟨2, 3⟩] q setA).chassis.LoggedIn 2 3 ∧
      ((asked .online [⟨1, 0⟩, ⟨2, 3⟩] q setA).chassis.port 3).state ≠ .online) ∧
    (∀ p, (asked .online two q setA).chassis.LoggedIn 2 p →
      ((asked .online two q setA).chassis.port p).state = .online) ∧
    (¬ (⟨nameA, [.port 5]⟩ : Zone).Admits (asked .online two q zs).chassis 1 2 ∧
      (⟨nameB, [.range 1 2]⟩ : Zone).Admits (asked .online two q zs).chassis 1 2) := by
  refine ⟨⟨upS_runs, rfl⟩, ⟨⟨by decide, rfl⟩, ?_, rfl⟩, ?_, ⟨?_, ⟨rfl, by decide⟩⟩, ⟨?_, ?_, ?_⟩, ?_, ⟨?_, ?_⟩, ?_, ?_, ?_⟩
  · unfold Chassis.LoginsOk; decide +kernel
  · decide +kernel
  · decide +kernel
  · exact fun h => absurd h.2 (by decide)
  · exact fun h => absurd h.1 (by decide)
  · decide +kernel
  · unfold Chassis.LoggedIn; decide +kernel
  · unfold Chassis.LoggedIn; decide +kernel
  · decide +kernel
  · unfold Chassis.LoggedIn; decide +kernel
  · rintro ⟨⟨m, hm, h⟩, -⟩
    have : m = .port 5 := by simpa using hm
    subst this
    have h2 : (⟨1, 5⟩ : LoginEntry) ∈ ([⟨1, 0⟩, ⟨2, 0⟩] : List LoginEntry) := h
    exact absurd h2 (by decide)
  · exact ⟨⟨.range 1 2, by decide, by decide, by decide⟩, ⟨.range 1 2, by decide, by decide, by decide⟩⟩

/-- `portIn .online` with `n` logins on port 0 and `m` spread over other ports, 16 each. -/
def crowd (n m : Nat) : State :=
  let s := portIn .online
  { s with chassis := { s.chassis with
      logins := (List.range n).map (fun i => ⟨BitVec.ofNat 24 i, 0⟩)
        ++ (List.range m).map (fun i => ⟨BitVec.ofNat 24 (i + 4096), Fin.ofNat 256 (i / 16 + 1)⟩) } }

theorem witness_LoginAndLogoutChangeTable :
    (upS.Runs ∧ upS.link.state = .up ∧ upS.chassis.LoginsOk ∧ ¬ (upS.chassis.port 0).state = .online) ∧
    ((crowd 16 1).Runs ∧ (crowd 16 1).chassis.LoginsOk ∧ ((crowd 16 1).chassis.port 0).state = .online ∧
      (crowd 16 1).chassis.LoggedIn 15 0 ∧ (crowd 16 1).chassis.LoggedIn 4096 1 ∧
      16 ≤ (crowd 16 1).chassis.loginCount 0 ∧ (∀ q, ¬ (crowd 16 1).chassis.LoggedIn 99 q)) ∧
    ((crowd 15 1).chassis.LoginsOk ∧ ((crowd 15 1).chassis.port 0).state = .online ∧
      (crowd 15 1).chassis.LoggedIn 4096 1 ∧ (crowd 15 1).chassis.loginCount 0 < 16 ∧
      (∀ q, ¬ (crowd 15 1).chassis.LoggedIn 99 q)) := by
  refine ⟨⟨upS_runs, rfl, ?_, by decide +kernel⟩, ⟨⟨by decide, rfl⟩, ?_, by decide +kernel, ?_, ?_, by decide +kernel, ?_⟩,
    ?_, by decide +kernel, ?_, by decide +kernel, ?_⟩ <;> (try unfold Chassis.LoginsOk) <;>
    (try unfold Chassis.LoggedIn) <;> decide +kernel

theorem witness_LoginAndLogoutChangeTable_full :
    (crowd 0 1024).chassis.LoginsOk ∧ ((crowd 0 1024).chassis.port 0).state = .online ∧
    (∀ q, ¬ (crowd 0 1024).chassis.LoggedIn 99 q) ∧ 1024 ≤ (crowd 0 1024).chassis.logins.length := by
  have hl : (crowd 0 1024).chassis.logins
      = (List.range 1024).map (fun i => ⟨BitVec.ofNat 24 (i + 4096), Fin.ofNat 256 (i / 16 + 1)⟩) := by
    simp [crowd]
  refine ⟨⟨?_, ?_, ?_⟩, by decide +kernel, ?_, ?_⟩
  · rw [hl, List.map_map]
    refine List.Nodup.map_on ?_ List.nodup_range
    intro a ha b hb h
    have h2 := congrArg BitVec.toNat h
    simp only [Function.comp, BitVec.toNat_ofNat] at h2
    have := List.mem_range.1 ha
    have := List.mem_range.1 hb
    omega
  · rw [hl]; simp [Config.loginCap]
  · intro p
    unfold Chassis.loginCount
    rw [hl, List.filter_map, List.length_map]
    have hsub : (List.range 1024).filter
        ((fun e : LoginEntry => e.port == p) ∘ fun i => ⟨BitVec.ofNat 24 (i + 4096), Fin.ofNat 256 (i / 16 + 1)⟩)
        ⊆ List.range' (16 * (p.val - 1)) 16 := by
      intro i hi
      simp only [List.mem_filter, List.mem_range, Function.comp, beq_iff_eq] at hi
      have := congrArg Fin.val hi.2
      simp only [Fin.ofNat] at this
      simp only [List.mem_range'_1]
      omega
    simpa [Config.loginPortCap] using (List.subperm_of_subset (List.nodup_range.filter _) hsub).length_le
  · intro q h
    unfold Chassis.LoggedIn at h
    rw [hl] at h
    obtain ⟨i, hi, he⟩ := List.mem_map.1 h
    have h2 := congrArg (fun e : LoginEntry => e.addr.toNat) he
    simp at h2
    have := List.mem_range.1 hi
    omega
  · rw [hl]; simp

theorem witness_LinkUpAndDownMovePort (st : PortState) :
    (portIn st).Runs ∧ (portIn st).link.state = .up ∧ (4#8 : Byte).toNat = RateClass.num .c4 :=
  ⟨portIn_runs st, rfl, rfl⟩

theorem witness_FaultStopsPortUntilCleared :
    ((portIn .online).Runs ∧ (portIn .online).link.state = .up ∧ (portIn .online).PortsOk ∧
      ((portIn .online).chassis.port 0).state = .online) ∧
    ((portIn .linkWait).PortsOk ∧ ((portIn .linkWait).chassis.port 0).state = .linkWait) ∧
    ((portIn .shed).chassis.port 0).state.runs = false ∧
    ((portIn .fault).PortsOk ∧ ((portIn .fault).chassis.port 0).state = .fault) ∧
    ((portIn .online).chassis.port 0).state ≠ .fault :=
  ⟨⟨portIn_runs _, rfl, portIn_ok _ (by decide), by decide +kernel⟩, ⟨portIn_ok _ (by decide), by decide +kernel⟩,
    by decide +kernel, ⟨portIn_ok _ (by decide), by decide +kernel⟩, by decide +kernel⟩

theorem witness_BladeInsertedBringsPortsUp :
    (portIn .online).Runs ∧ (portIn .online).link.state = .up ∧ (portIn .online).PortsOk ∧
    (portIn .online).chassis.blade 0 = true ∧ (portIn .online).chassis.blade 7 = false :=
  ⟨portIn_runs _, rfl, portIn_ok _ (by decide), by decide +kernel, by decide +kernel⟩

theorem witness_BladeRemovedResetsPorts :
    (portIn .online).Runs ∧ (portIn .online).link.state = .up ∧ (portIn .online).chassis.blade 0 = true ∧
    (portIn .online).chassis.blade 7 = false ∧ ((portIn .online).chassis.port 0).control ≠ .disable :=
  ⟨portIn_runs _, rfl, by decide +kernel, by decide +kernel, by decide +kernel⟩

theorem witness_DrainEndStopsPort (t : DrainTarget) :
    (portIn (.draining t 9)).Runs ∧ (portIn (.draining t 9)).PortsOk ∧
    ((portIn (.draining t 9)).chassis.port 0).state = .draining t 9 ∧ (portIn (.draining t 9)).link.state = .up ∧
    ((portIn .online).chassis.port 0).state.isDraining = false :=
  ⟨portIn_runs _, portIn_ok _ (by intro h; cases h), by rw [portIn_port]; rfl, rfl, by decide +kernel⟩

theorem witness_RequestQueuedOrAnsweredBusy :
    let none0 : State := { upS with link := { upS.link with requestCredits := 0 } }
    let reply : State := { upS with link := { upS.link with
      requestCredits := 0, overload := some ⟨1, 1, 0, [], false⟩ } }
    let cs (n : Nat) : List CmdEntry := List.replicate n ⟨0x73#8, []⟩
    (upS.Runs ∧ upS.link.state = .up ∧ (1#16 : Word16) ≠ 0#16 ∧ Privilege.ofByte? 0#8 = some .observer ∧
      1 ≤ (cs 1).length ∧ (cs 16).length ≤ 16 ∧ (∀ e ∈ cs 16, e.params.length ≤ 255)) ∧
    (0 < upS.link.requestCredits ∧ upS.link.proc = none ∧ upS.link.waiting = []) ∧
    (0 < (asks .save [] upS).link.requestCredits ∧ (asks .save [] upS).link.proc.isSome = true) ∧
    (none0.link.requestCredits = 0 ∧ none0.link.overload = none) ∧
    (reply.link.requestCredits = 0 ∧ reply.link.overload.isSome = true) :=
  ⟨⟨upS_runs, rfl, by decide, rfl, by decide, by decide, by decide⟩, ⟨by decide, rfl, rfl⟩, ⟨by decide, rfl⟩,
    ⟨rfl, rfl⟩, rfl, rfl⟩

theorem witness_LinkTrainsAndStartsResync (st : LinkState) :
    let s : State := { upS with link := { upS.link with state := st } }
    s.Runs ∧ s.link.state = st := ⟨upS_runs, rfl⟩

/-- `upS` with a frame being sent. -/
def sending (f : OutFrame) : State := { upS with link := { upS.link with frame := some f } }

/-- While a frame is sent, a link over `upS` is at rest. -/
theorem sending_rests (l : Link) (f : OutFrame) (hf : l.frame = some f) (hd : l.resyncDone = false) :
    ({ upS with link := l } : State).AtRest :=
  fun _ => ⟨fun _ _ h => absurd (hf.symm.trans h) (by simp), ⟨fun h => (by cases h), fun h => (by cases h)⟩,
    ⟨fun h => (by cases h), fun h => absurd h (by show ¬ ∃ p, (upS.chassis.port p).binding.isGrace = true; decide +kernel)⟩,
    fun h => absurd (hd.symm.trans h) (by decide), by
      show upS.LinesAgree
      simp only [State.LinesAgree, ← Alm.lineDriven_iff]
      decide +kernel⟩

/-- A response whose list holds a Restart. -/
def restartReply : Response := ⟨1, 7, 0x0000E0#24, [⟨.started, []⟩], true⟩

theorem witness_LossOfSyncEmptiesLink :
    (upS.Runs ∧ upS.link.state = .up ∧ upS.link.losesRestart = false ∧
      ∀ p, (upS.chassis.port p).state.isDraining = false) ∧
    ((portIn (.draining .unseated 9)).link.losesRestart = false ∧ (portIn (.draining .unseated 9)).PortsOk) ∧
    ((sending (.response restartReply)).Runs ∧ (sending (.response restartReply)).link.losesRestart = true) :=
  ⟨⟨upS_runs, rfl, by decide +kernel, by decide +kernel⟩, ⟨by decide +kernel, portIn_ok _ (by decide)⟩, ⟨by decide, rfl⟩,
    by decide +kernel⟩

theorem witness_FrameEndStartsNextFrame :
    let v : Verdict := ⟨3, .denyPort, 0, none⟩
    let f : OutFrame := .permitFlush 0
    let s : State := sending f
    let s1 : State := { s with link := { s.link with verdicts := [.verdict v] } }
    let s2 : State := { s with link := { s.link with responses := [⟨1, 7, 0, [], false⟩] } }
    let at_ (n : Nat) : State := { s with link := { s.link with resync := some n } }
    (s1.Runs ∧ s1.AtRest ∧ s1.link.state = .up ∧ s1.link.resync = none ∧ s1.link.frame = some f ∧
      f.restarts = false ∧ s1.link.verdicts = .verdict v :: []) ∧
    (s2.AtRest ∧ s2.link.verdicts = [] ∧ s2.link.answers = [] ∧ s2.chassis.slots = [] ∧
      s2.link.responses = ⟨1, 7, 0, [], false⟩ :: []) ∧
    ((at_ 0).Runs ∧ (at_ 0).link.frame = some f ∧ (at_ 0).link.resync = some (0 : PortId).val ∧
      (at_ 255).link.resync = some (255 : PortId).val ∧ (at_ 256).link.resync = some 256) ∧
    upS.link.frame = none := by
  exact ⟨⟨upS_runs, sending_rests _ (.permitFlush 0) rfl rfl, rfl, rfl, rfl, rfl, rfl⟩, ⟨sending_rests _ (.permitFlush 0) rfl rfl, rfl, rfl, rfl, rfl⟩,
    ⟨upS_runs, rfl, rfl, rfl, rfl⟩, rfl⟩

theorem witness_RestartActsAfterResponse :
    (sending (.response restartReply)).Runs ∧
    (sending (.response restartReply)).link.frame = some (.response restartReply) ∧ restartReply.restart = true :=
  ⟨⟨by decide, rfl⟩, rfl, rfl⟩

/-- `upS` with a processor. -/
def atProc (pr : Proc) : State := { upS with link := { upS.link with proc := some pr } }

theorem witness_ChecksRefuseCommand :
    let low : Proc := { one .save [] with privilege := .operator }
    let odd : Proc := { one .save [] with left := [⟨0x7F#8, []⟩] }
    ((atProc odd).Next odd ⟨0x7F#8, []⟩ ∧ Cmd.ofCode? 0x7F#8 = none ∧ (0x7F#8 : Byte) ≠ Cmd.code .save) ∧
    ((atProc low).Next low ⟨Cmd.code .save, []⟩ ∧ (Cmd.ofCode? (Cmd.code .save)).isSome = true ∧
      Cmd.formOk [] .save = true ∧ low.privilege.rank < (Cmd.privilege .save).rank) ∧
    ((asks .save [0#8] upS).Next (one .save [0#8]) ⟨Cmd.code .save, [0#8]⟩ ∧ Cmd.formOk [0#8] .save = false) ∧
    (upS.Runs ∧ upS.link.proc = none) ∧
    ((atProc { one .save [] with holding := true }).link.proc = some { one .save [] with holding := true }) ∧
    (atProc { one .save [] with left := [] }).link.proc = some { one .save [] with left := [] } :=
  ⟨⟨⟨⟨by decide, rfl⟩, rfl, rfl, rfl⟩, rfl, by decide⟩, ⟨⟨⟨by decide, rfl⟩, rfl, rfl, rfl⟩, rfl, rfl, by decide⟩,
    ⟨⟨⟨by decide, rfl⟩, rfl, rfl, rfl⟩, rfl⟩, ⟨upS_runs, rfl⟩, rfl, rfl⟩

theorem witness_ResultRecordedOrListEnds :
    let two : Proc := { one .save [] with left := [⟨0x71#8, []⟩, ⟨0x71#8, []⟩] }
    let gone : Proc := { one .save [] with live := false }
    let goneRestart : Proc := { gone with restart := true }
    ((atProc two).link.proc = some two ∧ two.left ≠ [] ∧ Status.goesOn .done = true ∧ two.goesOn) ∧
    ((atProc (one .save [])).link.proc = some (one .save []) ∧ (one .save []).left ≠ [] ∧ ¬ (one .save []).goesOn ∧
      Status.goesOn .busy = false ∧ (one .save []).live = true ∧
      ∀ e ∈ (one .save []).results ++ ⟨.done, []⟩ :: (one .save []).unreached, e.status ≠ .armed) ∧
    (gone.live = false ∧ gone.restart = false) ∧ (goneRestart.live = false ∧ goneRestart.restart = true) :=
  ⟨⟨rfl, by decide, rfl, by unfold Proc.goesOn; decide⟩,
    ⟨rfl, by decide, by unfold Proc.goesOn; decide, rfl, rfl, by decide⟩, ⟨rfl, rfl⟩, rfl, rfl⟩

theorem witness_ListEndDecidesArmedCommit :
    let pr (st : Status) : Proc := { one .save [] with results := [⟨st, []⟩, ⟨.armed, []⟩] }
    let s (o : Option Word16) (st : Status) : State :=
      { atProc (pr st) with zone := { upS.zone with owner := o, edit := setA, commit := .armed } }
    let r : Result := ⟨.done, []⟩
    (∀ o st, (s o st).link.proc = some (pr st) ∧ (pr st).left ≠ [] ∧ (pr st).live = true ∧ ¬ (pr st).goesOn ∧
      ∃ e ∈ (pr st).results ++ r :: (pr st).unreached, e.status = .armed) ∧
    ((∀ e ∈ (pr .done).results ++ r :: (pr .done).unreached, e.status = .done ∨ e.status = .armed) ∧
      (s (some 1) .done).zone.owner = some (pr .done).origin) ∧
    ((∃ e ∈ (pr .started).results ++ r :: (pr .started).unreached, e.status ≠ .done ∧ e.status ≠ .armed) ∧
      (s (some 1) .started).zone.owner = some (pr .started).origin) ∧
    ¬ (s none .done).zone.owner = some (pr .done).origin :=
  ⟨fun _ _ => ⟨rfl, by simp [one], rfl, by simp [Proc.goesOn, one], ⟨.armed, []⟩, by simp, rfl⟩,
    ⟨by decide, rfl⟩, ⟨⟨⟨.started, []⟩, by decide, by decide, by decide⟩, rfl⟩, by decide⟩

theorem witness_ReadsAnswerAndChangeNothing :
    (asks .portRead [255#8] upS).Serves (one .portRead [255#8]) .portRead readPort 255 ∧
    (asks .loginRead [1#8, 0#8, 0#8, 5#8] upS).Serves (one .loginRead [1#8, 0#8, 0#8, 5#8]) .loginRead readLoginRead
      (.byAddr 5#24) ∧
    (asks .zoneRead [0#8] upS).Serves (one .zoneRead [0#8]) .zoneRead readZoneRead .summary ∧
    (asks .licenceRead [0#8] upS).Serves (one .licenceRead [0#8]) .licenceRead readLicenceRead .summary ∧
    (∀ cmd ∈ [Cmd.environmentRead, .coolingRead, .powerRead, .alarmRead, .identityRead],
      (asks cmd [] upS).Serves (one cmd []) cmd readUnit ()) ∧
    ((crowd 2 0).chassis.LoginsOk ∧
      (crowd 2 0).chassis.logins = [⟨0#24, 0⟩] ++ ⟨1#24, 0⟩ :: [] ∧
      ∀ p, ¬ (crowd 2 0).chassis.LoggedIn 99 p) := by
  refine ⟨asks_serves _ _ _ _ _ upS_runs rfl, asks_serves _ _ _ _ _ upS_runs rfl, asks_serves _ _ _ _ _ upS_runs rfl,
    asks_serves _ _ _ _ _ upS_runs rfl, fun _ _ => asks_serves _ _ _ _ _ upS_runs rfl, ?_, by decide +kernel, ?_⟩
  · unfold Chassis.LoginsOk; decide +kernel
  · unfold Chassis.LoggedIn; decide +kernel

theorem witness_PortEnableRaisesPort (st : PortState) :
    (asks .portEnable [0#8] (portIn st)).Serves (one .portEnable [0#8]) .portEnable readPort 0 ∧
    ((asks .portEnable [0#8] (portIn st)).chassis.port 0).state = st :=
  ⟨asks_serves _ _ _ _ _ (portIn_runs st) rfl, by
    show ((portIn st).chassis.port 0).state = st
    rw [portIn_port]
    cases st <;> rfl⟩

theorem witness_SeatRequestBindsOrWaits :
    let x := upS.ctx
    let c := (portIn .disabled).chassis
    let l := lic 3 .c4 none .active
    let d : Chassis := { c with licences := [l] }
    (∀ p : PortId, p.val ≤ 1 → (c.port p).granted = none ∧ ∀ e ∈ c.pwr.waitList, e.port ≠ p) ∧
    d.seatChoice x 0 = some l.record ∧ (c.seatChoice x 0 = none ∧ 0 < c.graceOf 0) ∧
    (c.seatChoice x 1 = none ∧ c.graceOf 1 = 0) := by
  refine ⟨fun p hp => ⟨?_, ?_⟩, by decide +kernel, ⟨by decide +kernel, by decide +kernel⟩, by decide +kernel, by decide +kernel⟩
  · rw [portIn_port]
    unfold rowsOf
    split
    · rfl
    · split <;> rfl
  · intro e he
    exact absurd he (by simp [portIn, PortState.waitKind])

theorem witness_PortDisableStopsPort (st : PortState) (h : st ≠ .absent) :
    (asks .portDisable [0#8] (portIn st)).Serves (one .portDisable [0#8]) .portDisable readPort 0 ∧
    (asks .portDisable [0#8] (portIn st)).PortsOk ∧
    ((asks .portDisable [0#8] (portIn st)).chassis.port 0).state = st ∧
    0 < ((portIn st).cfg.port 0).drainSecs ∧ (portIn st).chassis.loginCount 0 = 0 ∧ 0 < (crowd 1 0).chassis.loginCount 0 :=
  ⟨asks_serves _ _ _ _ _ (portIn_runs st) rfl, portIn_ok st h, (witness_PortEnableRaisesPort st).2,
    by show 0 < (Settings.factory.port 0).drainSecs; decide +kernel, rfl, by decide +kernel⟩

theorem witness_PortSetBringsGrantDown :
    let old := Settings.factory.port 0
    let form (c p : Option Nat) : PortSetForm := ⟨0, c, p, none, none⟩
    (asks .portSet [0#8, 3#8, 3#8, 7#8] (portIn .online)).Serves (one .portSet [0#8, 3#8, 3#8, 7#8]) .portSet readPortSet
      (form (some 3) (some 7)) ∧
    (form (some 5) none).apply old = none ∧
    (form none (some 3)).apply old = some old ∧
    (form none (some 7)).apply old = some { old with priority := 7 } ∧
    (form (some 3) none).apply old = some { old with reqClass := .c3 } ∧
    (effective .c3 (some .c4) = some .c3 ∧ RateClass.num .c3 < RateClass.num .c4) ∧
    (((portIn .online).chassis.port 0).granted = some .c4 ∧ ((portIn .online).chassis.port 0).seatCeil = some .c4 ∧
      ((portIn .online).chassis.port 0).state = .online) ∧
    ((portIn (.draining .disabled 9)).chassis.port 0).granted = some .c4 ∧
    ((portIn .powerWait).chassis.port 0).granted = none :=
  ⟨asks_serves _ _ _ _ _ (portIn_runs _) rfl, by decide +kernel, by decide +kernel, by decide +kernel, by decide +kernel,
    ⟨rfl, by decide⟩, ⟨by decide +kernel, by decide +kernel, by decide +kernel⟩, by decide +kernel, by decide +kernel⟩

theorem witness_EditClaimTakenAndGivenUp :
    let s (o : Option Word16) (c : Commit) : State := { upS with zone := { upS.zone with owner := o, commit := c } }
    (∀ o c, (asks .editBegin [] (s o c)).Serves (one .editBegin []) .editBegin readUnit () ∧
      (asks .editBegin [] (s o c)).zone.owner = o ∧ (asks .editBegin [] (s o c)).zone.commit = c) ∧
    (∀ o c, (asks .editAbort [] (s o c)).Serves (one .editAbort []) .editAbort readUnit ()) ∧
    (asks .editAbort [] (s (some 1) .idle)).MayEdit (one .editAbort []).origin ∧
    (let t : State := { upS with zone := { upS.zone with owner := some 2#16, claimDue := some 5 } }
     t.Runs ∧ t.zone.claimDue = some 5 ∧ t.zone.owner = some 2#16) ∧ upS.zone.claimDue = none :=
  ⟨fun _ _ => ⟨asks_serves _ _ _ _ _ upS_runs rfl, rfl, rfl⟩, fun _ _ => asks_serves _ _ _ _ _ upS_runs rfl,
    ⟨rfl, fun _ h => (by cases h)⟩, ⟨upS_runs, rfl, rfl⟩, rfl⟩

/-- The holder of the claim serves an edit command on a set. -/
theorem editing_may (e : ZoneSet) (cmd : Cmd) (ps : List Byte) :
    (asks cmd ps (editing e .idle upS)).MayEdit (one cmd ps).origin := ⟨rfl, fun _ h => (by cases h)⟩

/-- A set of `n` zones of one name. -/
def manyZones (n : Nat) : ZoneSet := ⟨nameA, .none, List.replicate n ⟨nameB, []⟩⟩

theorem witness_EditCommandsChangeZones :
    let s (e : ZoneSet) (cmd : Cmd) (ps : List Byte) : State := asks cmd ps (editing e .idle upS)
    let long : List Byte := List.replicate 33 0x41#8
    ((asks .zoneDelete [1#8, 0x41#8] upS).Next (one .zoneDelete [1#8, 0x41#8]) ⟨Cmd.code .zoneDelete, [1#8, 0x41#8]⟩ ∧
      Cmd.formOk [1#8, 0x41#8] .zoneDelete = true ∧ upS.zone.owner ≠ some 1#16) ∧
    (asks .zoneDelete [1#8, 0x41#8] (editing setA (.validating 3) upS)).zone.commit = .validating 3 ∧
    (∀ e cmd ps, (s e cmd ps).MayEdit (one cmd ps).origin) ∧
    (∀ e, (s e .setRename [1#8, 0x42#8]).Serves (one .setRename [1#8, 0x42#8]) .setRename readName nameB ∧
      (s e .defaultAccessSet [1#8]).Serves (one .defaultAccessSet [1#8]) .defaultAccessSet (readNat 1) 1 ∧
      (s e .zoneCreate [1#8, 0x42#8, 0#8, 1#8]).Serves (one .zoneCreate [1#8, 0x42#8, 0#8, 1#8]) .zoneCreate
        readZoneCreate ⟨nameB, some 1⟩ ∧
      (s e .zoneDelete [1#8, 0x41#8]).Serves (one .zoneDelete [1#8, 0x41#8]) .zoneDelete readName nameA ∧
      (s e .zoneRename [1#8, 0x41#8, 1#8, 0x42#8]).Serves (one .zoneRename [1#8, 0x41#8, 1#8, 0x42#8]) .zoneRename
        readZoneRename ⟨nameA, nameB⟩) ∧
    (nameOk nameA = true ∧ nameOk nameB = true ∧ nameOk [] = false ∧ nameOk (List.replicate 32 0x41#8) = true ∧
      nameOk long = false) ∧
    (setA.zones.length < 2 ∧ 1 ≤ setA.zones.length ∧ setA.zones.length < 512 ∧ 512 ≤ (manyZones 512).zones.length ∧
      (manyZones 511).zones.length < 512) ∧
    ((∃ z ∈ setA.zones, z.name = nameA) ∧ ¬ ∃ z ∈ setA.zones, z.name = nameB) :=
  ⟨⟨⟨upS_runs, rfl, rfl, rfl⟩, rfl, by decide⟩, rfl, editing_may,
    fun _ => ⟨asks_serves _ _ _ _ _ upS_runs rfl, asks_serves _ _ _ _ _ upS_runs rfl, asks_serves _ _ _ _ _ upS_runs rfl,
      asks_serves _ _ _ _ _ upS_runs rfl, asks_serves _ _ _ _ _ upS_runs rfl⟩,
    ⟨by decide, by decide, by decide, by decide, by decide⟩,
    ⟨by decide, by decide, by decide, by decide +kernel, by decide +kernel⟩, by decide, by decide⟩

/-- A zone of the first `n` ports. -/
def portsZone (name : List Byte) (n : Nat) : Zone := ⟨name, (List.finRange 256).take n |>.map .port⟩

/-- A full set: 16 zones of 256 members, named "A" to "P". -/
def fullSet : ZoneSet := ⟨nameA, .none, (List.range 16).map (fun i => portsZone [BitVec.ofNat 8 (0x41 + i)] 256)⟩

theorem witness_MemberCommandsChangeZone :
    let ps : List Byte := [1#8, 0x41#8, 0#8, 255#8]
    let f : MemberForm := ⟨nameA, .port 255⟩
    let s (e : ZoneSet) (cmd : Cmd) : State := asks cmd ps (editing e .idle upS)
    (∀ e, (s e .memberAdd).MayEdit (one .memberAdd ps).origin ∧
      (s e .memberAdd).Serves (one .memberAdd ps) .memberAdd readMember f ∧
      (s e .memberRemove).Serves (one .memberRemove ps) .memberRemove readMember f) ∧
    (nameOk f.zone = true ∧ f.member.ok = true ∧ (Member.range 6 5).ok = false ∧ (Member.range 5 5).ok = true) ∧
    (setA.Ok ∧ setA.total < 4096 ∧ f.member ∉ (⟨nameA, [.port 0]⟩ : Zone).members ∧
      (⟨nameA, [.port 0]⟩ : Zone).members.length < 256) ∧
    (let e : ZoneSet := ⟨nameA, .none, [portsZone nameA 256]⟩
     e.Ok ∧ 256 ≤ (portsZone nameA 256).members.length ∧ f.member ∈ (portsZone nameA 256).members) ∧
    (let e : ZoneSet := ⟨nameA, .none, [portsZone nameA 255]⟩
     e.Ok ∧ (portsZone nameA 255).members.length < 256 ∧ f.member ∉ (portsZone nameA 255).members) ∧
    (fullSet.Ok ∧ 4096 ≤ fullSet.total) ∧ (setA.Ok ∧ ∀ z ∈ setA.zones, z.name ≠ nameB) := by
  have hz (name : List Byte) (hn : nameOk name = true) (n : Nat) (h : n ≤ 256) : (portsZone name n).Ok := by
    refine ⟨hn, ?_, ?_, ?_⟩
    · exact ((List.nodup_finRange 256).sublist (List.take_sublist _ _)).map (fun a b h => Member.port.inj h)
    · simp [portsZone, Config.zoneMemberCap]
    · intro m hm
      obtain ⟨p, -, rfl⟩ := List.mem_map.1 hm
      rfl
  have hone (n : Nat) (h : n ≤ 256) : (⟨nameA, .none, [portsZone nameA n]⟩ : ZoneSet).Ok := by
    refine ⟨(by decide : nameOk nameA = true), (by decide : 1 ≤ Config.zoneCap), by simp, ?_, ?_⟩
    · simp only [ZoneSet.total, portsZone, List.map_cons, List.map_nil, List.length_map, List.length_take,
        List.length_finRange, Config.setMemberCap, List.sum_cons, List.sum_nil]
      omega
    · intro z hm
      rw [List.mem_singleton.1 hm]
      exact hz nameA (by decide) n h
  have hA : setA.Ok := by
    unfold ZoneSet.Ok Zone.Ok
    decide +kernel
  refine ⟨fun e => ⟨editing_may _ _ _, asks_serves _ _ _ _ _ upS_runs rfl, asks_serves _ _ _ _ _ upS_runs rfl⟩,
    ⟨by decide, by decide, by decide, by decide⟩, ⟨hA, by decide, by decide, by decide⟩,
    ⟨hone 256 (by decide), by decide +kernel, by decide +kernel⟩,
    ⟨hone 255 (by decide), by decide +kernel, by decide +kernel⟩, ⟨⟨by decide, by decide, by decide +kernel, by decide +kernel, ?_⟩,
    by decide +kernel⟩, hA, by decide⟩
  intro z hm
  obtain ⟨i, hi, rfl⟩ := List.mem_map.1 hm
  have hi := List.mem_range.1 hi
  exact hz _ (by interval_cases i <;> decide) 256 (by decide)

theorem witness_ZoneCommitArms :
    let s (o : Option Word16) (c : Commit) : State :=
      asks .zoneCommit [] { upS with zone := { upS.zone with owner := o, commit := c } }
    (∀ o c, (s o c).Serves (one .zoneCommit []) .zoneCommit readUnit () ∧ (s o c).zone.owner = o ∧
      (s o c).zone.commit = c) :=
  fun _ _ => ⟨asks_serves _ _ _ _ _ upS_runs rfl, rfl, rfl⟩

theorem witness_ValidationSwapsOrFails :
    let e : ZoneSet := ⟨nameA, .none, [⟨nameA, [.port 0]⟩, ⟨nameB, []⟩]⟩
    let s (e : ZoneSet) : State := editing e (.validating 3) upS
    (∀ e, (s e).Runs ∧ (s e).zone.commit = .validating 3 ∧ (s e).zone.owner = some 1#16) ∧
    ((s e).zone.edit.zones[1]? = some ⟨nameB, []⟩ ∧
      ∀ j w, j < 1 → (s e).zone.edit.zones[j]? = some w → w.members ≠ []) ∧
    (s setA).zone.edit.Full ∧ ∀ d, upS.zone.commit ≠ .validating d := by
  refine ⟨fun _ => ⟨upS_runs, rfl, rfl⟩, ⟨rfl, ?_⟩, by unfold ZoneSet.Full; decide, fun _ h => (by cases h)⟩
  intro j w hj h
  obtain rfl : j = 0 := by omega
  cases h
  decide

/-- `n` Permanent licences, ids from 1. -/
def someLicences (n : Nat) : List Licence := (List.range n).map (fun i => lic (BitVec.ofNat 16 (i + 1)) .c4 none .active)

theorem witness_LicenceInstallAddsRecord :
    let ps : List Byte := [0#8, 9#8, 0#8, 1#8, 0#8, 4#8, 0#8]
    let f : LicenceInstallForm := ⟨9, false, 256, 4, [], none, none⟩
    (∀ ls, (asks .licenceInstall ps (withLicences ls upS)).Serves (one .licenceInstall ps) .licenceInstall
      readLicenceInstall f) ∧
    (LicenceInstallForm.record? ⟨9, false, 257, 4, [], none, none⟩ = none ∧
      f.record? = some ⟨9, 256, .c4, [], none, .active⟩) ∧
    ((withLicences [lic 9 .c1 none .revoked] upS).chassis.licences.map (fun l => l.record.id) = [9#16]) ∧
    ((∀ l ∈ (someLicences 32).map (fun l => { l with record := { l.record with id := l.record.id + 9 } }),
        l.record.id ≠ 9) ∧ 32 ≤ (someLicences 32).length) ∧ (someLicences 31).length < 32 :=
  ⟨fun _ => asks_serves _ _ _ _ _ upS_runs rfl, ⟨by decide, by decide⟩, rfl, ⟨by decide +kernel, by decide⟩, by decide⟩

theorem witness_LicenceRevokeAndRemove :
    let s (cmd : Cmd) (st : LicState) : State := asks cmd [0#8, 9#8] (withLicences [lic 9 .c4 none st] (portIn .online))
    (∀ st, (s .licenceRevoke st).Serves (one .licenceRevoke [0#8, 9#8]) .licenceRevoke (readNat 2) 9 ∧
      (s .licenceRemove st).Serves (one .licenceRemove [0#8, 9#8]) .licenceRemove (readNat 2) 9 ∧
      (s .licenceRevoke st).chassis.LicencesOk ∧ lic 9 .c4 none st ∈ (s .licenceRevoke st).chassis.licences ∧
      (lic 9 .c4 none st).record.id = BitVec.ofNat 16 9 ∧ (lic 9 .c4 none st).record.state = st ∧
      (s .licenceRevoke st).PortsOk) ∧
    (asks .licenceRevoke [0#8, 0#8] upS).Serves (one .licenceRevoke [0#8, 0#8]) .licenceRevoke (readNat 2) 0 ∧
    (∀ l ∈ upS.chassis.licences, l.record.id ≠ BitVec.ofNat 16 9) ∧
    ∀ p, ((s .licenceRevoke .active).chassis.port p).binding = .licence (BitVec.ofNat 16 9) → p ∈ (lic 9 .c4 none .active).bound := by
  refine ⟨fun st => ⟨asks_serves _ _ _ _ _ (portIn_runs .online) rfl, asks_serves _ _ _ _ _ (portIn_runs .online) rfl, ?_,
    List.mem_singleton.2 rfl, rfl, rfl, portIn_ok .online (by decide)⟩, asks_serves _ _ _ _ _ upS_runs rfl, by decide, ?_⟩
  · refine ⟨(by decide : 1 ≤ Config.licenceCap), by simp [asks, withLicences], ?_⟩
    intro l hl
    rw [List.mem_singleton.1 hl]
    exact ⟨by simp [lic], fun _ => rfl⟩
  · intro p h
    have h : ((portIn .online).chassis.port p).binding = .licence (BitVec.ofNat 16 9) := h
    rw [portIn_port] at h
    unfold rowsOf at h
    split at h
    · exact absurd h (by decide)
    · split at h <;> exact absurd h (by decide)

theorem witness_WarnAndGraceSettings :
    let s (t : Option Term) : State := asks .licenceWarnSet [0#8, 9#8, 0#8, 5#8] (withLicences [lic 9 .c4 t .revoked] upS)
    (∀ t, (s t).Serves (one .licenceWarnSet [0#8, 9#8, 0#8, 5#8]) .licenceWarnSet readWarn ⟨9, 5⟩ ∧
      (s t).chassis.LicencesOk ∧ lic 9 .c4 t .revoked ∈ (s t).chassis.licences ∧
      (lic 9 .c4 t .revoked).record.id = BitVec.ofNat 16 9 ∧ (lic 9 .c4 t .revoked).record.term = t) ∧
    (asks .graceSet [2#8, 0xD0#8] upS).Serves (one .graceSet [2#8, 0xD0#8]) .graceSet (readNat 2) 720 ∧
    (asks .graceSet [2#8, 0xD1#8] upS).Serves (one .graceSet [2#8, 0xD1#8]) .graceSet (readNat 2) 721 := by
  refine ⟨fun t => ⟨asks_serves _ _ _ _ _ upS_runs rfl, ?_, List.mem_singleton.2 rfl, rfl, rfl⟩,
    asks_serves _ _ _ _ _ upS_runs rfl, asks_serves _ _ _ _ _ upS_runs rfl⟩
  refine ⟨by simp [asks, withLicences, Config.licenceCap], by simp [asks, withLicences], ?_⟩
  intro l hl
  rw [List.mem_singleton.1 hl]
  exact ⟨by simp [lic], fun _ => rfl⟩

theorem witness_SeatChoiceTakesBestLicence :
    let fits (c : Chassis) (p : PortId) (l : Licence) : Prop := l ∈ c.licences ∧ l.record.state = .active ∧
      l.bound.length < l.record.seats ∧ (l.record.scope = [] ∨ bladeOf p ∈ l.record.scope)
    (∀ l, ¬ fits upS.chassis 0 l) ∧
    fits (withLicences [lic 9 .c2 none .active, lic 5 .c3 (some ⟨1, 1, 1⟩) .active] upS).chassis 0 (lic 9 .c2 none .active) :=
  ⟨fun _ h => absurd h.1 (by simp [upS, State.reset]), by simp [withLicences, lic]⟩

theorem witness_SecondsCountAndHourTickWraps :
    (upS.Runs ∧ upS.hourSeconds ≠ 3599) ∧
    (({ upS with hourSeconds := 3599 } : State).Runs ∧ ({ upS with hourSeconds := 3599 } : State).hourSeconds = 3599) :=
  ⟨⟨upS_runs, by decide⟩, upS_runs, rfl⟩

theorem witness_HourTickRunsHoursDown :
    let ending : Licence := ⟨⟨9, 4, .c3, [], some ⟨100, 1, 0⟩, .active⟩, [0]⟩
    let s : State := { withLicences [ending] upS with hourSeconds := 3599 }
    let g (st : PortState) (n : Nat) : State :=
      { portIn st with hourSeconds := 3599, chassis := (portIn st).chassis.setGrace 0 n }
    (s.Runs ∧ s.hourSeconds = 3599 ∧ s.chassis.LicencesOk ∧ (∀ p, (s.chassis.port p).binding ≠ .counted) ∧
      s.chassis.alm.entries.length + s.chassis.licences.length + 5 ≤ 64 ∧
      (∀ m ∈ s.chassis.licences, m.record.id = ending.record.id → m.record.state = .active) ∧
      ∀ e ∈ s.chassis.alm.entries, e.kind = .licenseExpiryNear → e.state ≠ .clearedUnack) ∧
    ((g .online 2).Runs ∧ (g .online 2).hourSeconds = 3599 ∧ (g .online 2).PortsOk ∧ (g .online 2).chassis.licences = [] ∧
      ((g .online 2).chassis.port 0).binding = .counted ∧ 2 ≤ (g .online 2).chassis.graceOf 0 ∧
      ((g .online 2).chassis.port 0).state.isDraining = false ∧ (g .online 1).chassis.graceOf 0 ≤ 1) := by
  refine ⟨⟨upS_runs, rfl, ?_, by decide +kernel, by decide +kernel, by decide +kernel, by decide +kernel⟩,
    portIn_runs .online, rfl, portIn_ok .online (by decide), rfl, by decide +kernel, by decide +kernel, by decide +kernel,
    by decide +kernel⟩
  unfold Chassis.LicencesOk Licence.Ok
  decide +kernel

theorem witness_ChannelSetWritesRecord :
    let ps (ch v : Byte) : List Byte := [ch, 0#8, 8#8, v]
    let f (ch v : Nat) : ChannelSetForm := ⟨ch, none, none, none, some v, none, none, none, none, none, none, none, none⟩
    (asks .channelSet (ps 16#8 1#8) upS).Serves (one .channelSet (ps 16#8 1#8)) .channelSet readChannelSet (f 16 1) ∧
    (asks .channelSet (ps 15#8 4#8) upS).Serves (one .channelSet (ps 15#8 4#8)) .channelSet readChannelSet (f 15 4) ∧
    (asks .channelSet (ps 15#8 5#8) upS).Serves (one .channelSet (ps 15#8 5#8)) .channelSet readChannelSet (f 15 5) ∧
    (f 15 4).apply (upS.cfg.channel 15) = some { ChanCfg.factory 15 with divider := 4 } ∧
    (f 15 5).apply (upS.cfg.channel 15) = none :=
  ⟨asks_serves _ _ _ _ _ upS_runs (by decide +kernel), asks_serves _ _ _ _ _ upS_runs (by decide +kernel), asks_serves _ _ _ _ _ upS_runs (by decide +kernel),
    by decide +kernel, by decide +kernel⟩

/-- `upS` with a scanner state. -/
def scanning (sc : Scanner) : State := { upS with env := { upS.env with scanner := sc } }

theorem witness_ScannerSetTurnsScanner :
    (∀ sc, (asks .scannerSet [1#8, 0#8] (scanning sc)).Serves (one .scannerSet [1#8, 0#8]) .scannerSet readScannerSet
        ⟨some 0, none, none, none⟩ ∧
      (asks .scannerSet [1#8, 1#8] (scanning sc)).Serves (one .scannerSet [1#8, 1#8]) .scannerSet readScannerSet
        ⟨some 1, none, none, none⟩ ∧
      (asks .scannerSet [1#8, 0#8] (scanning sc)).env.scanner = sc) ∧
    (asks .scannerSet [1#8, 2#8] upS).Serves (one .scannerSet [1#8, 2#8]) .scannerSet readScannerSet
      ⟨some 2, none, none, none⟩ ∧
    (asks .scannerSet [4#8, 63#8] upS).Serves (one .scannerSet [4#8, 63#8]) .scannerSet readScannerSet
      ⟨none, none, some 63, none⟩ ∧
    (asks .scannerSet [4#8, 64#8] upS).Serves (one .scannerSet [4#8, 64#8]) .scannerSet readScannerSet
      ⟨none, none, some 64, none⟩ :=
  ⟨fun _ => ⟨asks_serves _ _ _ _ _ upS_runs rfl, asks_serves _ _ _ _ _ upS_runs rfl, rfl⟩,
    asks_serves _ _ _ _ _ upS_runs rfl, asks_serves _ _ _ _ _ upS_runs rfl, asks_serves _ _ _ _ _ upS_runs rfl⟩

theorem witness_ReadNowConvertsOnce :
    let t : Taken := ⟨3, .temperature, 3, 1, false⟩
    let on : Settings := { Settings.factory with
      channels := Settings.factory.channels.set 3 { ChanCfg.factory 3 with enabled := true } }
    let s (sc : Scanner) (conv : Option (Conv × Nat)) : State :=
      { scanning sc with cfg := on, env := { (scanning sc).env with conv := conv } }
    (∀ sc conv, (asks .readNow [3#8] (s sc conv)).Serves (one .readNow [3#8]) .readNow (readNat 1) 3) ∧
    (asks .readNow [16#8] upS).Serves (one .readNow [16#8]) .readNow (readNat 1) 16 ∧
    (upS.cfg.channel 3).enabled = false ∧
    ((on.channel 3).enabled = true ∧ (s (.resting (some 9)) none).env.turnOff = false ∧
      (s (.resting (some 9)) none).env.conv = none ∧ (s (.converting ⟨[], []⟩) (some (.reference, 9))).env.conv.isSome = true) ∧
    (∀ sc, (s sc (some (.readNow t, 9))).Runs ∧ (s sc (some (.readNow t, 9))).env.conv = some (.readNow t, 9) ∧
      (s sc (some (.readNow t, 9))).env.readNow = none) ∧ ∀ t due, upS.env.conv ≠ some (.readNow t, due) :=
  ⟨fun _ _ => asks_serves _ _ _ _ _ upS_runs rfl, asks_serves _ _ _ _ _ upS_runs rfl, by decide +kernel,
    ⟨by decide +kernel, rfl, rfl, rfl⟩, fun _ => ⟨upS_runs, rfl, rfl⟩, fun _ _ h => (by cases h)⟩

/-- A round whose channels are converted, and its reference under way. -/
def atReference (held : List (Taken × RawCode)) : State :=
  { upS with env := { upS.env with scanner := .converting ⟨[], held⟩, conv := some (.reference, 60) } }

theorem witness_RoundConvertsChannelsInOrder :
    let t : Taken := ⟨3, .temperature, 3, 1, false⟩
    let s (rn : Option ChanId) : State := { upS with env := { upS.env with
      scanner := .converting ⟨t :: [], []⟩, conv := some (.channel, 60), readNow := rn } }
    let rest (conv : Option (Conv × Nat)) : State :=
      { scanning (.resting (some 9)) with env := { (scanning (.resting (some 9))).env with conv := conv } }
    (upS.Runs ∧ upS.env.scanner = .settling 50 ∧ upS.env.readNow = none) ∧
    ((rest none).env.scanner = .resting (some 9) ∧ (rest none).env.conv = none ∧
      (rest (some (.readNow t, 12))).env.conv.isSome = true) ∧
    (∀ due, (scanning .off).env.scanner ≠ .settling due ∧ (scanning .off).env.scanner ≠ .resting (some due)) ∧
    (∀ rn, (s rn).Runs ∧ (s rn).env.conv = some (.channel, 60) ∧ (s rn).env.scanner = .converting ⟨t :: [], []⟩ ∧
      (s rn).env.readNow = rn) ∧
    ∀ due, upS.env.conv ≠ some (.channel, due) ∧ upS.env.conv ≠ some (.reference, due) :=
  ⟨⟨upS_runs, rfl, rfl⟩, ⟨rfl, rfl, rfl⟩, fun _ => ⟨fun h => (by cases h), fun h => (by cases h)⟩,
    fun _ => ⟨upS_runs, rfl, rfl, rfl⟩, fun _ => ⟨fun h => (by cases h), fun h => (by cases h)⟩⟩

theorem witness_RoundEndMovesTrustAndTakesReadings :
    let held : List (Taken × RawCode) := [(⟨0, .temperature, 0, 1, false⟩, 405#10), (⟨5, .voltage, 5, 2, false⟩, 7#10)]
    (atReference held).Runs ∧ (atReference held).env.conv = some (.reference, 60) ∧
    (atReference held).env.scanner = .converting ⟨[], held⟩ ∧ (held.map (fun e => e.1.chan)).Nodup ∧
    (512 ≤ (500#10 : RawCode).toNat + 12 ∧ (524#10 : RawCode).toNat ≤ 512 + 12 ∧ ¬ (525#10 : RawCode).toNat ≤ 512 + 12) :=
  ⟨upS_runs, rfl, rfl, by decide, by decide, by decide, by decide⟩

theorem witness_RoundEndFormsDuty :
    (atReference []).Runs ∧ (atReference []).env.conv = some (.reference, 60) ∧
    (atReference []).env.scanner = .converting ⟨[], []⟩ ∧ (atReference []).DutyOk :=
  ⟨upS_runs, rfl, rfl, (by decide : 30 ≤ 100), (by intro c h; cases h), (by intro c h; cases h), by decide, by decide, fun _ => rfl⟩

theorem witness_TrayEventsMoveTray :
    let g (n : Nat) : Gate := ⟨n, 1, 1000⟩
    let s (n : Nat) (tray : Tray) : State := { upS with
      env := { upS.env with gates := upS.env.gates.set 0 (some (g n)) }
      fan := { upS.fan with trays := upS.fan.trays.set 0 tray } }
    (upS.Runs ∧ upS.env.gates[(0 : TrayId).val] = none ∧ (upS.fan.tray 0).state = .absent) ∧
    (∀ n tray, (s n tray).Runs ∧ (s n tray).env.gates[(0 : TrayId).val] = some (g n) ∧ (s n tray).fan.tray 0 = tray) ∧
    (Settings.factory.cooling.minRpm ≤ (g 50).count * 60 / (2 * (g 50).secs) ∧
      (g 49).count * 60 / (2 * (g 49).secs) < Settings.factory.cooling.minRpm) :=
  ⟨⟨upS_runs, by decide +kernel, by decide +kernel⟩, fun _ _ => ⟨upS_runs, rfl, rfl⟩, by decide +kernel, by decide +kernel⟩

theorem witness_SupplySampleMovesSlots :
    let s (r : SlotRec) : State := { upS with env := { upS.env with slots := upS.env.slots.set 0 r } }
    upS.Runs ∧ (∀ r, (s r).Runs ∧ (s r).env.slots[(0 : SlotId).val] = r) ∧ (1#4).getLsbD (0 : SlotId).val = true :=
  ⟨upS_runs, fun _ => ⟨upS_runs, rfl⟩, by decide⟩

theorem witness_SettingCommandsKeepRanges :
    (asks .claimTimeSet [0#8, 30#8] upS).Serves (one .claimTimeSet [0#8, 30#8]) .claimTimeSet (readNat 2) 30 ∧
    (asks .claimTimeSet [0x0E#8, 0x11#8] upS).Serves (one .claimTimeSet [0x0E#8, 0x11#8]) .claimTimeSet (readNat 2) 3601 ∧
    (asks .coolingSet [2#8, 100#8] upS).Serves (one .coolingSet [2#8, 100#8]) .coolingSet readCoolingSet
      ⟨none, some 100, none⟩ ∧
    (asks .coolingSet [2#8, 19#8] upS).Serves (one .coolingSet [2#8, 19#8]) .coolingSet readCoolingSet
      ⟨none, some 19, none⟩ ∧
    (asks .supplySet [16#8, 1#8] upS).Serves (one .supplySet [16#8, 1#8]) .supplySet readSupplySet
      ⟨none, none, none, none, some 1⟩ ∧
    (asks .supplySet [16#8, 2#8] upS).Serves (one .supplySet [16#8, 2#8]) .supplySet readSupplySet
      ⟨none, none, none, none, some 2⟩ ∧
    (∃ f, f.knee = some 60 ∧ (asks .powerSet [0#8, 1#8, 60#8] upS).Serves (one .powerSet [0#8, 1#8, 60#8]) .powerSet
      readPowerSet f) ∧
    (∃ f, f.knee = some 61 ∧ (asks .powerSet [0#8, 1#8, 61#8] upS).Serves (one .powerSet [0#8, 1#8, 61#8]) .powerSet
      readPowerSet f) ∧
    (asks .alarmSet [0#8, 0#8, 9#8] upS).Serves (one .alarmSet [0#8, 0#8, 9#8]) .alarmSet readAlarmSet (.origin 9) ∧
    (asks .alarmSet [1#8, 19#8, 1#8, 1#8] upS).Serves (one .alarmSet [1#8, 19#8, 1#8, 1#8]) .alarmSet readAlarmSet
      (.kind 19 (some 1) none) ∧
    (asks .alarmSet [1#8, 20#8, 1#8, 1#8] upS).Serves (one .alarmSet [1#8, 20#8, 1#8, 1#8]) .alarmSet readAlarmSet
      (.kind 20 (some 1) none) ∧
    (asks .addressSet [0#8, 1#8, 0#8] upS).Serves (one .addressSet [0#8, 1#8, 0#8]) .addressSet (readNat 3) 256 :=
  ⟨asks_serves _ _ _ _ _ upS_runs rfl, asks_serves _ _ _ _ _ upS_runs rfl, asks_serves _ _ _ _ _ upS_runs rfl,
    asks_serves _ _ _ _ _ upS_runs rfl, asks_serves _ _ _ _ _ upS_runs rfl, asks_serves _ _ _ _ _ upS_runs rfl,
    ⟨⟨some 60, none, none, none, none, none, none, none, none, none, none, none, none, none⟩, rfl,
      asks_serves _ _ _ _ _ upS_runs (by decide +kernel)⟩,
    ⟨⟨some 61, none, none, none, none, none, none, none, none, none, none, none, none, none⟩, rfl,
      asks_serves _ _ _ _ _ upS_runs (by decide +kernel)⟩,
   
    asks_serves _ _ _ _ _ upS_runs rfl, asks_serves _ _ _ _ _ upS_runs rfl, asks_serves _ _ _ _ _ upS_runs rfl,
    asks_serves _ _ _ _ _ upS_runs rfl⟩

theorem witness_EvaluationKeepsDemandInBudget :
    let i (n : Nat) : PwrInputs := ⟨Vector.ofFn (fun k => if k.val < n then .good else .absent), true, some 46, .trusted,
      false, 6, 6, 1⟩
    let good (n : Nat) : List SlotId := (List.finRange 4).filter (fun k : SlotId => (i n).slots[k.val] = .good)
    Settings.factory.supply.mode = .spareOne ∧ (good 1).length < 2 ∧ 2 ≤ (good 2).length ∧
    ((i 2).trust = .trusted ∧ (i 2).inlet = some 46) ∧ (State.reset.chassis.pwr.inputs.trust ≠ .trusted) ∧
    (State.reset.chassis.pwr.inputs.settled = false ∧ (i 2).settled = true) :=
  ⟨rfl, by decide, by decide, ⟨rfl, rfl⟩, by decide, rfl, rfl⟩

theorem witness_GovernorTimersRunOut :
    let s (w : List WaitEntry) : State := { upS with chassis := { upS.chassis with pwr := { upS.chassis.pwr with
      holdoff := some 9, pacing := some ⟨1, 250⟩, waitTimer := some 9, waitList := w } } }
    (∀ w, (s w).Runs ∧ (s w).chassis.pwr.holdoff = some 9 ∧ (s w).chassis.pwr.pacing = some ⟨1, 250⟩ ∧
      (s w).chassis.pwr.waitTimer = some 9 ∧ (s w).chassis.pwr.waitList = w) ∧
    (upS.chassis.pwr.holdoff = none ∧ upS.chassis.pwr.pacing = none ∧ upS.chassis.pwr.waitTimer = none) :=
  ⟨fun _ => ⟨upS_runs, rfl, rfl, rfl, rfl⟩, rfl, rfl, rfl⟩

/-- An alarm table of `n` entries of Over-Temperature, one for each subject. -/
def almOf (n : Nat) : Alm :=
  ⟨(List.range n).map (fun i => ⟨.overTemperature, i, .raised, 0, none⟩), none, false, []⟩

theorem witness_AlarmsRaiseClearAndNotify :
    let e (st : EntryState) (k : AlarmKind) : AlarmEntry := ⟨k, 0, st, 0, some 9⟩
    let a (st : EntryState) (k : AlarmKind) : Alm := ⟨[e st k], none, false, []⟩
    let m (sev : Severity) : Notice := ⟨1, .alarm .supplyDip, 0, sev, .raised, 0, false⟩
    ((almOf 63).entries.length < 64 ∧ 64 ≤ (almOf 64).entries.length ∧ (almOf 64).full = none ∧
      ¬ ∃ e ∈ (almOf 64).entries, e.kind = .supplyDip ∧ e.subject = 0) ∧
    (∀ st k, (a st k).Ok ∧ e st k ∈ (a st k).entries ∧ (e st k).state = st) ∧
    (latchedKind .supplyDip = true ∧ latchedKind .powerWait = false) ∧
    (List.replicate 31 (m .minor)).length < 32 ∧
    (List.replicate 31 (m .major) ++ [m .minor] = List.replicate 31 (m .major) ++ m .minor :: [] ∧
      32 ≤ (List.replicate 31 (m .major) ++ [m .minor]).length ∧
      (m .minor).severity.code < (m .major).severity.code ∧
      ∀ o ∈ List.replicate 31 (m .major) ++ [m .minor], (m .minor).severity.code ≤ o.severity.code) :=
  ⟨⟨by decide, by decide, rfl, by decide⟩,
    fun _ _ => ⟨⟨by simp [Config.alarmCap], by simp, (by intro e h; cases h), by simp [Config.noticeCap]⟩,
      List.mem_singleton.2 rfl, rfl⟩,
    ⟨rfl, rfl⟩, by decide, rfl, by decide, by decide, by decide⟩

theorem witness_AcknowledgeAndPulseEnd :
    let key (k : Byte) : List Byte := [0#8, k, 0#8, 0#8, 0#8]
    let dipped (b : Bool) : State := { upS with chassis := { upS.chassis with alm := { upS.chassis.alm with dip := b } } }
    (asks .acknowledge [1#8] upS).Serves (one .acknowledge [1#8]) .acknowledge readAck .all ∧
    (∀ b, (asks .acknowledge (key 18#8) (dipped b)).Serves (one .acknowledge (key 18#8)) .acknowledge readAck (.key 18 0) ∧
      (asks .acknowledge (key 18#8) (dipped b)).chassis.alm.dip = b) ∧
    (asks .acknowledge (key 20#8) upS).Serves (one .acknowledge (key 20#8)) .acknowledge readAck (.key 20 0) ∧
    (AlarmKind.ofCode? 18 = some .supplyDip ∧ AlarmKind.ofCode? 20 = none ∧ subjectOk .supplyDip 0 = true ∧
      subjectOk .supplyDip 1 = false ∧ AlarmKind.ofCode? 12 = some .powerWait ∧ subjectOk .powerWait 0 = true) ∧
    (∃ e ∈ upS.chassis.alm.entries, e.kind = .supplyDip ∧ e.subject = 0 ∧ e.pulse = some 2000) ∧
    (¬ ∃ e, (e ∈ upS.chassis.alm.entries ∨ upS.chassis.alm.full = some e) ∧ e.kind = .powerWait ∧ e.subject = 0) ∧
    (upS.Runs ∧ upS.chassis.alm.Ok) := by
  refine ⟨asks_serves _ _ _ _ _ upS_runs rfl, fun _ => ⟨asks_serves _ _ _ _ _ upS_runs rfl, rfl⟩,
    asks_serves _ _ _ _ _ upS_runs rfl, ⟨rfl, rfl, rfl, rfl, rfl, rfl⟩,
    ⟨⟨.supplyDip, 0, .clearedUnack, 0, some 2000⟩, by decide, rfl, rfl, rfl⟩, ?_, upS_runs,
    by decide, by decide, (by intro e h; cases h), by decide⟩
  rintro ⟨e, h | h, hk, -⟩
  · exact (by decide : ∀ e ∈ upS.chassis.alm.entries, e.kind ≠ .powerWait) e h hk
  · cases h

theorem witness_SaveRestartAndWriteCompletion :
    let s (w : Writer) : State := { upS with store := { upS.store with writer := w } }
    (asks .save [] upS).Serves (one .save []) .save readUnit () ∧
    (asks .restart [] upS).Serves (one .restart []) .restart readUnit () ∧
    (∀ w, (s w).store.monitor ≠ .lost ∧ (s w).store.writer = w) ∧ ∀ i, (s .idle).store.writer ≠ .writing i :=
  ⟨asks_serves _ _ _ _ _ upS_runs rfl, asks_serves _ _ _ _ _ upS_runs rfl,
    fun _ => ⟨(by decide : Monitor.normal ≠ .lost), rfl⟩, fun _ h => (by cases h)⟩

theorem witness_StandbyMonitorFollowsRail :
    let s (m : Monitor) (r : Option Nat) : State := { upS with store := { upS.store with monitor := m, railLow := r } }
    (∀ r, (s .normal r).store.monitor ≠ .lost ∧ (s .normal r).store.monitor = .normal ∧ (s .normal r).store.railLow = r) ∧
    ((s .low none).store.monitor ≠ .lost ∧ (s .low none).store.monitor = .low) :=
  ⟨fun _ => ⟨(by decide : Monitor.normal ≠ .lost), rfl, rfl⟩, (by decide : Monitor.low ≠ .lost), rfl⟩

/-- A step on which every invariant's premises hold: a busy state and its next one. -/
theorem witness_EveryStepKeepsPortTable :
    let s : State := { portIn .online with pending := [.linkDown 0] }
    s.PortsOk ∧ (got (step s) (fun t => (t.chassis.port 0).state)) = some .linkWait :=
  ⟨portIn_ok .online (by decide), by decide +kernel⟩

theorem witness_EveryStepLeavesPartAtRest :
    let l : Link := { upS.link with frame := some (.permitFlush 0), verdicts := [.verdict ⟨3, .denyPort, 0, none⟩] }
    let s : State := { upS with link := l, pending := [.outboundFrameEnd] }
    s.AtRest ∧ got (step s) (fun t => t.link.frame) = some (some (.verdict ⟨3, .denyPort, 0, none⟩)) :=
  ⟨sending_rests { upS.link with frame := some (.permitFlush 0), verdicts := [.verdict ⟨3, .denyPort, 0, none⟩] }
    (.permitFlush 0) rfl rfl, by decide +kernel⟩

theorem witness_EveryStepKeepsTableBounds :
    let s : State := { crowd 15 1 with pending := [.login 0 99] }
    s.chassis.LoginsOk ∧ s.chassis.alm.Ok ∧ s.CreditsOk ∧ s.CountersOk ∧
    got (step s) (fun t => t.chassis.loginCount 0) = some 16 := by
  refine ⟨witness_LoginAndLogoutChangeTable.2.2.1, ⟨by decide, by decide, (by intro e h; cases h), by decide⟩, ?_, ?_,
    by decide +kernel⟩
  · refine ⟨by decide, by decide, fun _ => by decide, fun h => absurd rfl h, fun _ => rfl⟩
  · refine ⟨by decide, by decide, by decide, by decide, by decide +kernel, ?_, ?_, (by intro w h; cases h)⟩
    · decide +kernel
    · unfold SlotRec.countOk; decide +kernel

theorem witness_EveryStepKeepsConfigurationBounds :
    let s : State := { editing setA (.validating 3) upS with pending := [.validationEnd] }
    s.ZonesOk ∧ s.ClaimOk ∧ s.LicencesOk ∧ s.DutyOk ∧ got (step s) (fun t => t.zone.active) = some setA := by
  have hA : setA.Ok := by
    unfold ZoneSet.Ok Zone.Ok
    decide +kernel
  have hF : ZoneSet.factory.Ok ∧ ZoneSet.factory.Full := by
    unfold ZoneSet.Ok Zone.Ok ZoneSet.Full
    decide +kernel
  refine ⟨⟨hF.1, hF.2, hA, (by intro z h; cases h), (by intro z h; cases h)⟩,
    ⟨⟨fun h => (by cases h), fun _ => rfl⟩, (by intro pr h; cases h)⟩, ⟨⟨by decide, by decide, (by intro l h; cases h)⟩,
      (by intro l h; cases h), ?_⟩,
    ⟨(by decide : 30 ≤ 100), (by intro c h; cases h), (by intro c h; cases h), by decide, by decide, fun _ => rfl⟩, by decide +kernel⟩
  intro rs h
  cases h
  exact ⟨by decide, by decide⟩

/-! ## Witnesses of further clauses -/

/-- `seatIn` takes events. -/
theorem seatIn_runs (st : PortState) (ls : List Licence) : (seatIn st ls).Runs :=
  ⟨(by decide : Monitor.normal ≠ .lost), rfl⟩

/-- The ports of `upS`. -/
theorem upS_port (p : PortId) : upS.chassis.port p = PortRec.reset := by
  simp [upS, State.reset, Chassis.port]

/-- Between events, over `upS`, nothing is left for an event's end to judge. -/
theorem upS_endAgrees : upS.EndAgrees := by
  refine ⟨⟨fun h => (by cases h), ?_⟩, fun h => (by cases h)⟩
  rintro ⟨p, hp⟩
  rw [upS_port] at hp
  cases hp

theorem witness_FrameEndStartsNextFrame_restartComplete :
    let n : Notice := ⟨1, .commitDone, 0, .minor, .event, 0, false⟩
    let f : OutFrame := .permitFlush 0
    let s (k : Nat) : State :=
      { upS with
        cfg := { upS.cfg with noticeOrigin := 1 }
        link := { upS.link with frame := some f, resync := some 256 }
        chassis := { upS.chassis with
          alm := { upS.chassis.alm with notices := List.replicate k n }
          pwr := { upS.chassis.pwr with inputs := { upS.chassis.pwr.inputs with settled := true } } } }
    ((s 29).Runs ∧ (s 29).link.frame = some f ∧ f.restarts = false ∧ (s 29).link.resync = some 256 ∧
      (s 29).store.startUp = true ∧ (s 29).chassis.pwr.inputs.settled = true ∧ (s 29).cfg.noticeOrigin ≠ 0#16 ∧
      (s 29).chassis.alm.notices.length ≤ 29) ∧
    (State.reset.ctx.linkUp = false ∧ upS.ctx.linkUp = true) ∧ (∀ e ∈ upS.chassis.slots, e.1 ≠ (0 : PortId)) ∧
    (let c : Chassis := { upS.chassis with slots := [(3, .disable), (0, .enable .c2), (5, .disable)] }
     c.slots = [(3, .disable)] ++ (0, .enable .c2) :: [(5, .disable)] ∧
     (∀ e ∈ ([(3, .disable)] ++ [(5, .disable)] : List (PortId × Control)), e.1 ≠ (0 : PortId)) ∧
     (c.putControl upS.ctx 0 .disable).slots = [(3, .disable), (0, .disable), (5, .disable)]) :=
  ⟨⟨upS_runs, rfl, rfl, rfl, rfl, rfl, by decide, by decide⟩, ⟨by decide, by decide⟩, (by intro e h; cases h), rfl, by decide, by decide⟩

theorem witness_ListEndDecidesArmedCommit_dropped :
    let pr (b : Bool) : Proc := { one .save [] with results := [⟨.armed, []⟩], live := false, restart := b }
    let s (b : Bool) : State := { atProc (pr b) with zone := { upS.zone with owner := some 1, edit := setA, commit := .armed } }
    ∀ b, (s b).link.proc = some (pr b) ∧ (pr b).left ≠ [] ∧ (pr b).live = false ∧ (pr b).restart = b ∧ ¬ (pr b).goesOn ∧
      ∃ e ∈ (pr b).results ++ ⟨.done, []⟩ :: (pr b).unreached, e.status = .armed :=
  fun _ => ⟨rfl, by simp [one], rfl, rfl, by simp [Proc.goesOn, one], ⟨.armed, []⟩, by simp, rfl⟩

theorem witness_ReadsAnswerAndChangeNothing_zones :
    let s : State := { upS with zone := { upS.zone with active := setA, edit := setA } }
    (setA.zones.length < 2 ∧ setA.zones = setA.zones ++ [] ++ [] ∧ setA.zones.length = 1 ∧ ([] : List Zone).length < 64) ∧
    (setA.zones = [] ++ setA.zones ++ [] ∧ ([] : List Zone).length = 0 ∧ setA.zones.length = 1) ∧
    (s.zoneRead (.list 0 1 64) = ⟨.done, [0#8]⟩ ∧ s.zoneRead (.list 0 2 64) = ⟨.refusedUnknown, []⟩ ∧
      s.zoneRead (.list 0 513 1) = ⟨.refusedRange, []⟩ ∧ s.zoneRead (.list 1 0 65) = ⟨.refusedRange, []⟩ ∧
      s.zoneRead (.list 1 0 1) = ⟨.done, [1#8, 0#8, 0#8, 1#8, 0x41#8, 0#8, 1#8]⟩) ∧
    (setA.Ok ∧ setA.zones[0]? = some ⟨nameA, [.port 0]⟩ ∧ setA.zones.length ≤ 511 ∧ (∀ y ∈ setA.zones, y.name ≠ nameB)) := by
  refine ⟨⟨by decide, rfl, rfl, by decide⟩, ⟨rfl, rfl, rfl⟩, ⟨rfl, rfl, rfl, rfl, by decide +kernel⟩, ?_, rfl, by decide,
    by decide⟩
  unfold ZoneSet.Ok Zone.Ok
  decide +kernel

theorem witness_ReadsAnswerAndChangeNothing_licences :
    let s : State := withLicences [lic 9 .c4 (some ⟨100, 7, 5⟩) .active] upS
    (s.chassis.LicencesOk ∧ lic 9 .c4 (some ⟨100, 7, 5⟩) .active ∈ s.chassis.licences ∧ (9 : Nat) ≠ 0 ∧
      (lic 9 .c4 (some ⟨100, 7, 5⟩) .active).record.id = BitVec.ofNat 16 9 ∧
      ∀ l ∈ s.chassis.licences, l.record.id ≠ BitVec.ofNat 16 65535) ∧
    s.licenceRead (.one 9)
      = ⟨.done, [0#8, 9#8, 1#8, 0#8, 0#8, 1#8, 0#8, 0#8, 4#8, 0#8, 0#8, 100#8, 0#8, 7#8, 0#8, 5#8]⟩ := by
  refine ⟨⟨?_, by decide, by decide, rfl, by decide⟩, by decide +kernel⟩
  unfold Chassis.LicencesOk Licence.Ok
  decide +kernel

/-- R147: the wait list read in its order, the higher shed priority first. -/
theorem witness_ReadsAnswerAndChangeNothing_waitList :
    let w : List WaitEntry := [⟨0, .powerWait, 0, 0⟩, ⟨1, .shed, 1, 0⟩]
    let s : State := { upS with
      cfg := { upS.cfg with ports := upS.cfg.ports.set 1 { upS.cfg.port 1 with priority := 7 } }
      chassis := { upS.chassis with pwr := { upS.chassis.pwr with waitList := w } } }
    s.chassis.pwr.waitList.Pairwise (fun d e => d.joinNo < e.joinNo) ∧
      (s.chassis.waitOrder s.ctx).map WaitEntry.port = [1, 0] := by
  exact ⟨by decide, by decide +kernel⟩

/-- Licence 9 with port 0 bound, Permanent or with one hour left. -/
def nine (term : Option Term) : Licence := ⟨⟨9, 4, .c4, [], term, .active⟩, [0]⟩

theorem witness_LicenceRevokeAndRemove_rebinds :
    let m : Licence := lic 8 .c4 none .active
    let s : State := asks .licenceRevoke [0#8, 9#8] (seatIn .online [nine none, m])
    let on : State := { seatIn .online [nine none] with
      chassis := { (seatIn .online [nine none]).chassis with logins := [⟨5, 0⟩] } }
    (s.Serves (one .licenceRevoke [0#8, 9#8]) .licenceRevoke (readNat 2) 9 ∧ s.chassis.LicencesOk ∧ s.PortsOk ∧
      nine none ∈ s.chassis.licences ∧ (nine none).record.state = .active ∧ (nine none).bound = [0] ∧
      (s.chassis.port 0).binding = .licence (BitVec.ofNat 16 9) ∧ m ∈ s.chassis.licences ∧ m ≠ nine none ∧
      m.record.state = .active ∧ m.bound.length < m.record.seats ∧
      ∀ g ∈ (s.chassis.port 0).granted, g.num ≤ m.record.ceiling.num) ∧
    (on.PortsOk ∧ (on.chassis.port 0).state = .online ∧ 0 < on.chassis.loginCount 0) ∧
    got (exec .licenceRevoke s) (fun t => ((t.chassis.port 0).binding, (t.chassis.port 0).state))
      = some (.licence 8, .online) := by
  have hp (ls : List Licence) : (seatIn .online ls).chassis.port 0 = { rowOf .online with binding := .licence 9 } := by
    rw [seatIn_port]; rfl
  refine ⟨⟨asks_serves _ _ _ _ _ (seatIn_runs _ _) rfl, (by unfold Chassis.LicencesOk Licence.Ok; decide +kernel),
    seatIn_ok .online _ rfl, List.mem_cons_self, rfl, rfl, ?_, by simp [asks, seatIn], by decide, rfl, by decide, ?_⟩,
    ⟨seatIn_ok .online [nine none] rfl, ?_, (by decide : 0 < ([⟨5, 0⟩].filter (fun e : LoginEntry => e.port == 0)).length)⟩, by decide +kernel⟩
  · exact congrArg PortRec.binding (hp _)
  · intro g hg
    have hg : g ∈ ((seatIn .online [nine none, lic 8 .c4 none .active]).chassis.port 0).granted := hg
    rw [hp] at hg
    cases hg
    decide
  · exact congrArg PortRec.state (hp [nine none])

theorem witness_SeatChoiceTakesBestLicence_pass :
    let l : Licence := lic 9 .c4 none .active
    let c (st : PortState) : Chassis := (withLicences [l] (portIn st)).chassis
    let x := upS.ctx
    ((∀ q, (c .online).RowOk q) ∧ ((c .online).port 0).binding = .counted ∧ ((c .online).port 0).state.isDraining = false ∧
      (∀ q : PortId, ¬ q.val < (0 : PortId).val) ∧ (c .online).seatChoice x 0 = some l.record ∧
      ∀ g ∈ ((c .online).port 0).granted, g.num ≤ (x.cfg.port 0).reqClass.num ∧ g.num ≤ l.record.ceiling.num) ∧
    ((∀ q, (c .unseated).RowOk q) ∧ (∀ q, ((c .unseated).port q).binding ≠ .counted) ∧
      (c .unseated).seatWait = [] ++ (0 : PortId) :: []) ∧
    ((seatIn .online []).chassis.port 0).binding = .licence 9 := by
  have hp (st : PortState) (q : PortId) : (withLicences [lic 9 .c4 none .active] (portIn st)).chassis.port q = rowsOf st q :=
    portIn_port st q
  refine ⟨⟨(portIn_ok .online (by decide)).1, congrArg PortRec.binding (hp _ _),
      congrArg (fun r : PortRec => r.state.isDraining) (hp _ _), fun q => Nat.not_lt_zero _, by decide +kernel, ?_⟩,
    ⟨(portIn_ok .unseated (by decide)).1, fun q => ?_, by decide +kernel⟩, by rw [seatIn_port]; rfl⟩
  · intro g hg
    have hg : g ∈ ((withLicences [lic 9 .c4 none .active] (portIn .online)).chassis.port 0).granted := hg
    rw [hp] at hg
    cases hg
    have : (upS.ctx.cfg.port 0).reqClass = .c4 := by
      simp [upS, State.reset, State.ctx, Settings.port, Settings.factory, PortAdmin.factory]
    rw [this]
    decide
  · have h : ((withLicences [lic 9 .c4 none .active] (portIn .unseated)).chassis.port q).binding ≠ .counted := by
      rw [hp]
      unfold rowsOf
      split
      · decide
      · split <;> decide
    exact h

theorem witness_HourTickRunsHoursDown_rebinds :
    let h : Term := ⟨100, 1, 0⟩
    let m : Licence := lic 8 .c4 none .active
    let s (st : PortState) (ls : List Licence) : State := { seatIn st (nine (some h) :: ls) with hourSeconds := 3599 }
    let grace (n : Nat) (u : State) : State := { u with cfg := { u.cfg with graceLen := n } }
    (∀ st ls, (∀ k ∈ ls, k.bound = []) → (s st ls).Runs ∧ (s st ls).hourSeconds = 3599 ∧
      (st.seated = true → (s st ls).PortsOk) ∧ (s st ls).chassis.BindingsOk ∧ nine (some h) ∈ (s st ls).chassis.licences) ∧
    ((nine (some h)).record.state = .active ∧ (nine (some h)).record.term = some h ∧ h.remaining ≤ 1 ∧
      (nine (some h)).bound = [0]) ∧
    (upS.chassis.passDue = false ∧ (s .online [m]).chassis.LicencesOk ∧
      (∀ q, ((s .online [m]).chassis.port q).binding ≠ .counted) ∧ m.record.term = none ∧ m ≠ nine (some h) ∧
      m.record.state = .active ∧ m.bound.length < m.record.seats) ∧
    got (exec .hourTick (grace 720 (s .shed []))) (fun t => ((t.chassis.port 0).binding, t.chassis.graceOf 0))
      = some (.counted, 720) := by
  refine ⟨fun st ls hb => ⟨⟨(by decide : Monitor.normal ≠ .lost), rfl⟩, rfl, fun hs => seatIn_ok st _ hs,
      seatIn_bindings st _ ls rfl rfl hb, List.mem_cons_self⟩, ⟨rfl, rfl, by decide, rfl⟩,
    ⟨rfl, (by unfold Chassis.LicencesOk Licence.Ok; decide +kernel), fun q => ?_, rfl, by decide, rfl, by decide⟩,
    by decide +kernel⟩
  have h : ((seatIn .online [nine (some ⟨100, 1, 0⟩), lic 8 .c4 none .active]).chassis.port q).binding ≠ .counted := by
    rw [seatIn_port]
    split
    · decide
    · rename_i h0
      unfold rowsOf
      rw [if_neg h0]
      split <;> decide
  exact h

/-- R110, R111: a round end with room in the table raises Over-Temperature and Sensor Trust Lost. -/
theorem witness_RoundEndMovesTrustAndTakesReadings_alarms :
    let held : List (Taken × RawCode) := [(⟨0, .temperature, 0, 1, false⟩, 1023#10)]
    let on : Settings := { Settings.factory with
      channels := Settings.factory.channels.set 0 { ChanCfg.factory 0 with enabled := true, hiEnable := true } }
    let s (tr : Trust) (n : Nat) : State :=
      { atReference held with
        cfg := on
        env := { (atReference held).env with trust := tr, fails := n }
        chassis := { upS.chassis with alm := almOf 0 } }
    ((s .trusted 0).chassis.alm.Ok ∧ (s .trusted 0).chassis.alm.entries.length ≤ 10 ∧ (s .trusted 0).env.turnOff = false) ∧
    got (exec (.roundEnd 512#10) (s .trusted 0)) (fun t => t.chassis.alm.entries.any (fun e => e.hasKey .overTemperature 0))
      = some true ∧
    got (exec (.roundEnd 0#10) (s .trusted 1)) (fun t => (t.env.trust,
      t.chassis.alm.entries.any (fun e => e.hasKey .sensorTrustLost 0))) = some (.lost, true) :=
  ⟨⟨⟨by decide, by decide, (by intro e h; cases h), by decide⟩, by decide, rfl⟩, by decide +kernel, by decide +kernel⟩

theorem witness_SupplySampleMovesSlots_alarms :
    let s (v : SlotState) : State := { upS with env := { upS.env with slots := upS.env.slots.set 0 ⟨.good, some (v, 2)⟩ } }
    (upS.chassis.alm.Ok ∧ upS.chassis.alm.entries.length + 8 ≤ 64 ∧ ∀ v, (s v).chassis.alm = upS.chassis.alm) ∧
    got (exec (.supplySample 1#4 0#4) (s .fault)) (fun t => t.chassis.alm.entries.any (fun e => e.hasKey .supplyFault 0))
      = some true ∧
    got (exec (.supplySample 0#4 0#4) (s .absent)) (fun t => t.chassis.alm.entries.any (fun e => e.hasKey .supplyAbsent 0))
      = some true :=
  ⟨⟨⟨by decide, by decide, (by intro e h; cases h), by decide⟩, by decide, fun _ => rfl⟩, by decide +kernel, by decide +kernel⟩

/-- `upS` with port 0 in a state, and supply settled with `n` Good slots. -/
def powered (st : PortState) (n : Nat) : State :=
  let c := upS.chassis
  { upS with chassis := { c with
      ports := c.ports.set 0 (rowOf st)
      pwr := { c.pwr with
        inputs := { c.pwr.inputs with
          slots := Vector.ofFn (fun k => if k.val < n then .good else .absent)
          settled := true, good := 6, present := 6, blades := 1 }
        waitList := st.waitKind.toList.map (fun k => ⟨0, k, 0, 0⟩)
        nextJoin := 1 } } }

theorem witness_EvaluationKeepsDemandInBudget_sheds :
    let x := upS.ctx
    let c := (powered .online 0).chassis
    let d := c.evaluate x
    c.pwr.inputs.settled = true ∧ (c.pwr.inputs.stages x.cfg).budget x.cfg.power < c.demand x ∧
    (∀ p, (c.port p).granted.isSome = true → (c.port p).state = .linkWait ∨ (c.port p).state = .online) ∧
    (x.cfg.port 0).priority ≤ 6 ∧ (c.pwr.episode = false ∧ c.pwr.redundancyLost = false ∧ c.alm.entries.length < 63) ∧
    ((d.port 0).state, d.pwr.episode, d.pwr.redundancyLost) = (.shed, true, true) := by
  refine ⟨rfl, by decide +kernel, fun p hp => ?_, by decide +kernel, by decide, by decide +kernel⟩
  have h : (powered .online 0).chassis.port p = if p = 0 then rowOf .online else upS.chassis.port p := by
    by_cases h0 : p = 0
    · subst h0; simp [powered, Chassis.port]
    · have h' : ¬ 0 = p.val := fun h => h0 (Fin.ext h.symm)
      simp only [powered, Chassis.port, Vector.getElem_set, if_neg h', if_neg h0]
  have hp : ((powered .online 0).chassis.port p).granted.isSome = true := hp
  show ((powered .online 0).chassis.port p).state = _ ∨ ((powered .online 0).chassis.port p).state = _
  rw [h] at hp ⊢
  by_cases h0 : p = 0
  · rw [if_pos h0]; exact .inr rfl
  · rw [if_neg h0, upS_port] at hp
    cases hp

theorem witness_GovernorTimersRunOut_grants :
    let s (ho : Option Nat) : State :=
      let u := powered .powerWait 4
      { u with chassis := { u.chassis with pwr := { u.chassis.pwr with holdoff := ho } } }
    let c := (s none).chassis
    let budget := (c.pwr.inputs.stages (s none).cfg).budget (s none).cfg.power
    (∀ ho, (s ho).Runs ∧ (s ho).chassis.pwr.inputs.settled = true ∧ (s ho).chassis.pwr.holdoff = ho) ∧
    c.demand (s none).ctx ≤ budget ∧ (∀ e ∈ c.pwr.waitList, (c.port e.port).granted = none) ∧
    (c.pwr.waitList.map WaitEntry.port).Nodup ∧ c.pwr.waitList.Pairwise (fun a b => a.joinNo < b.joinNo) ∧
    ((c.evaluate (s none).ctx).port 0).granted = some .c4 ∧
    (∀ k ∈ [4294967295, 4294967296],
      let d := Chassis.joinWait upS.ctx 1 .shed { c with pwr := { c.pwr with nextJoin := k } }
      d.pwr.nextJoin = if k ≤ 4294967295 then 4294967296 else 2) := by
  exact ⟨fun _ => ⟨⟨(by decide : Monitor.normal ≠ .lost), rfl⟩, rfl, rfl⟩, by decide +kernel, by decide +kernel,
    by decide +kernel, by decide +kernel, by decide +kernel, by decide +kernel⟩

theorem witness_AcknowledgeAndPulseEnd_full :
    let e : AlarmEntry := ⟨.alarmTableFull, 0, .raised, 0, some 2000⟩
    let s : State := { upS with chassis := { upS.chassis with alm := { almOf 64 with full := some e } } }
    s.Runs ∧ s.chassis.alm.Ok ∧ s.chassis.alm.full = some e ∧
    (∀ f ∈ s.chassis.alm.entries, ¬ (f.kind = .alarmTableFull ∧ f.subject = 0)) ∧ upS.EndAgrees :=
  ⟨upS_runs, ⟨by decide, by decide +kernel, (by intro e h; cases h; exact ⟨rfl, rfl⟩), by decide⟩, rfl, by decide +kernel,
    upS_endAgrees⟩

theorem witness_SaveRestartAndWriteCompletion_starts :
    let s (dip l z c : Bool) : State := { upS with
      store := { upS.store with writer := .writing (.zones ⟨setA, 3⟩), zonesDirty := z, settingsDirty := c }
      chassis := { upS.chassis with licencesDirty := l, alm := { upS.chassis.alm with dip := dip } } }
    let idle (dip : Bool) : State := { upS with
      store := { upS.store with writer := .idle, zonesDirty := false, settingsDirty := false }
      chassis := { upS.chassis with alm := { upS.chassis.alm with dip := dip } } }
    (∀ dip l z c, (s dip l z c).store.monitor ≠ .lost ∧ (s dip l z c).store.writer = .writing (.zones ⟨setA, 3⟩) ∧
      (s dip l z c).chassis.alm.dip = dip ∧ (s dip l z c).chassis.licencesDirty = l ∧ (s dip l z c).store.zonesDirty = z ∧
      (s dip l z c).store.settingsDirty = c) ∧
    (∀ dip, (asks .save [] (idle dip)).Serves (one .save []) .save readUnit () ∧ (one .save []).live = true ∧
      (idle dip).chassis.alm.dip = dip) ∧
    (∀ dip ∈ [false, true], (idle dip).store.writer = .idle ∧ (idle dip).marked = false) ∧
    (let t : State := { editing setA (.validating 3) upS with store := (s false false false false).store }
     t.Runs ∧ t.zone.commit = .validating 3 ∧ t.zone.edit.Full ∧ t.store.writer = .writing (.zones ⟨setA, 3⟩)) :=
  ⟨fun _ _ _ _ => ⟨(by decide : Monitor.normal ≠ .lost), rfl, rfl, rfl, rfl, rfl⟩,
    fun _ => ⟨asks_serves _ _ _ _ _ upS_runs rfl, rfl, rfl⟩, by decide +kernel,
    ⟨(by decide : Monitor.normal ≠ .lost), rfl⟩, rfl, by unfold ZoneSet.Full; decide, rfl⟩

theorem witness_EveryStepKeepsTableBounds_traffic :
    let s (st : PortState) (c : Instr) : State :=
      { portIn st with pending := [c], chassis := { (portIn st).chassis with logins := [⟨5, 0⟩], slots := [(0, .disable)] } }
    (∀ st ∈ [PortState.online, .draining .unseated 9], ∀ c,
      (s st c).PortsOk ∧ (s st c).chassis.LoginsOk ∧ (s st c).chassis.TrafficOk) ∧
    got (step (s .online (.login 0 6))) (fun t => t.chassis.loginCount 0) = some 2 ∧
    got (step (s (.draining .unseated 9) (.logout 0 5))) (fun t => t.chassis.logins) = some [] := by
  refine ⟨fun st hst c => ⟨portIn_ok st ?_, ?_, ?_⟩, by decide +kernel, by decide +kernel⟩
  · rintro rfl; simp at hst
  · refine ⟨by simp, by simp [Config.loginCap], fun p => ?_⟩
    show (List.filter _ [_]).length ≤ _
    exact (List.length_filter_le _ _).trans (by decide)
  · refine ⟨?_, fun p h => ?_, by simp⟩
    · intro e he
      obtain rfl : e = ⟨5, 0⟩ := by simpa using he
      show ((portIn st).chassis.port 0).state = .online ∨ ((portIn st).chassis.port 0).state.isDraining = true
      rw [portIn_port]
      simp only [List.mem_cons, List.not_mem_nil, or_false] at hst
      rcases hst with rfl | rfl
      · exact .inl rfl
      · exact .inr rfl
    · have h : ((portIn st).chassis.port p).state.isDraining = true := h
      rw [portIn_port] at h
      by_cases h0 : p = 0
      · subst h0
        show 0 < (List.filter (fun e : LoginEntry => e.port == 0) [⟨5, 0⟩]).length
        decide
      · unfold rowsOf at h
        rw [if_neg h0] at h
        split at h <;> cases h

theorem witness_EveryStepKeepsPortTable_bindings :
    let s : State := { seatIn .online [nine none, lic 8 .c4 none .active] with pending := [.linkDown 0] }
    s.PortsOk ∧ s.chassis.LicencesOk ∧ s.chassis.BindingsOk ∧
    got (step s) (fun t => ((t.chassis.port 0).state, (t.chassis.port 0).binding)) = some (.linkWait, .licence 9) :=
  ⟨seatIn_ok .online _ rfl, (by unfold Chassis.LicencesOk Licence.Ok; decide +kernel),
    seatIn_bindings .online _ [lic 8 .c4 none .active] rfl rfl (by decide), by decide +kernel⟩

theorem witness_EveryStepKeepsPortTable_demand :
    let s (n b : Nat) : State := { powered .online n with
      pending := [.holdoffExpiry]
      chassis := { (powered .online n).chassis with pwr := { (powered .online n).chassis.pwr with
        budget := b, holdoff := some 9 } } }
    (s 4 5000).DemandOk ∧ ¬ (s 4 0).DemandOk ∧ got (step (s 0 5000)) (fun t => (t.chassis.port 0).granted) = some none := by
  unfold State.DemandOk
  exact ⟨by decide +kernel, by decide +kernel, by decide +kernel⟩

end Sys2Proof.Tests
end

/-! # Admission: a query's arrival (R33) -/

namespace Sys2Proof.Machine

/-- R29, R33: below 64 items the answer list takes the item at its tail. -/
theorem State.addAnswer_of_lt {s : State} (a : Answer) (h : s.link.answers.length < 64) :
    s.addAnswer a = { s with link := { s.link with answers := s.link.answers ++ [a] } } :=
  if_pos h

/-- R29, R33: at 64 items the item is dropped. -/
theorem State.addAnswer_of_ge {s : State} (a : Answer) (h : 64 ≤ s.link.answers.length) : s.addAnswer a = s :=
  if_neg (Nat.not_lt.mpr h)

/-- R33: with a credit the query takes it and joins the tail of the query queue. -/
theorem State.queryArrives_of_pos {s : State} (q : Query) (h : 0 < s.link.queryCredits) :
    s.queryArrives q =
      { s with
        link := { s.link with queryCredits := s.link.queryCredits - 1 }
        queries := s.queries ++ [q] } :=
  if_pos h

/-- R33: without a credit the query is answered at once, its verdict offered to the answer list. -/
theorem State.queryArrives_of_eq_zero {s : State} (q : Query) (h : s.link.queryCredits = 0) :
    s.queryArrives q = s.addAnswer (.overload ⟨q.tag, .denyOverload, s.zone.generation, none⟩) :=
  if_neg (Nat.not_lt.mpr h.le)

/-- The command is the event of an inbound frame that carries the query. -/
theorem exec_admissionQuery (tag : Word16) (p : PortId) (src dst : Addr) (cls : Byte) (s : State) :
    exec (.admissionQuery tag p src dst cls) s =
      s.event (State.frameIn (Instr.wf (.admissionQuery tag p src dst cls))
        (State.queryArrives ⟨tag, p, src, dst, FrameClass.ofByte cls⟩)) :=
  rfl

/-- R170, R173, R33: while the link is UP, an Admission Query whose class is in range is a query that arrives. -/
theorem leaves_admissionQuery {s s' : State} (tag : Word16) (p : PortId) (src dst : Addr) {cls : Byte} (hr : s.Runs)
    (hup : s.link.state = .up) (hcls : cls.toNat ≤ 1)
    (ha : s.queryArrives ⟨tag, p, src, dst, FrameClass.ofByte cls⟩ = s') :
    Leaves (.admissionQuery tag p src dst cls) s s' := by
  have hwf : Instr.wf (.admissionQuery tag p src dst cls) = true := decide_eq_true hcls
  exact leaves_of_event hr (exec_admissionQuery ..) (by rw [State.frameIn_up hup hwf, ha])

/-- Settles O9: the arrival is split by the credits, and without one by the room in the answer list. -/
theorem queryTakesCreditOrOverload : Obligations.QueryTakesCreditOrOverload := by
  intro s tag p src dst cls hr hup hcls q
  refine ⟨fun hpos => ?credit, fun h0 hroom => ?overload, fun h0 hfull => ?dropped⟩
  all_goals apply leaves_admissionQuery tag p src dst hr hup hcls
  case credit => exact State.queryArrives_of_pos q hpos
  case overload => exact (State.queryArrives_of_eq_zero q h0).trans (State.addAnswer_of_lt _ hroom)
  case dropped => exact (State.queryArrives_of_eq_zero q h0).trans (State.addAnswer_of_ge _ hfull)

end Sys2Proof.Machine

/-! # The member commands of a zone (R63, R64) -/

namespace Sys2Proof.Machine

/-! ## A zone found by its name -/

/-- A name that no zone of the set holds finds no zone. -/
theorem ZoneSet.zone?_eq_none {e : ZoneSet} {n : List Byte} (h : ∀ z ∈ e.zones, z.name ≠ n) : e.zone? n = none := by
  simpa [ZoneSet.zone?] using h

/-- R49: zone names are unique in a set, so a zone of the set is the one that its name finds. -/
theorem ZoneSet.Ok.zone?_of_mem {e : ZoneSet} (he : e.Ok) {z : Zone} {n : List Byte} (hz : z ∈ e.zones)
    (hn : z.name = n) : e.zone? n = some z := by
  obtain ⟨-, -, hnodup, -, -⟩ := he
  obtain ⟨w, hw⟩ : ∃ w, e.zone? n = some w :=
    Option.isSome_iff_exists.1 (List.find?_isSome.2 ⟨z, hz, beq_iff_eq.2 hn⟩)
  have hwn : w.name = n := beq_iff_eq.1 (List.find?_some hw :)
  have hwz : w = z := List.inj_on_of_nodup_map hnodup (List.mem_of_find?_eq_some hw) hz (hwn.trans hn.symm)
  rw [hw, hwz]

/-- A change of the member list of the zone of a name leaves every other zone, and all indexes and names. -/
theorem ZoneSet.onZone_members (e : ZoneSet) (n : List Byte) (g : List Member → List Member) :
    e.onZone n (fun z => { z with members := g z.members }) =
      { e with zones := e.zones.map (fun z => if z.name = n then ⟨z.name, g z.members⟩ else z) } := by
  simp [ZoneSet.onZone]

/-! ## What the member commands make of an edit set, a case each -/

/-- The values of a member command are in range (R63, R64): its zone name, and a Range with its base no greater than
its limit. -/
def MemberForm.Fine (f : MemberForm) : Prop := nameOk f.zone = true ∧ f.member.ok = true

/-- The range check, which the two member commands share, refuses exactly what is out of range. -/
theorem MemberForm.rangeCheck_iff (f : MemberForm) : (!nameOk f.zone || !f.member.ok) = true ↔ ¬ f.Fine := by
  simp only [MemberForm.Fine, Bool.or_eq_true, Bool.not_eq_true', not_and_or, Bool.not_eq_true]

section MemberChecks

variable {e : ZoneSet} {f : MemberForm} {z : Zone}

/-- R63: the range check is the first. -/
theorem ZoneSet.addMember_of_not_fine (hf : ¬ f.Fine) : e.addMember f = .error .refusedRange :=
  if_pos (f.rangeCheck_iff.2 hf)

/-- R63: a full set refuses every member, whether or not the zone exists. -/
theorem ZoneSet.addMember_of_set_full (hf : f.Fine) (ht : 4096 ≤ e.total) : e.addMember f = .error .refusedFull := by
  rw [ZoneSet.addMember, if_neg (f.rangeCheck_iff.not_left.2 hf), Config.setMemberCap, if_pos ht]

/-- R63: below the set's limit, a zone that does not exist. -/
theorem ZoneSet.addMember_of_unknown (hf : f.Fine) (ht : e.total < 4096) (hz : e.zone? f.zone = none) :
    e.addMember f = .error .refusedUnknown := by
  rw [ZoneSet.addMember, if_neg (f.rangeCheck_iff.not_left.2 hf), Config.setMemberCap,
    if_neg (Nat.not_le.2 ht), hz]

/-- R63: below the set's limit, what is left to check is the named zone. -/
theorem ZoneSet.addMember_of_zone (hf : f.Fine) (ht : e.total < 4096) (hz : e.zone? f.zone = some z) :
    e.addMember f =
      if 256 ≤ z.members.length then .error .refusedFull
      else if f.member ∈ z.members then .error .refusedDuplicate
      else .ok (e.onZone f.zone (fun z => { z with members := z.members ++ [f.member] })) := by
  rw [ZoneSet.addMember, if_neg (f.rangeCheck_iff.not_left.2 hf), Config.setMemberCap,
    if_neg (Nat.not_le.2 ht), hz]
  simp only [List.contains_iff_mem, Config.zoneMemberCap]

/-- R64: the range check is the first. -/
theorem ZoneSet.removeMember_of_not_fine (hf : ¬ f.Fine) : e.removeMember f = .error .refusedRange :=
  if_pos (f.rangeCheck_iff.2 hf)

/-- R64: a zone that does not exist. -/
theorem ZoneSet.removeMember_of_unknown (hf : f.Fine) (hz : e.zone? f.zone = none) :
    e.removeMember f = .error .refusedUnknown := by
  rw [ZoneSet.removeMember, if_neg (f.rangeCheck_iff.not_left.2 hf), hz]

/-- R64: what is left to check is whether the named zone has the member. -/
theorem ZoneSet.removeMember_of_zone (hf : f.Fine) (hz : e.zone? f.zone = some z) :
    e.removeMember f =
      if f.member ∈ z.members then
        .ok (e.onZone f.zone (fun z => { z with members := z.members.filter (fun m => m != f.member) }))
      else .error .refusedUnknown := by
  rw [ZoneSet.removeMember, if_neg (f.rangeCheck_iff.not_left.2 hf), hz]
  simp only [List.contains_iff_mem]

end MemberChecks

/-! ## An edit command whose origin may edit -/

/-- R58: once the claim and the commit in flight are checked, an edit command is its own checks: a refusal leaves the
state, and a new edit set replaces the old one. -/
theorem State.MayEdit.editCommand {s : State} {pr : Proc} (h : s.MayEdit pr.origin)
    (g : ZoneSet → Except Status ZoneSet) :
    s.editCommand g pr =
      (g s.zone.edit).casesOn (fun st => (s, plain st)) (fun e => (s.edited e, plain .done)) := by
  obtain ⟨howner, hcommit⟩ := h
  have hflight : ¬ s.zone.commit.inFlight = true := by
    cases hc : s.zone.commit with
    | validating d => exact absurd hc (hcommit d)
    | idle | armed => exact Bool.false_ne_true
  rw [State.editCommand, if_neg (not_not.2 howner), if_neg hflight]
  cases g s.zone.edit <;> rfl

section EditCommand

variable {α : Type} {c : Instr} {s : State} {pr : Proc} {cmd : Cmd} {read : List Byte → Option α} {a : α}
  {g : α → ZoneSet → Except Status ZoneSet}

/-- R58: an edit command that its own checks refuse leaves the state with the refusal recorded. -/
theorem leaves_of_edit_error {st : Status}
    (hc : exec c s = s.event (State.command cmd read (fun pr a s => s.editCommand (g a) pr)))
    (h : s.Serves pr cmd read a) (hm : s.MayEdit pr.origin) (hg : g a s.zone.edit = .error st) :
    Leaves c s (s.answer ⟨st, []⟩) :=
  leaves_of_command hc h (by rw [hm.editCommand, hg]; rfl)

/-- R58: an edit command that its own checks pass leaves the new edit set with Done recorded. -/
theorem leaves_of_edit_ok {e : ZoneSet}
    (hc : exec c s = s.event (State.command cmd read (fun pr a s => s.editCommand (g a) pr)))
    (h : s.Serves pr cmd read a) (hm : s.MayEdit pr.origin) (hg : g a s.zone.edit = .ok e) :
    Leaves c s (State.answer ⟨.done, []⟩ (s.edited e)) :=
  leaves_of_command hc h (by rw [hm.editCommand, hg]; rfl)

end EditCommand

/-- Member Add is an edit command. -/
theorem exec_memberAdd (s : State) :
    exec .memberAdd s =
      s.event (State.command .memberAdd readMember (fun pr f s => s.editCommand (ZoneSet.addMember f) pr)) :=
  rfl

/-- Member Remove is an edit command. -/
theorem exec_memberRemove (s : State) :
    exec .memberRemove s =
      s.event (State.command .memberRemove readMember (fun pr f s => s.editCommand (ZoneSet.removeMember f) pr)) :=
  rfl

/-- Settles O32: each command is split by its checks in their order, and the zone that a name finds is the one zone of
the edit set with that name. -/
theorem memberCommandsChangeZone : Obligations.MemberCommandsChangeZone := by
  intro s pr f hmay hok e done no fine
  refine ⟨fun h => ?add, fun h => ?remove⟩
  case add =>
    have refuses {st : Status} : e.addMember f = .error st → Leaves .memberAdd s (no st) :=
      leaves_of_edit_error (exec_memberAdd s) h hmay
    refine ⟨fun hf => refuses (ZoneSet.addMember_of_not_fine hf),
      fun hf ht => refuses (ZoneSet.addMember_of_set_full hf ht),
      fun hf ht hn => refuses (ZoneSet.addMember_of_unknown hf ht (ZoneSet.zone?_eq_none hn)),
      fun z hz hf ht hn => ?_⟩
    have hadd := ZoneSet.addMember_of_zone hf ht (hok.zone?_of_mem hz hn)
    refine ⟨fun hl => refuses ?_, fun hl hm => refuses ?_, fun hl hm => ?_⟩
    · rw [hadd, if_pos hl]
    · rw [hadd, if_neg (Nat.not_le.2 hl), if_pos hm]
    · refine leaves_of_edit_ok (exec_memberAdd s) h hmay ?_
      rw [hadd, if_neg (Nat.not_le.2 hl), if_neg hm]
      exact congrArg Except.ok (e.onZone_members f.zone (fun ms => ms ++ [f.member]))
  case remove =>
    have refuses {st : Status} : e.removeMember f = .error st → Leaves .memberRemove s (no st) :=
      leaves_of_edit_error (exec_memberRemove s) h hmay
    refine ⟨fun hf => refuses (ZoneSet.removeMember_of_not_fine hf),
      fun hf hn => refuses (ZoneSet.removeMember_of_unknown hf (ZoneSet.zone?_eq_none hn)),
      fun z hz hf hn => ?_⟩
    have hremove := ZoneSet.removeMember_of_zone hf (hok.zone?_of_mem hz hn)
    refine ⟨fun hm => refuses ?_, fun hm => ?_⟩
    · rw [hremove, if_neg hm]
    · refine leaves_of_edit_ok (exec_memberRemove s) h hmay ?_
      rw [hremove, if_pos hm]
      exact congrArg Except.ok (e.onZone_members f.zone (fun ms => ms.filter (fun m => m != f.member)))

end Sys2Proof.Machine

/-! # The machine: what a step is made of -/

namespace Sys2Proof.Machine

/-! ## The events of the part, each as the function of the state that its command runs -/

/-- The event of a management command's row. -/
def Cmd.effect : Cmd → State → State
  | .portEnable => State.command .portEnable readPort (fun _ p s => (s.portEnable p, plain .done))
  | .portDisable => State.command .portDisable readPort (fun _ p s => (s.portDisable p, plain .done))
  | .portSet => State.command .portSet readPortSet (fun _ f s => s.portSet f)
  | .portRead => State.command .portRead readPort (fun _ p s => (s, doneWith (s.portData p)))
  | .loginRead => State.command .loginRead readLoginRead (fun _ f s => (s, s.chassis.loginRead f))
  | .editBegin => State.command .editBegin readUnit (fun pr _ s => s.editBegin pr)
  | .editAbort => State.command .editAbort readUnit (fun pr _ s => s.editAbort pr)
  | .setRename => State.command .setRename readName (fun pr n s => s.editCommand (ZoneSet.rename n) pr)
  | .defaultAccessSet =>
    State.command .defaultAccessSet (readNat 1) (fun pr v s => s.editCommand (ZoneSet.setAccess v) pr)
  | .zoneCreate => State.command .zoneCreate readZoneCreate (fun pr f s => s.editCommand (ZoneSet.create f) pr)
  | .zoneDelete => State.command .zoneDelete readName (fun pr n s => s.editCommand (ZoneSet.delete n) pr)
  | .zoneRename => State.command .zoneRename readZoneRename (fun pr f s => s.editCommand (ZoneSet.renameZone f) pr)
  | .memberAdd => State.command .memberAdd readMember (fun pr f s => s.editCommand (ZoneSet.addMember f) pr)
  | .memberRemove => State.command .memberRemove readMember (fun pr f s => s.editCommand (ZoneSet.removeMember f) pr)
  | .zoneCommit => State.command .zoneCommit readUnit (fun pr _ s => s.zoneCommit pr)
  | .zoneRead => State.command .zoneRead readZoneRead (fun _ f s => (s, s.zoneRead f))
  | .claimTimeSet => State.command .claimTimeSet (readNat 2) (fun _ n s => s.claimTimeSet n)
  | .licenceInstall => State.command .licenceInstall readLicenceInstall (fun _ f s => s.licenceInstall f)
  | .licenceRevoke => State.command .licenceRevoke (readNat 2) (fun _ id s => s.licenceRevoke id)
  | .licenceRemove => State.command .licenceRemove (readNat 2) (fun _ id s => s.licenceRemove id)
  | .licenceWarnSet => State.command .licenceWarnSet readWarn (fun _ f s => s.licenceWarnSet f)
  | .graceSet => State.command .graceSet (readNat 2) (fun _ n s => s.graceSet n)
  | .licenceRead => State.command .licenceRead readLicenceRead (fun _ f s => (s, s.licenceRead f))
  | .channelSet => State.command .channelSet readChannelSet (fun _ f s => s.channelSet f)
  | .scannerSet => State.command .scannerSet readScannerSet (fun _ f s => s.scannerSet f)
  | .readNow => State.readNow
  | .environmentRead => State.command .environmentRead readUnit (fun _ _ s => (s, doneWith s.environmentData))
  | .coolingSet => State.command .coolingSet readCoolingSet (fun _ f s => s.coolingSet f)
  | .coolingRead => State.command .coolingRead readUnit (fun _ _ s => (s, doneWith s.coolingData))
  | .supplySet => State.command .supplySet readSupplySet (fun _ f s => s.supplySet f)
  | .powerSet => State.command .powerSet readPowerSet (fun _ f s => s.powerSet f)
  | .powerRead => State.command .powerRead readUnit (fun _ _ s => (s, doneWith s.powerData))
  | .acknowledge => State.command .acknowledge readAck (fun _ f s => s.acknowledge f)
  | .alarmSet => State.command .alarmSet readAlarmSet (fun _ f s => s.alarmSet f)
  | .alarmRead => State.command .alarmRead readUnit (fun _ _ s => (s, doneWith s.alarmData))
  | .addressSet =>
    State.command .addressSet (readNat 3)
      (fun _ a s => ({ s with cfg := { s.cfg with mgmtAddr := BitVec.ofNat 24 a } }, plain .done))
  | .save => State.command .save readUnit (fun _ _ s => s.save)
  | .restart => State.command .restart readUnit (fun pr _ s => s.restartCommand pr)
  | .identityRead => State.command .identityRead readUnit (fun _ _ s => (s, doneWith s.identityData))

end Sys2Proof.Machine

namespace Sys2Proof

open Machine in
/-- The event of a command: what `exec` hands to `State.event` or `State.eventInHold` (`exec_eq_event` and the
lemmas after it). The loss of the rail, the resets and the RESET line are no such event. -/
def Instr.effect : Instr → State → State
  | .admissionQuery tag ingress src dst cls =>
    State.frameIn (Instr.wf (.admissionQuery tag ingress src dst cls))
      (State.queryArrives ⟨tag, ingress, src, dst, FrameClass.ofByte cls⟩)
  | .linkUp port cls =>
    State.frameIn (Instr.wf (.linkUp port cls))
      (State.onChassis (fun _ c => match RateClass.ofNum? cls.toNat with | some k => c.linkUp port k | none => c))
  | .linkDown port => State.frameIn true (State.onChassis (fun x => Chassis.linkDown x (outer x) port))
  | .portFault port => State.frameIn true (State.onChassis (fun x => Chassis.portFault x (outer x) port))
  | .faultCleared port => State.frameIn true (State.onChassis (fun x => Chassis.faultCleared x (outer x) port))
  | .login port addr => State.frameIn true (State.login port addr)
  | .logout port addr => State.frameIn true (State.onChassis (fun x => Chassis.logout x (outer x) port addr))
  | .bladeEventInserted blade =>
    State.frameIn (Instr.wf (.bladeEventInserted blade))
      (State.onChassis (fun x c => match bladeOfByte? blade with | some b => c.insertBlade x b | none => c))
  | .bladeEventRemoved blade =>
    State.frameIn (Instr.wf (.bladeEventRemoved blade))
      (State.onChassis (fun x c => match bladeOfByte? blade with | some b => c.removeBlade x b | none => c))
  | .managementRequest origin privilege number cmds =>
    State.frameIn (Instr.wf (.managementRequest origin privilege number cmds))
      (fun s => match Privilege.ofByte? privilege with | some pv => s.requestArrives ⟨origin, pv, number, cmds⟩ | none => s)
  | .discardedFrame _ => id
  | .lineActivity => State.activity
  | .trainingComplete => State.enterUp
  | .lossOfSync => State.lossOfSync
  | .outboundFrameEnd => State.frameEnd
  | .queryEvaluation => State.evaluateQuery
  | .unknownCommandCode => State.unknownCode
  | .readNowConversionEnd code => State.readNowEnd code
  | .secondsCounterAdvance => State.secondEnds
  | .hourTick => State.hourTick
  | .drainTimerExpiry port => State.drainTimer port
  | .holdoffExpiry => State.holdoffEnd
  | .pacingWindowEnd => State.pacingEnd
  | .waitTimerExpiry => State.waitTimerEnd
  | .claimTimerExpiry => State.claimTimer
  | .validationEnd => State.validationEnd
  | .settlingEnd => State.settlingEnd
  | .restIntervalEnd => State.restEnd
  | .conversionEnd code => State.conversionEnd code
  | .roundEnd refCode => State.roundEnd refCode
  | .tachPulse tray => State.pulse tray
  | .gateEnd tray => State.gateEnd tray
  | .presenceLost tray => State.trayLost tray
  | .presenceGained tray => State.trayGained tray
  | .supplySample seated outputGood => State.supplySample seated outputGood
  | .pulseTimerExpiry kind subject => State.pulseEnd kind subject
  | .railBelowWarning => State.railLow
  | .standbyLowEntry => State.enterLow
  | .standbyReturnNormal => State.railBack
  | .writeCompletion => State.writeEnds
  | .portEnable => Cmd.effect .portEnable
  | .portDisable => Cmd.effect .portDisable
  | .portSet => Cmd.effect .portSet
  | .portRead => Cmd.effect .portRead
  | .loginRead => Cmd.effect .loginRead
  | .editBegin => Cmd.effect .editBegin
  | .editAbort => Cmd.effect .editAbort
  | .setRename => Cmd.effect .setRename
  | .defaultAccessSet => Cmd.effect .defaultAccessSet
  | .zoneCreate => Cmd.effect .zoneCreate
  | .zoneDelete => Cmd.effect .zoneDelete
  | .zoneRename => Cmd.effect .zoneRename
  | .memberAdd => Cmd.effect .memberAdd
  | .memberRemove => Cmd.effect .memberRemove
  | .zoneCommit => Cmd.effect .zoneCommit
  | .zoneRead => Cmd.effect .zoneRead
  | .claimTimeSet => Cmd.effect .claimTimeSet
  | .licenceInstall => Cmd.effect .licenceInstall
  | .licenceRevoke => Cmd.effect .licenceRevoke
  | .licenceRemove => Cmd.effect .licenceRemove
  | .licenceWarnSet => Cmd.effect .licenceWarnSet
  | .graceSet => Cmd.effect .graceSet
  | .licenceRead => Cmd.effect .licenceRead
  | .channelSet => Cmd.effect .channelSet
  | .scannerSet => Cmd.effect .scannerSet
  | .readNow => Cmd.effect .readNow
  | .environmentRead => Cmd.effect .environmentRead
  | .coolingSet => Cmd.effect .coolingSet
  | .coolingRead => Cmd.effect .coolingRead
  | .supplySet => Cmd.effect .supplySet
  | .powerSet => Cmd.effect .powerSet
  | .powerRead => Cmd.effect .powerRead
  | .acknowledge => Cmd.effect .acknowledge
  | .alarmSet => Cmd.effect .alarmSet
  | .alarmRead => Cmd.effect .alarmRead
  | .addressSet => Cmd.effect .addressSet
  | .save => Cmd.effect .save
  | .restart => Cmd.effect .restart
  | .identityRead => Cmd.effect .identityRead
  | .standbyLost | .coldStart _ | .resetLineAssert | .resetLineRelease => id

end Sys2Proof

namespace Sys2Proof.Machine

/-- The commands that act in a hold, one by one. -/
theorem actsInHold_cases {c : Instr} (h : actsInHold c = true) :
    (∃ b, c = .coldStart b) ∨ (∃ k, c = .presenceLost k) ∨ (∃ k, c = .presenceGained k) ∨ c = .resetLineAssert ∨
      c = .resetLineRelease ∨ c = .railBelowWarning ∨ c = .standbyLowEntry ∨ c = .standbyReturnNormal ∨
      c = .standbyLost ∨ c = .writeCompletion := by
  unfold actsInHold at h
  split at h
  case h_11 => exact Bool.noConfusion h
  all_goals simp

/-- Outside the commands that act in a hold, a command is the event of its effect. -/
theorem exec_eq_event {c : Instr} (h : actsInHold c = false) (s : State) : exec c s = s.event c.effect := by
  cases c
  case railBelowWarning | standbyLowEntry | standbyReturnNormal | standbyLost | coldStart | resetLineAssert |
    resetLineRelease | writeCompletion | presenceLost | presenceGained => exact absurd h (by simp [actsInHold])
  all_goals rfl

/-- The row of a management command is the event of its effect. -/
theorem exec_row (cmd : Cmd) (s : State) : exec cmd.row s = s.event cmd.effect := by
  cases cmd <;> rfl

theorem exec_presenceLost (k : TrayId) (s : State) :
    exec (.presenceLost k) s = (s.setPresence k false).event (State.trayLost k) := rfl

theorem exec_presenceGained (k : TrayId) (s : State) :
    exec (.presenceGained k) s = (s.setPresence k true).event (State.trayGained k) := rfl

theorem exec_railBelowWarning (s : State) : exec .railBelowWarning s = s.eventInHold State.railLow := rfl
theorem exec_standbyLowEntry (s : State) : exec .standbyLowEntry s = s.eventInHold State.enterLow := rfl
theorem exec_standbyReturnNormal (s : State) : exec .standbyReturnNormal s = s.eventInHold State.railBack := rfl
theorem exec_writeCompletion (s : State) : exec .writeCompletion s = s.eventInHold State.writeEnds := rfl

theorem exec_resetLineRelease (s : State) :
    exec .resetLineRelease s =
      State.event (fun t => if s.resetHeld then t.release else t) { s with resetHeld := false } := rfl

/-- R190: above the retention level the rail's fall below it stops the part. -/
theorem exec_standbyLost {s : State} (h : s.store.monitor ≠ .lost) :
    exec .standbyLost s = .next s.loseRail.driveLines := if_neg h

/-- R190, R191: the Cold Start of a part in Lost. -/
theorem exec_coldStart_of_lost {s : State} (h : s.store.monitor = .lost) (b : Bool) :
    exec (.coldStart b) s = .next (s.coldStartNow b).settle := if_pos h

/-- Outside Lost a Cold Start does not come. -/
theorem exec_coldStart_of_not_lost {s : State} (h : s.store.monitor ≠ .lost) (b : Bool) :
    exec (.coldStart b) s = .next s := if_neg h

/-- R191: the assertion of the RESET line in a part that takes events is a Restart. -/
theorem exec_resetLineAssert_of_runs {s : State} (h : s.Runs) :
    exec .resetLineAssert s = .next (State.restartBy .line { s with resetHeld := true }).settle := by
  have hn : ¬ (s.resetHeld = true ∨ s.store.monitor = .lost) := by simp [h.1, h.2]
  exact if_neg hn

/-- In Lost or under a held RESET line the line alone moves at its assertion. -/
theorem exec_resetLineAssert_of_not_runs {s : State} (h : ¬ s.Runs) :
    exec .resetLineAssert s = .next { s with resetHeld := true } := by
  have hn : s.resetHeld = true ∨ s.store.monitor = .lost := by
    by_contra hc
    rw [not_or, Bool.not_eq_true] at hc
    exact h ⟨hc.2, hc.1⟩
  exact if_pos hn

/-! ## Which events the part takes -/

/-- A part that takes events runs the event and its end. -/
theorem State.event_of_runs {s : State} (h : s.Runs) (f : State → State) : s.event f = .next (f s).settle := by
  have hn : ¬ (s.store.monitor = .lost ∨ s.resetHeld = true) := by simp [h.1, h.2]
  exact if_neg hn

/-- R190, R191: in Lost and under a held RESET line an event does not come. -/
theorem State.event_of_not_runs {s : State} (h : ¬ s.Runs) (f : State → State) : s.event f = .next s := by
  have hn : s.store.monitor = .lost ∨ s.resetHeld = true := by
    by_contra hc
    rw [not_or, Bool.not_eq_true] at hc
    exact h hc
  exact if_pos hn

theorem State.eventInHold_of_not_lost {s : State} (h : s.store.monitor ≠ .lost) (f : State → State) :
    s.eventInHold f = .next (f s).settle := if_neg h

theorem State.eventInHold_of_lost {s : State} (h : s.store.monitor = .lost) (f : State → State) :
    s.eventInHold f = .next s := if_pos h

/-- An event leaves the state, or is taken with its end. -/
theorem State.event_cases {f : State → State} {s t : State} (h : s.event f = .next t) :
    t = s ∨ (s.Runs ∧ t = (f s).settle) := by
  by_cases hr : s.Runs
  · rw [State.event_of_runs hr] at h
    exact .inr ⟨hr, (Host.Outcome.next.inj h).symm⟩
  · rw [State.event_of_not_runs hr] at h
    exact .inl (Host.Outcome.next.inj h).symm

/-- So does an event that is taken in a hold. -/
theorem State.eventInHold_cases {f : State → State} {s t : State} (h : s.eventInHold f = .next t) :
    t = s ∨ t = (f s).settle := by
  by_cases hr : s.store.monitor = .lost
  · rw [State.eventInHold_of_lost hr] at h
    exact .inl (Host.Outcome.next.inj h).symm
  · rw [State.eventInHold_of_not_lost hr] at h
    exact .inr (Host.Outcome.next.inj h).symm

/-! ## The step and the queue -/

/-- On an empty queue a step is idle. -/
theorem step_of_nil {s : State} (h : s.pending = []) : step s = .next s.idle := by
  unfold step
  split
  · rfl
  · rename_i heq; cases h.symm.trans heq

/-- The front command is taken off the queue and runs on the rest. -/
theorem step_of_cons {s : State} {c : Instr} {rest : List Instr} (h : s.pending = c :: rest) :
    step s = exec c { s with pending := rest } := by
  unfold step
  split
  · rename_i heq; cases h.symm.trans heq
  · rename_i heq; cases h.symm.trans heq; rfl

/-! ## What every step keeps -/

/-- A property that is kept by whatever a command can do: a line takes a level, an event runs, an event ends, the
rail is lost, a reset comes (`Kept.exec`, `Kept.step`). -/
structure Kept (P : State → Prop) : Prop where
  presence : ∀ s k b, P s → P (s.setPresence k b)
  hold : ∀ s b, P s → P { s with resetHeld := b }
  settle : ∀ s, P s → P s.settle
  effect : ∀ (c : Instr) s, P s → P (c.effect s)
  loseRail : ∀ s, P s → P s.loseRail.driveLines
  coldStart : ∀ s b, P s → P (s.coldStartNow b)
  restart : ∀ s cause, P s → P (s.restartBy cause)

section Kept

variable {P : State → Prop} (hP : Kept P)
include hP

/-- By an event. -/
theorem Kept.event {f : State → State} (hf : ∀ s, P s → P (f s)) {s t : State} (hs : P s)
    (h : s.event f = .next t) : P t := by
  rcases State.event_cases h with rfl | ⟨-, rfl⟩
  · exact hs
  · exact hP.settle _ (hf s hs)

/-- By an event that is taken in a hold. -/
theorem Kept.eventInHold {f : State → State} (hf : ∀ s, P s → P (f s)) {s t : State} (hs : P s)
    (h : s.eventInHold f = .next t) : P t := by
  rcases State.eventInHold_cases h with rfl | rfl
  · exact hs
  · exact hP.settle _ (hf s hs)

/-- R191: the presence changes taken at the line's release are the events of the trays. -/
theorem Kept.release (s : State) (hs : P s) : P s.release := by
  refine List.foldlRecOn (motive := P) _ _ hs fun u hu k _ => ?_
  unfold State.takePresence
  split
  · exact hP.effect (.presenceGained k) u hu
  · exact hP.effect (.presenceLost k) u hu

/-- What is so kept is kept by every command. -/
theorem Kept.exec {c : Instr} {s t : State} (hs : P s) (h : exec c s = .next t) : P t := by
  cases hc : actsInHold c with
  | false =>
    rw [exec_eq_event hc] at h
    exact hP.event (hP.effect c) hs h
  | true =>
    rcases actsInHold_cases hc with ⟨b, rfl⟩ | ⟨k, rfl⟩ | ⟨k, rfl⟩ | rfl | rfl | rfl | rfl | rfl | rfl | rfl
    · by_cases hl : s.store.monitor = .lost
      · cases (exec_coldStart_of_lost hl b).symm.trans h
        exact hP.settle _ (hP.coldStart s b hs)
      · cases (exec_coldStart_of_not_lost hl b).symm.trans h; exact hs
    · rw [exec_presenceLost] at h
      exact hP.event (f := State.trayLost k) (hP.effect (.presenceLost k)) (hP.presence s k false hs) h
    · rw [exec_presenceGained] at h
      exact hP.event (f := State.trayGained k) (hP.effect (.presenceGained k)) (hP.presence s k true hs) h
    · by_cases hr : s.Runs
      · cases (exec_resetLineAssert_of_runs hr).symm.trans h
        exact hP.settle _ (hP.restart _ _ (hP.hold s true hs))
      · cases (exec_resetLineAssert_of_not_runs hr).symm.trans h; exact hP.hold s true hs
    · rw [exec_resetLineRelease] at h
      refine hP.event (fun u hu => ?_) (hP.hold s false hs) h
      split
      · exact hP.release u hu
      · exact hu
    · rw [exec_railBelowWarning] at h
      exact hP.eventInHold (f := State.railLow) (hP.effect .railBelowWarning) hs h
    · rw [exec_standbyLowEntry] at h
      exact hP.eventInHold (f := State.enterLow) (hP.effect .standbyLowEntry) hs h
    · rw [exec_standbyReturnNormal] at h
      exact hP.eventInHold (f := State.railBack) (hP.effect .standbyReturnNormal) hs h
    · by_cases hl : s.store.monitor = .lost
      · cases (if_pos hl).symm.trans h; exact hs
      · cases (exec_standbyLost hl).symm.trans h; exact hP.loseRail s hs
    · rw [exec_writeCompletion] at h
      exact hP.eventInHold (f := State.writeEnds) (hP.effect .writeCompletion) hs h

/-- What is so kept, and reads neither the queue nor the clock, is kept by every step. -/
theorem Kept.step (hq : ∀ s q, P s → P { s with pending := q }) (hn : ∀ s n, P s → P { s with clockMs := n })
    {s t : State} (hs : P s) (h : step s = .next t) : P t := by
  cases hp : s.pending with
  | nil =>
    cases (step_of_nil hp).symm.trans h
    unfold State.idle
    split
    · exact hs
    · exact hn s _ hs
  | cons c rest =>
    rw [step_of_cons hp] at h
    exact hP.exec (hq s rest hs) h

end Kept

/-! ## The settled statements -/

/-- Settles O1: the queue is empty or has a front command; without one the part lets a millisecond pass where it
runs. -/
theorem stepTakesFrontCommandOrIdles : Obligations.StepTakesFrontCommandOrIdles := by
  refine ⟨fun s c rest h => ?_, fun s h hr => ?_, fun s h hr => ?_⟩
  · exact step_of_cons h
  · have hn : ¬ (s.store.monitor = .lost ∨ s.resetHeld = true) := by simp [hr.1, hr.2]
    rw [step_of_nil h, State.idle, if_neg hn]
  · have hn : s.store.monitor = .lost ∨ s.resetHeld = true := by
      by_contra hc
      rw [not_or, Bool.not_eq_true] at hc
      exact hr hc
    rw [step_of_nil h, State.idle, if_pos hn]

/-- Settles O3: the commands that act in neither are events, and those that act in the hold alone are split by the
monitor. -/
theorem stoppedOrHeldPartTakesNoEvent : Obligations.StoppedOrHeldPartTakesNoEvent := by
  refine ⟨fun s c hl hc => ?_, fun s c hh hc => ?_, fun s k hr => ⟨?_, ?_⟩⟩
  · have hr : ¬ s.Runs := fun hr => hr.1 hl
    cases hc' : actsInHold c with
    | false => rw [exec_eq_event hc', State.event_of_not_runs hr]
    | true =>
      rcases actsInHold_cases hc' with ⟨b, rfl⟩ | ⟨k, rfl⟩ | ⟨k, rfl⟩ | rfl | rfl | rfl | rfl | rfl | rfl | rfl
      iterate 5 exact Bool.noConfusion hc
      · exact State.eventInHold_of_lost hl _
      · exact State.eventInHold_of_lost hl _
      · exact State.eventInHold_of_lost hl _
      · exact if_pos hl
      · exact State.eventInHold_of_lost hl _
  · have hr : ¬ s.Runs := fun hr => absurd (hr.2.symm.trans hh) Bool.false_ne_true
    rw [exec_eq_event hc, State.event_of_not_runs hr]
  · exact State.event_of_not_runs (s := s.setPresence k false) hr _
  · exact State.event_of_not_runs (s := s.setPresence k true) hr _

end Sys2Proof.Machine

/-! # The end of an event, and what stands between events -/

namespace Sys2Proof.Machine

/-! ## What each part of an event's end can change -/

/-- R192: the end of start-up changes its flag and forms a notice at most. -/
theorem State.endStartUp_frame (s : State) : ∃ ns b,
    s.endStartUp = { s with
      chassis := { s.chassis with alm := { s.chassis.alm with notices := ns } }
      store := { s.store with startUp := b } } := by
  unfold State.endStartUp
  split
  · by_cases h : s.cfg.noticeOrigin = 0#16
    · exact ⟨s.chassis.alm.notices, false, by
        simp [State.notifyEvent, State.onChassis, Alm.notifyEvent, Alm.notify, State.ctx, h]⟩
    · exact ⟨_, false, by
        simp [State.notifyEvent, State.onChassis, Alm.notifyEvent, Alm.notify, State.ctx, h]; rfl⟩
  · exact ⟨s.chassis.alm.notices, s.store.startUp, rfl⟩

/-- R187: the writer changes the marks and its own state at most. -/
theorem State.runWriter_frame (s : State) : ∃ l z c w,
    s.runWriter = { s with
      chassis := { s.chassis with licencesDirty := l }
      store := { s.store with zonesDirty := z, settingsDirty := c, writer := w } } := by
  have hb : ∃ l z c w, s.beginWrite = { s with
      chassis := { s.chassis with licencesDirty := l }
      store := { s.store with zonesDirty := z, settingsDirty := c, writer := w } } := by
    unfold State.beginWrite
    split
    · exact ⟨_, _, _, _, rfl⟩
    · split <;> exact ⟨_, _, _, _, rfl⟩
  unfold State.runWriter
  split
  · exact ⟨_, _, _, _, rfl⟩
  · split
    · split
      · exact ⟨_, _, _, _, rfl⟩
      · exact hb
    · exact ⟨_, _, _, _, rfl⟩
  · split
    · exact ⟨_, _, _, _, rfl⟩
    · split
      · exact hb
      · exact ⟨_, _, _, _, rfl⟩

/-- R176: a frame that starts changes the item queues, the credits, the slots and the notices at most. -/
theorem State.takeItem_frame (s : State) : ∃ qc rc vs as rs ov f sl ns,
    s.takeItem = { s with
      link := { s.link with
        queryCredits := qc, requestCredits := rc, verdicts := vs, answers := as, responses := rs, overload := ov
        frame := f }
      chassis := { s.chassis with slots := sl, alm := { s.chassis.alm with notices := ns } } } := by
  unfold State.takeItem
  split
  · exact ⟨_, _, _, _, _, _, _, _, _, rfl⟩
  · exact ⟨_, _, _, _, _, _, _, _, _, rfl⟩
  · split
    · exact ⟨_, _, _, _, _, _, _, _, _, rfl⟩
    · exact ⟨_, _, _, _, _, _, _, _, _, rfl⟩
    · split
      · exact ⟨_, _, _, _, _, _, _, _, _, rfl⟩
      · split
        · exact ⟨_, _, _, _, _, _, _, _, _, rfl⟩
        · split
          · exact ⟨_, _, _, _, _, _, _, _, _, rfl⟩
          · split <;> exact ⟨_, _, _, _, _, _, _, _, _, rfl⟩

theorem State.arbitrate_frame (s : State) : ∃ qc rc vs as rs ov f sl ns,
    s.arbitrate = { s with
      link := { s.link with
        queryCredits := qc, requestCredits := rc, verdicts := vs, answers := as, responses := rs, overload := ov
        frame := f }
      chassis := { s.chassis with slots := sl, alm := { s.chassis.alm with notices := ns } } } := by
  unfold State.arbitrate
  split
  · exact s.takeItem_frame
  · exact ⟨_, _, _, _, _, _, _, _, _, rfl⟩

/-! ## What each part establishes -/

/-- R90: a judgement makes Grace Running agree. -/
theorem State.judgeGrace_agrees (s : State) : (s.onChassis Chassis.judgeGrace).GraceAgrees := by
  show (s.chassis.ports.toList.any (fun r => r.binding.isGrace)) = true ↔
    ∃ p, (s.chassis.port p).binding.isGrace = true
  rw [List.any_eq_true]
  constructor
  · rintro ⟨r, hr, hg⟩
    obtain ⟨i, hi, rfl⟩ := List.mem_iff_getElem.1 hr
    exact ⟨⟨i, by simpa using hi⟩, by simpa [Chassis.port] using hg⟩
  · rintro ⟨q, hg⟩
    exact ⟨s.chassis.port q, by simp [Chassis.port], hg⟩

/-- R192: after the end of start-up was judged its flag agrees. -/
theorem State.endStartUp_agrees (s : State) : s.endStartUp.StartUpAgrees := by
  intro hd hs
  unfold State.endStartUp at hd hs ⊢
  split
  · rfl
  · rename_i hc
    rw [if_neg hc] at hd hs
    simpa [hd, hs] using hc

/-- R187: the writer stops where it has nothing to serve. -/
theorem State.runWriter_rests (s : State) : s.runWriter.WriterRests := by
  have hw : ∃ i, s.beginWrite.store.writer = .writing i := by
    unfold State.beginWrite
    split
    · exact ⟨_, rfl⟩
    · split <;> exact ⟨_, rfl⟩
  have hbegin : s.beginWrite.WriterRests := by
    obtain ⟨i, hi⟩ := hw
    exact ⟨fun h => (by cases hi.symm.trans h), fun h => (by cases hi.symm.trans h)⟩
  unfold State.runWriter
  split
  · rename_i i hi
    exact ⟨fun h => (by cases hi.symm.trans h), fun h => (by cases hi.symm.trans h)⟩
  · rename_i hi
    split
    · split
      · rename_i hdip
        exact ⟨fun h => (by cases h), fun _ => hdip⟩
      · exact hbegin
    · rename_i hm
      exact ⟨fun _ => by simpa using hm, fun h => (by cases hi.symm.trans h)⟩
  · rename_i hi
    split
    · rename_i hdip
      exact ⟨fun h => (by cases hi.symm.trans h), fun _ => hdip⟩
    · split
      · exact hbegin
      · rename_i hm
        exact ⟨fun _ => by simpa [State.marked] using hm, fun h => by cases h⟩

/-- R176: the arbiter takes an item wherever one waits. -/
theorem State.takeItem_rests (s : State) (hf : s.takeItem.link.frame = none) :
    s.takeItem.link.verdicts = [] ∧ s.takeItem.link.answers = [] ∧ s.takeItem.chassis.slots = [] ∧
      s.takeItem.link.responses = [] ∧ s.takeItem.link.overload = none ∧ s.takeItem.chassis.alm.notices = [] := by
  unfold State.takeItem at hf ⊢
  split at hf
  · cases hf
  · cases hf
  · rename_i hv
    split at hf
    · cases hf
    · cases hf
    · rename_i ha
      split at hf
      · cases hf
      · rename_i hs
        split at hf
        · cases hf
        · rename_i hr
          split at hf
          · cases hf
          · rename_i ho
            split at hf
            · cases hf
            · rename_i hn
              simp [hv, ha, hs, hr, ho, hn]

/-- R176: an arbiter that has gone on rests. -/
theorem State.arbitrate_rests (s : State) : s.arbitrate.ArbiterRests := by
  intro hup hre hf
  unfold State.arbitrate at hup hre hf ⊢
  split
  · rename_i hc
    rw [if_pos hc] at hf
    exact s.takeItem_rests hf
  · rename_i hc
    rw [if_neg hc] at hup hre hf
    exact absurd ⟨hup, hre, hf⟩ hc

/-- A function at each of eight places, read at one. -/
theorem map8_getElem {α β : Type} (f : α → β) (v : Vector α 8) (k : Fin 8) : (map8 f v)[k.val] = f v[k.val] := by
  fin_cases k <;> rfl

/-- R129, R163: above the retention level the driven lines agree with alarms and trays. -/
theorem State.driveLines_agrees {s : State} (h : s.store.monitor ≠ .lost) : s.driveLines.LinesAgree := by
  have hl : s.driveLines.lines = s.linesNow := rfl
  rw [State.linesNow, if_neg h] at hl
  refine ⟨?_, ?_, ?_, fun k => ?_⟩
  · rw [hl]; exact Alm.lineDriven_iff ..
  · rw [hl]; exact Alm.lineDriven_iff ..
  · rw [hl]; exact Alm.lineDriven_iff ..
  · simp only [hl, map8_getElem]
    rfl

/-- What stands between events stands after the end of every event. -/
theorem State.settle_atRest (s : State) : s.settle.AtRest := by
  intro hm
  obtain ⟨ns, b, h2⟩ := (s.onChassis Chassis.judgeGrace).endStartUp_frame
  obtain ⟨l, z, c, w, h3⟩ := (s.onChassis Chassis.judgeGrace).endStartUp.runWriter_frame
  obtain ⟨qc, rc, vs, as, rs, ov, f, sl, ms, h4⟩ :=
    (s.onChassis Chassis.judgeGrace).endStartUp.runWriter.arbitrate_frame
  have hg := s.judgeGrace_agrees
  have hu := (s.onChassis Chassis.judgeGrace).endStartUp_agrees
  have hw := (s.onChassis Chassis.judgeGrace).endStartUp.runWriter_rests
  refine ⟨State.arbitrate_rests _, ?_, ?_, ?_, State.driveLines_agrees hm⟩
  · show State.WriterRests (State.driveLines _)
    rw [h4]; exact hw
  · show State.GraceAgrees (State.driveLines _)
    rw [h4, h3, h2]; exact hg
  · show State.StartUpAgrees (State.driveLines _)
    rw [h4, h3]; exact hu

/-- In Lost nothing is asked of the state between events. -/
theorem State.atRest_of_lost {s : State} (h : s.store.monitor = .lost) : s.AtRest := fun hm => absurd h hm

/-- R188, R190: the loss of the rail leads to Lost. -/
theorem State.loseRail_monitor (s : State) : s.loseRail.store.monitor = .lost := rfl

/-- What an event leaves: the state as it was, or one that has settled. -/
theorem State.event_atRest {f : State → State} {s t : State} (hs : s.AtRest) (h : s.event f = .next t) : t.AtRest := by
  rcases State.event_cases h with rfl | ⟨-, rfl⟩
  · exact hs
  · exact State.settle_atRest _

theorem State.eventInHold_atRest {f : State → State} {s t : State} (hs : s.AtRest)
    (h : s.eventInHold f = .next t) : t.AtRest := by
  rcases State.eventInHold_cases h with rfl | rfl
  · exact hs
  · exact State.settle_atRest _

/-- A command leaves the part at rest. -/
theorem exec_atRest {c : Instr} {s t : State} (hs : s.AtRest) (h : exec c s = .next t) : t.AtRest := by
  cases hc : actsInHold c with
  | false => exact State.event_atRest hs ((exec_eq_event hc s).symm.trans h)
  | true =>
    rcases actsInHold_cases hc with ⟨b, rfl⟩ | ⟨k, rfl⟩ | ⟨k, rfl⟩ | rfl | rfl | rfl | rfl | rfl | rfl | rfl
    · by_cases hl : s.store.monitor = .lost
      · cases (exec_coldStart_of_lost hl b).symm.trans h
        exact State.settle_atRest _
      · cases (exec_coldStart_of_not_lost hl b).symm.trans h
        exact hs
    · rw [exec_presenceLost] at h
      exact State.event_atRest (s := s.setPresence k false) hs h
    · rw [exec_presenceGained] at h
      exact State.event_atRest (s := s.setPresence k true) hs h
    · by_cases hr : s.Runs
      · cases (exec_resetLineAssert_of_runs hr).symm.trans h
        exact State.settle_atRest _
      · cases (exec_resetLineAssert_of_not_runs hr).symm.trans h
        exact hs
    · rw [exec_resetLineRelease] at h
      exact State.event_atRest (s := { s with resetHeld := false }) hs h
    · rw [exec_railBelowWarning] at h
      exact State.eventInHold_atRest hs h
    · rw [exec_standbyLowEntry] at h
      exact State.eventInHold_atRest hs h
    · rw [exec_standbyReturnNormal] at h
      exact State.eventInHold_atRest hs h
    · by_cases hl : s.store.monitor = .lost
      · cases (if_pos hl).symm.trans h
        exact hs
      · cases (exec_standbyLost hl).symm.trans h
        exact State.atRest_of_lost s.loseRail_monitor
    · rw [exec_writeCompletion] at h
      exact State.eventInHold_atRest hs h

/-- Settles O56: what an event ends with establishes every part, and what is no event leaves them as they are. -/
theorem everyStepLeavesPartAtRest : Obligations.EveryStepLeavesPartAtRest := by
  intro s t hs h
  cases hq : s.pending with
  | nil =>
    cases (step_of_nil hq).symm.trans h
    unfold State.idle
    split <;> exact hs
  | cons c rest =>
    rw [step_of_cons hq] at h
    exact exec_atRest (s := { s with pending := rest }) hs h

/-! ## Frames that are not taken (R170, R173) -/

/-- Settles O8: the commands with a frame are those of the four inbound kinds. -/
theorem frameNotTakenHasNoEffect : Obligations.FrameNotTakenHasNoEffect := by
  refine ⟨fun s c hr hf hn => ?_, fun s bs hr => leaves_of_event hr rfl rfl⟩
  have skip (ok : Bool) (f : State → State) (hc : exec c s = s.event (State.frameIn ok f))
      (hok : c.wf = ok) : Leaves c s s := by
    refine leaves_of_event hr hc ?_
    rw [State.frameIn_not (hn.imp_right (hok ▸ ·))]
  cases c
  case admissionQuery | linkUp | linkDown | portFault | faultCleared | login | logout | bladeEventInserted |
    bladeEventRemoved | managementRequest => exact skip _ _ rfl rfl
  all_goals exact absurd hf Bool.false_ne_true

end Sys2Proof.Machine

/-! # What an event leaves of the blocks outside the chassis -/

namespace Sys2Proof.Machine

/-! ## Channel Set, a case each (R103) -/

/-- R103: the new record of a channel with what it takes from the channel's own value and conditions. -/
def State.writeRecord (i : ChanId) (old new : ChanCfg) (s : State) : State :=
  let s := { s with cfg := s.cfg.writeChannel i new }
  let s := if old.rewired new then s.forgetChannel i old else s
  if old.role = .critical ∧ new.role ≠ .critical then s.dropEmergency i else s

theorem State.channelSet_of_ge {s : State} {f : ChannelSetForm} (h : 16 ≤ f.chan) :
    s.channelSet f = (s, plain .refusedRange) := dif_neg (Nat.not_lt.2 h)

theorem State.channelSet_of_none {s : State} {f : ChannelSetForm} (h : f.chan < 16)
    (hn : f.apply (s.cfg.channel ⟨f.chan, h⟩) = none) : s.channelSet f = (s, plain .refusedRange) := by
  simp only [State.channelSet, dif_pos h, hn]

theorem State.channelSet_of_some {s : State} {f : ChannelSetForm} {new : ChanCfg} (h : f.chan < 16)
    (hn : f.apply (s.cfg.channel ⟨f.chan, h⟩) = some new) :
    s.channelSet f =
      (((((s.writeRecord ⟨f.chan, h⟩ (s.cfg.channel ⟨f.chan, h⟩) new).judgeThermal).tellPwr false).judgeInlet).tellPwr
        false, plain .done) := by
  simp only [State.channelSet, dif_pos h, hn]
  rfl

/-! ## Events that leave the board -/

/-- `t` differs from `s` at most in the clock, the settings, the chassis, the scanner, the fans and the lines. -/
structure State.SameBoard (s t : State) : Prop where
  zone : t.zone = s.zone
  link : t.link = s.link
  store : t.store = s.store
  queries : t.queries = s.queries
  trayPresent : t.trayPresent = s.trayPresent
  resetHeld : t.resetHeld = s.resetHeld
  pending : t.pending = s.pending
  seconds : t.seconds = s.seconds
  hourSeconds : t.hourSeconds = s.hourSeconds
  secondDueMs : t.secondDueMs = s.secondDueMs

namespace State.SameBoard

theorem refl (s : State) : s.SameBoard s := ⟨rfl, rfl, rfl, rfl, rfl, rfl, rfl, rfl, rfl, rfl⟩

theorem trans {s t u : State} (h : s.SameBoard t) (k : t.SameBoard u) : s.SameBoard u :=
  ⟨k.zone.trans h.zone, k.link.trans h.link, k.store.trans h.store, k.queries.trans h.queries,
    k.trayPresent.trans h.trayPresent, k.resetHeld.trans h.resetHeld, k.pending.trans h.pending,
    k.seconds.trans h.seconds, k.hourSeconds.trans h.hourSeconds, k.secondDueMs.trans h.secondDueMs⟩

/-- A change of the blocks that may differ. -/
theorem update (s : State) (cfg : Settings) (n : Nat) (c : Chassis) (e : Env) (f : Fan) :
    s.SameBoard { s with cfg := cfg, clockMs := n, chassis := c, env := e, fan := f } :=
  ⟨rfl, rfl, rfl, rfl, rfl, rfl, rfl, rfl, rfl, rfl⟩

theorem foldl {α : Type} {f : State → α → State} (hf : ∀ (s : State) a, s.SameBoard (f s a)) (l : List α) (s : State) :
    s.SameBoard (l.foldl f s) :=
  List.foldlRecOn (motive := s.SameBoard) l f (refl s) fun _ hu a _ => hu.trans (hf _ a)

/-- Whichever of two ways is taken. -/
theorem ite {p : Prop} [Decidable p] {s t u : State} (ht : s.SameBoard t) (hu : s.SameBoard u) :
    s.SameBoard (if p then t else u) := by
  split
  · exact ht
  · exact hu

variable (s : State)

theorem onChassis (f : Ctx → Chassis → Chassis) : s.SameBoard (s.onChassis f) := update ..

theorem judgeAlarm (k : AlarmKind) (n : Nat) (b c : Bool) : s.SameBoard (s.judgeAlarm k n b c) := onChassis ..

theorem frameIn (ok : Bool) {f : State → State} (hf : s.SameBoard (f s)) : s.SameBoard (s.frameIn ok f) := by
  unfold State.frameIn; split
  · exact hf
  · exact refl s

theorem tellPwr (b : Bool) : s.SameBoard (s.tellPwr b) := by
  unfold State.tellPwr; simp only []; split
  · exact refl s
  · exact onChassis ..

theorem nextConversion : s.SameBoard s.nextConversion := by
  unfold State.nextConversion; split
  · exact update ..
  · split <;> exact update ..

theorem startRound : s.SameBoard s.startRound := (update s s.cfg s.clockMs s.chassis _ s.fan).trans (nextConversion _)

theorem settlingEnd : s.SameBoard s.settlingEnd := by
  unfold State.settlingEnd; split
  · exact (update s s.cfg _ s.chassis s.env s.fan).trans (startRound _)
  · exact refl s

theorem restEnd : s.SameBoard s.restEnd := by
  unfold State.restEnd; split
  · simp only []; split
    · exact update ..
    · exact (update s s.cfg _ s.chassis s.env s.fan).trans (startRound _)
  · exact refl s

theorem conversionEnd (code : RawCode) : s.SameBoard (s.conversionEnd code) := by
  unfold State.conversionEnd; split
  · split
    · exact refl s
    · exact (update s s.cfg _ s.chassis _ s.fan).trans (nextConversion _)
  · exact refl s

theorem trustAlarm (old new : Trust) : s.SameBoard (s.trustAlarm old new) := by
  unfold State.trustAlarm; split
  · exact refl s
  · split
    · exact onChassis ..
    · exact onChassis ..
    · split
      · exact onChassis ..
      · exact refl s

theorem setTrust (t : Trust) (m n : Nat) : s.SameBoard (s.setTrust t m n) :=
  (update s s.cfg s.clockMs s.chassis _ _).trans (trustAlarm ..)

theorem enterOff : s.SameBoard s.enterOff := (update s s.cfg s.clockMs s.chassis _ s.fan).trans (setTrust ..)

theorem judgeChannel (i : ChanId) : s.SameBoard (s.judgeChannel i) := by
  unfold State.judgeChannel; split
  · exact refl s
  · exact (((update s s.cfg s.clockMs s.chassis _ s.fan).trans (judgeAlarm ..)).trans (judgeAlarm ..)).trans
      (judgeAlarm ..)

theorem takeReading (e : Taken × RawCode) : s.SameBoard (s.takeReading e) := by
  unfold State.takeReading; split
  · exact update ..
  · exact refl s

theorem judgeThermal : s.SameBoard s.judgeThermal := update ..

theorem takeReadings (held : List (Taken × RawCode)) : s.SameBoard (s.takeReadings held) :=
  ((foldl takeReading held s).trans (foldl judgeChannel allChans _)).trans (judgeThermal _)

theorem afterRound : s.SameBoard s.afterRound := by
  unfold State.afterRound; split
  · exact enterOff s
  · split
    · exact startRound s
    · exact (update s s.cfg s.clockMs s.chassis _ s.fan).trans (nextConversion _)

theorem roundEnd (code : RawCode) : s.SameBoard (s.roundEnd code) := by
  unfold State.roundEnd; split
  · refine trans ?_ (tellPwr _ _)
    refine trans ?_ (afterRound _)
    refine trans (t := State.judgeInlet _) (trans ?_ (update ..)) (update ..)
    split
    · exact ((update s s.cfg _ s.chassis _ s.fan).trans (setTrust ..)).trans (takeReadings ..)
    · exact (update s s.cfg _ s.chassis _ s.fan).trans (setTrust ..)
  · exact refl s

theorem forgetChannel (i : ChanId) (old : ChanCfg) : s.SameBoard (s.forgetChannel i old) :=
  (((update s s.cfg s.clockMs s.chassis _ s.fan).trans (judgeAlarm ..)).trans (judgeAlarm ..)).trans (judgeAlarm ..)

theorem dropEmergency (i : ChanId) : s.SameBoard (s.dropEmergency i) :=
  (update s s.cfg s.clockMs s.chassis _ s.fan).trans (judgeAlarm ..)

theorem writeRecord (i : ChanId) (old new : ChanCfg) : s.SameBoard (s.writeRecord i old new) := by
  refine trans (update s (s.cfg.writeChannel i new) s.clockMs s.chassis s.env s.fan) ?_
  exact (ite (forgetChannel ..) (refl _)).trans (ite (dropEmergency ..) (refl _))

theorem channelSet (f : ChannelSetForm) : s.SameBoard (s.channelSet f).1 := by
  by_cases h : f.chan < 16
  · cases hn : f.apply (s.cfg.channel ⟨f.chan, h⟩) with
    | none => rw [State.channelSet_of_none h hn]; exact refl s
    | some new =>
      rw [State.channelSet_of_some h hn]
      exact ((((writeRecord s ..).trans (judgeThermal _)).trans (tellPwr ..)).trans
        (update _ _ _ _ _ _)).trans (tellPwr ..)
  · rw [State.channelSet_of_ge (Nat.le_of_not_lt h)]; exact refl s

theorem turnScannerOn : s.SameBoard s.turnScannerOn := by
  unfold State.turnScannerOn; split
  · exact update ..
  · exact update ..
  · exact refl s

theorem turnScannerOff : s.SameBoard s.turnScannerOff := by
  unfold State.turnScannerOff; split
  · exact refl s
  · exact update ..
  · exact (enterOff s).trans (tellPwr ..)

theorem scannerSet (f : ScannerSetForm) : s.SameBoard (s.scannerSet f).1 := by
  unfold State.scannerSet; split
  · exact refl s
  · rename_i new _
    refine (update s { s.cfg with scanner := new } s.clockMs s.chassis s.env s.fan).trans ?_
    dsimp only
    split
    · exact refl _
    · exact ite (turnScannerOn _) (turnScannerOff _)

theorem handTrays (g p : Nat → Nat) : s.SameBoard (s.handTrays g p) := onChassis ..

theorem pulse (k : TrayId) : s.SameBoard (s.pulse k) := by
  unfold State.pulse; split
  · exact update ..
  · exact refl s

theorem failTray (k : TrayId) : s.SameBoard (s.failTray k) := update s s.cfg s.clockMs _ s.env _

theorem restoreTray (k : TrayId) : s.SameBoard (s.restoreTray k) := update s s.cfg s.clockMs _ s.env _

theorem gateResult (k : TrayId) (rpm : Nat) : s.SameBoard (s.gateResult k rpm) := by
  have set (r : Tray) : s.SameBoard (s.setTray k r) := update s s.cfg s.clockMs s.chassis s.env _
  unfold State.gateResult; dsimp only; split
  · exact ite ((set _).trans (onChassis _ _)) (set _)
  · exact ite (failTray s k) (set _)
  · exact ite (restoreTray s k) (set _)
  · exact set _
  · exact refl s

theorem gateEnd (k : TrayId) : s.SameBoard (s.gateEnd k) := by
  unfold State.gateEnd; split
  · exact (update s s.cfg _ s.chassis _ s.fan).trans (gateResult ..)
  · exact refl s

theorem trayLost (k : TrayId) : s.SameBoard (s.trayLost k) := by
  unfold State.trayLost
  exact ite (refl s) ((((update s s.cfg s.clockMs s.chassis _ _).trans (onChassis ..)).trans (onChassis ..)).trans
    (handTrays ..))

theorem trayGained (k : TrayId) : s.SameBoard (s.trayGained k) := by
  unfold State.trayGained
  exact ite (((update s s.cfg s.clockMs s.chassis _ _).trans (onChassis ..)).trans (handTrays ..)) (refl s)

theorem slotAlarms (i : SlotId) (v : SlotState) : s.SameBoard (s.slotAlarms i v) := by
  unfold State.slotAlarms
  exact (ite (onChassis s _) (onChassis s _)).trans (ite (onChassis ..) (onChassis ..))

theorem sampleSlot (a b : BitVec 4) (i : SlotId) : s.SameBoard (s.sampleSlot a b i) := by
  unfold State.sampleSlot
  exact (update s s.cfg s.clockMs s.chassis _ s.fan).trans (ite (refl _) ((slotAlarms ..).trans (onChassis ..)))

theorem handSettled : s.SameBoard s.handSettled := by
  unfold State.handSettled
  exact ite (onChassis ..) (refl s)

theorem supplySample (a b : BitVec 4) : s.SameBoard (s.supplySample a b) := by
  unfold State.supplySample
  exact ((update s s.cfg _ s.chassis _ s.fan).trans (foldl (sampleSlot · a b) _ _)).trans (handSettled _)

theorem carryThen (n : Nat) (f : Ctx → Chassis → Chassis) : s.SameBoard ((s.carry n).onChassis f) :=
  update s s.cfg _ _ s.env s.fan

theorem drainTimer (p : PortId) : s.SameBoard (s.drainTimer p) := by
  unfold State.drainTimer; split
  · exact carryThen ..
  · exact refl s

theorem holdoffEnd : s.SameBoard s.holdoffEnd := by
  unfold State.holdoffEnd; split
  · exact carryThen ..
  · exact refl s

theorem pacingEnd : s.SameBoard s.pacingEnd := by
  unfold State.pacingEnd; split
  · exact carryThen ..
  · exact refl s

theorem waitTimerEnd : s.SameBoard s.waitTimerEnd := by
  unfold State.waitTimerEnd; split
  · exact carryThen ..
  · exact refl s

theorem pulseEnd (k : AlarmKind) (n : Nat) : s.SameBoard (s.pulseEnd k n) := by
  unfold State.pulseEnd; split
  · exact carryThen ..
  · exact refl s

theorem acknowledge (f : AckForm) : s.SameBoard (s.acknowledge f).1 := by
  unfold State.acknowledge; split
  · dsimp only; exact onChassis s _
  · split
    · exact refl s
    · split
      · exact refl s
      · split
        · exact refl s
        · split
          · exact refl s
          · dsimp only; exact onChassis s _

theorem alarmSet (f : AlarmSetForm) : s.SameBoard (s.alarmSet f).1 := by
  unfold State.alarmSet; split
  · exact update ..
  · split
    · exact refl s
    · split
      · exact refl s
      · exact update ..

theorem claimTimeSet (n : Nat) : s.SameBoard (s.claimTimeSet n).1 := by
  unfold State.claimTimeSet; split
  · exact update ..
  · exact refl s

theorem graceSet (n : Nat) : s.SameBoard (s.graceSet n).1 := by
  unfold State.graceSet; split
  · exact update ..
  · exact refl s

theorem coolingSet (f : CoolingSetForm) : s.SameBoard (s.coolingSet f).1 := by
  unfold State.coolingSet; split
  · exact refl s
  · exact update ..

theorem supplySet (f : SupplySetForm) : s.SameBoard (s.supplySet f).1 := by
  unfold State.supplySet; split
  · exact refl s
  · exact update ..

theorem powerSet (f : PowerSetForm) : s.SameBoard (s.powerSet f).1 := by
  unfold State.powerSet; split
  · exact refl s
  · exact update ..

theorem licenceInstall (f : LicenceInstallForm) : s.SameBoard (s.licenceInstall f).1 := by
  unfold State.licenceInstall; split
  · exact refl s
  · split
    · exact refl s
    · split
      · exact refl s
      · dsimp only; exact onChassis s _

theorem licenceRevoke (id : Nat) : s.SameBoard (s.licenceRevoke id).1 := by
  unfold State.licenceRevoke; split
  · exact refl s
  · dsimp only; exact onChassis s _

theorem licenceRemove (id : Nat) : s.SameBoard (s.licenceRemove id).1 := by
  unfold State.licenceRemove; split
  · exact refl s
  · split
    · exact refl s
    · dsimp only; exact onChassis s _

theorem licenceWarnSet (f : WarnForm) : s.SameBoard (s.licenceWarnSet f).1 := by
  unfold State.licenceWarnSet; split
  · exact refl s
  · split
    · exact refl s
    · dsimp only; exact onChassis s _

theorem portEnable (p : PortId) : s.SameBoard (s.portEnable p) := update ..

theorem portDisable (p : PortId) : s.SameBoard (s.portDisable p) := update ..

theorem portSet (f : PortSetForm) : s.SameBoard (s.portSet f).1 := by
  unfold State.portSet; dsimp only; split
  · exact refl s
  · exact ((update s _ s.clockMs s.chassis s.env s.fan).trans (ite (refl _) (onChassis ..))).trans
      (ite (refl _) (onChassis ..))

end State.SameBoard

end Sys2Proof.Machine

/-! # What the events do to the board: zones, link, queries, store, counters of seconds -/

namespace Sys2Proof.Machine

/-! ## A management command, by what its checks find (R178, R179) -/

/-- R179: what the three checks hand on is the processor's request. -/
theorem State.proc_of_check {α : Type} {s : State} {cmd : Cmd} {read : List Byte → Option α} {pr : Proc} {a : α}
    (h : s.check cmd read = .go pr a) : s.link.proc = some pr := by
  unfold State.check at h
  split at h
  · cases h
  · rename_i hp
    split at h
    · cases h
    · split at h
      · cases h
      · split at h
        · split at h
          · cases h
          · split at h
            · cases h
            · cases h; exact hp
        · cases h

/-- R179: a refusal of the checks is not Armed. -/
theorem State.refusal_of_check {α : Type} {s : State} {cmd : Cmd} {read : List Byte → Option α} {st : Status}
    (h : s.check cmd read = .refused st) : st = .refusedRange ∨ st = .refusedPrivilege := by
  unfold State.check at h
  split at h
  · cases h
  · split at h
    · cases h
    · split at h
      · cases h
      · split at h
        · split at h
          · cases h; exact .inl rfl
          · split at h
            · cases h; exact .inr rfl
            · cases h
        · cases h

/-- A result that arms no commit but where one is armed (R66). -/
def Result.Fits (r : Result) (s : State) : Prop := r.status = .armed → s.zone.commit = .armed

theorem Result.fits_of_ne {r : Result} {s : State} (h : r.status ≠ .armed) : r.Fits s := fun ha => absurd ha h

/-- A property that a command's block keeps, with a result that fits, and that recording the result keeps, is kept by
the command. -/
theorem State.command_keeps {P : State → Prop} {α : Type} {cmd : Cmd} {read : List Byte → Option α}
    {act : Proc → α → State → State × Result} (hanswer : ∀ s r, P s → r.Fits s → P (s.answer r))
    (hact : ∀ pr a s, s.link.proc = some pr → P s → P (act pr a s).1 ∧ (act pr a s).2.Fits (act pr a s).1)
    {s : State} (hs : P s) : P (State.command cmd read act s) := by
  unfold State.command
  split
  · exact hs
  · rename_i st h
    refine hanswer _ _ hs (Result.fits_of_ne ?_)
    rcases State.refusal_of_check h with rfl | rfl <;> exact nofun
  · rename_i pr a h
    have hk := hact pr a s (State.proc_of_check h) hs
    exact hanswer _ _ hk.1 hk.2

/-! ## What the blocks of the management commands answer -/

theorem State.portSet_fits (f : PortSetForm) (s : State) : (s.portSet f).2.Fits (s.portSet f).1 := by
  refine Result.fits_of_ne ?_
  unfold State.portSet; dsimp only; split <;> exact nofun

theorem Chassis.loginRead_fits (c : Chassis) (f : LoginReadForm) (s : State) : (c.loginRead f).Fits s := by
  refine Result.fits_of_ne ?_
  unfold Chassis.loginRead; split
  · exact nofun
  · split <;> exact nofun

theorem State.licenceRead_fits (f : LicenceReadForm) (s t : State) : (s.licenceRead f).Fits t := by
  refine Result.fits_of_ne ?_
  unfold State.licenceRead Chassis.named; split
  · exact nofun
  · split
    · rename_i st h
      split at h
      · cases h; exact nofun
      · split at h
        · cases h
        · cases h; exact nofun
    · exact nofun

theorem State.zoneRead_fits (f : ZoneReadForm) (s t : State) : (s.zoneRead f).Fits t := by
  have hz (e : ZoneSet) (i : Nat) : (e.zoneData i).status ≠ .armed := by
    unfold ZoneSet.zoneData; split <;> exact nofun
  refine Result.fits_of_ne ?_
  unfold State.zoneRead; split
  · exact nofun
  · split
    · exact nofun
    · split
      · exact nofun
      · split <;> exact nofun
  · split
    · exact nofun
    · split
      · exact nofun
      · exact hz _ _
  · split
    · exact nofun
    · split
      · exact nofun
      · split
        · exact hz _ _
        · exact nofun

theorem State.claimTimeSet_fits (n : Nat) (s : State) : (s.claimTimeSet n).2.Fits (s.claimTimeSet n).1 := by
  refine Result.fits_of_ne ?_
  unfold State.claimTimeSet; split <;> exact nofun

theorem State.licenceInstall_fits (f : LicenceInstallForm) (s : State) :
    (s.licenceInstall f).2.Fits (s.licenceInstall f).1 := by
  refine Result.fits_of_ne ?_
  unfold State.licenceInstall; split
  · exact nofun
  · split
    · exact nofun
    · split <;> exact nofun

/-- R81, R82, R93: an id that names no licence is out of range or unknown. -/
theorem Chassis.named_error {c : Chassis} {id : Nat} {st : Status} (h : c.named id = .error st) :
    st = .refusedRange ∨ st = .refusedUnknown := by
  unfold Chassis.named at h
  split at h
  · cases h; exact .inl rfl
  · split at h
    · cases h
    · cases h; exact .inr rfl

theorem State.licenceRevoke_fits (id : Nat) (s : State) : (s.licenceRevoke id).2.Fits (s.licenceRevoke id).1 := by
  refine Result.fits_of_ne ?_
  unfold State.licenceRevoke; split
  · rename_i h; rcases Chassis.named_error h with rfl | rfl <;> exact nofun
  · exact nofun

theorem State.licenceRemove_fits (id : Nat) (s : State) : (s.licenceRemove id).2.Fits (s.licenceRemove id).1 := by
  refine Result.fits_of_ne ?_
  unfold State.licenceRemove; split
  · rename_i h; rcases Chassis.named_error h with rfl | rfl <;> exact nofun
  · split <;> exact nofun

theorem State.licenceWarnSet_fits (f : WarnForm) (s : State) : (s.licenceWarnSet f).2.Fits (s.licenceWarnSet f).1 := by
  refine Result.fits_of_ne ?_
  unfold State.licenceWarnSet; split
  · rename_i h; rcases Chassis.named_error h with rfl | rfl <;> exact nofun
  · split <;> exact nofun

theorem State.graceSet_fits (n : Nat) (s : State) : (s.graceSet n).2.Fits (s.graceSet n).1 := by
  refine Result.fits_of_ne ?_
  unfold State.graceSet; split <;> exact nofun

theorem State.channelSet_fits (f : ChannelSetForm) (s : State) : (s.channelSet f).2.Fits (s.channelSet f).1 := by
  refine Result.fits_of_ne ?_
  unfold State.channelSet; split
  · dsimp only; split <;> exact nofun
  · exact nofun

theorem State.scannerSet_fits (f : ScannerSetForm) (s : State) : (s.scannerSet f).2.Fits (s.scannerSet f).1 := by
  refine Result.fits_of_ne ?_
  unfold State.scannerSet; split <;> exact nofun

theorem State.coolingSet_fits (f : CoolingSetForm) (s : State) : (s.coolingSet f).2.Fits (s.coolingSet f).1 := by
  refine Result.fits_of_ne ?_
  unfold State.coolingSet; split <;> exact nofun

theorem State.supplySet_fits (f : SupplySetForm) (s : State) : (s.supplySet f).2.Fits (s.supplySet f).1 := by
  refine Result.fits_of_ne ?_
  unfold State.supplySet; split <;> exact nofun

theorem State.powerSet_fits (f : PowerSetForm) (s : State) : (s.powerSet f).2.Fits (s.powerSet f).1 := by
  refine Result.fits_of_ne ?_
  unfold State.powerSet; split <;> exact nofun

theorem State.acknowledge_fits (f : AckForm) (s : State) : (s.acknowledge f).2.Fits (s.acknowledge f).1 := by
  refine Result.fits_of_ne ?_
  unfold State.acknowledge; split
  · exact nofun
  · split
    · exact nofun
    · split
      · exact nofun
      · split
        · exact nofun
        · split <;> exact nofun

theorem State.alarmSet_fits (f : AlarmSetForm) (s : State) : (s.alarmSet f).2.Fits (s.alarmSet f).1 := by
  refine Result.fits_of_ne ?_
  unfold State.alarmSet; split
  · exact nofun
  · split
    · exact nofun
    · split <;> exact nofun

theorem State.zoneCommit_fits (pr : Proc) (s : State) : (s.zoneCommit pr).2.Fits (s.zoneCommit pr).1 := by
  unfold State.zoneCommit
  repeat' split
  · exact Result.fits_of_ne nofun
  · exact Result.fits_of_ne nofun
  · exact Result.fits_of_ne nofun
  · exact fun _ => rfl

/-! ## The edit commands keep a zone set within its limits (R49 to R51) -/

theorem ZoneSet.rename_ok {n : List Byte} {e e' : ZoneSet} (h : e.rename n = .ok e') (he : e.Ok) : e'.Ok := by
  unfold ZoneSet.rename at h
  split at h
  · rename_i hn
    cases h
    exact ⟨hn, he.2⟩
  · cases h

theorem ZoneSet.setAccess_ok {v : Nat} {e e' : ZoneSet} (h : e.setAccess v = .ok e') (he : e.Ok) : e'.Ok := by
  unfold ZoneSet.setAccess at h
  split at h
  · cases h; exact he
  · cases h

theorem ZoneSet.create_ok {f : ZoneCreateForm} {e e' : ZoneSet} (h : e.create f = .ok e') (he : e.Ok) : e'.Ok := by
  obtain ⟨hname, hlen, hnodup, htotal, hzones⟩ := he
  unfold ZoneSet.create at h
  simp only [] at h
  split at h
  · cases h
  · rename_i hr
    split at h
    · cases h
    · rename_i hcap
      split at h
      · cases h
      · rename_i hnew
        cases h
        simp only [Bool.or_eq_true, Bool.not_eq_true', not_or, Bool.not_eq_false] at hr
        generalize f.position.getD e.zones.length = k
        have hperm : (e.zones.take k ++ ⟨f.name, []⟩ :: e.zones.drop k).Perm (⟨f.name, []⟩ :: e.zones) := by
          refine List.perm_middle.trans ?_
          rw [List.take_append_drop]
        refine ⟨hname, ?_, ?_, ?_, fun z hz => ?_⟩
        · have := hperm.length_eq
          simp only [List.length_cons] at this
          show (e.zones.take k ++ ⟨f.name, []⟩ :: e.zones.drop k).length ≤ _
          omega
        · refine ((hperm.map Zone.name).nodup_iff).2 ?_
          refine List.nodup_cons.2 ⟨fun hm => hnew ?_, hnodup⟩
          obtain ⟨z, hz, hzn⟩ := List.mem_map.1 hm
          exact List.find?_isSome.2 ⟨z, hz, beq_iff_eq.2 hzn⟩
        · show ((e.zones.take k ++ ⟨f.name, []⟩ :: e.zones.drop k).map (fun z => z.members.length)).sum ≤ _
          rw [((hperm.map _).sum_eq)]
          simpa [ZoneSet.total] using htotal
        · rcases List.mem_cons.1 (hperm.mem_iff.1 hz) with rfl | hz
          · exact ⟨hr.1, List.nodup_nil, Nat.zero_le _, fun m hm => absurd hm List.not_mem_nil⟩
          · exact hzones z hz

theorem ZoneSet.delete_ok {n : List Byte} {e e' : ZoneSet} (h : e.delete n = .ok e') (he : e.Ok) : e'.Ok := by
  obtain ⟨hname, hlen, hnodup, htotal, hzones⟩ := he
  unfold ZoneSet.delete at h
  split at h
  · cases h
  · split at h
    · cases h
    · cases h
      have hsub : (e.zones.filter (fun z => z.name != n)).Sublist e.zones := List.filter_sublist
      exact ⟨hname, hsub.length_le.trans hlen, hnodup.sublist (hsub.map _),
        ((hsub.map _).sum_le_sum (fun _ _ => Nat.zero_le _)).trans htotal, fun z hz => hzones z (hsub.subset hz)⟩

/-- R49: a zone that takes a name no other zone has keeps the names unique. -/
theorem ZoneSet.renameZone_ok {f : ZoneRenameForm} {e e' : ZoneSet} (h : e.renameZone f = .ok e') (he : e.Ok) :
    e'.Ok := by
  obtain ⟨hname, hlen, hnodup, htotal, hzones⟩ := he
  unfold ZoneSet.renameZone at h
  split at h
  · cases h
  · rename_i hr
    split at h
    · cases h
    · rename_i hdup
      split at h
      · cases h
      · cases h
        simp only [Bool.or_eq_true, Bool.not_eq_true', not_or, Bool.not_eq_false] at hr
        have hfree : ∀ z ∈ e.zones, z.name = f.new → f.old = f.new := by
          intro z hz hzn
          by_contra hne
          exact hdup ⟨hne, List.find?_isSome.2 ⟨z, hz, beq_iff_eq.2 hzn⟩⟩
        refine ⟨hname, ?_, ?_, ?_, fun z hz => ?_⟩
        · simpa [ZoneSet.onZone] using hlen
        · have hmap : (e.onZone f.old (fun z => { z with name := f.new })).zones.map Zone.name =
              (e.zones.map Zone.name).map (fun m => if m = f.old then f.new else m) := by
            simp only [ZoneSet.onZone, List.map_map]
            refine List.map_congr_left fun z _ => ?_
            simp only [Function.comp, beq_iff_eq]
            split <;> rfl
          rw [hmap]
          refine hnodup.map_on fun a ha b hb hab => ?_
          obtain ⟨za, hza, rfl⟩ := List.mem_map.1 ha
          obtain ⟨zb, hzb, rfl⟩ := List.mem_map.1 hb
          have ha' := hfree za hza
          have hb' := hfree zb hzb
          grind
        · refine le_of_eq_of_le ?_ htotal
          simp only [ZoneSet.total, ZoneSet.onZone, List.map_map]
          congr 1
          refine List.map_congr_left fun z _ => ?_
          simp only [Function.comp]
          split <;> rfl
        · obtain ⟨w, hw, rfl⟩ := List.mem_map.1 hz
          obtain ⟨-, hrest⟩ := hzones w hw
          split
          · exact ⟨hr.2, hrest⟩
          · exact hzones w hw

/-- A change of the members of one zone that keeps the zone within its limits. -/
theorem ZoneSet.onZone_members_ok {e : ZoneSet} {n : List Byte} {g : List Member → List Member} (he : e.Ok)
    (hg : ∀ z ∈ e.zones, z.name = n → (⟨z.name, g z.members⟩ : Zone).Ok)
    (ht : (e.onZone n (fun z => { z with members := g z.members })).total ≤ Config.setMemberCap) :
    (e.onZone n (fun z => { z with members := g z.members })).Ok := by
  obtain ⟨hname, hlen, hnodup, htotal, hzones⟩ := he
  refine ⟨hname, by simpa [ZoneSet.onZone] using hlen, ?_, ht, fun z hz => ?_⟩
  · refine Eq.subst (motive := List.Nodup) ?_ hnodup
    simp only [ZoneSet.onZone, List.map_map]
    refine List.map_congr_left fun z _ => ?_
    simp only [Function.comp]
    split <;> rfl
  · obtain ⟨w, hw, rfl⟩ := List.mem_map.1 hz
    split
    · rename_i hwn; exact hg w hw (beq_iff_eq.1 hwn)
    · exact hzones w hw

/-- R50: where names are unique, one member more in the zone of a name is at most one member more in the set. -/
theorem sum_members_add_le (n : List Byte) (m : Member) : ∀ zs : List Zone, (zs.map Zone.name).Nodup →
    ((zs.map (fun z => if z.name == n then { z with members := z.members ++ [m] } else z)).map
      (fun z => z.members.length)).sum ≤ (zs.map (fun z => z.members.length)).sum + 1
  | [], _ => Nat.zero_le _
  | z :: zs, h => by
    obtain ⟨hz, hzs⟩ := List.nodup_cons.1 h
    by_cases hn : z.name = n
    · have hrest : zs.map (fun z => if z.name == n then { z with members := z.members ++ [m] } else z) = zs := by
        refine (List.map_congr_left fun w hw => ?_).trans (List.map_id zs)
        have hwn : w.name ≠ n := fun hwn => hz (List.mem_map.2 ⟨w, hw, hwn.trans hn.symm⟩)
        simp only [beq_iff_eq, hwn, if_false, id]
      simp only [List.map_cons, hrest, List.sum_cons, hn, beq_self_eq_true, if_true, List.length_append,
        List.length_singleton]
      omega
    · have ih := sum_members_add_le n m zs hzs
      simp only [List.map_cons, List.sum_cons, beq_iff_eq, hn, if_false] at ih ⊢
      omega

theorem ZoneSet.addMember_ok {f : MemberForm} {e e' : ZoneSet} (h : e.addMember f = .ok e') (he : e.Ok) : e'.Ok := by
  have hnodup := he.2.2.1
  unfold ZoneSet.addMember at h
  split at h
  · cases h
  · rename_i hr
    split at h
    · cases h
    · rename_i ht
      split at h
      · cases h
      · rename_i z hz
        split at h
        · cases h
        · rename_i hl
          split at h
          · cases h
          · rename_i hm
            cases h
            simp only [Bool.or_eq_true, Bool.not_eq_true', not_or, Bool.not_eq_false] at hr
            refine ZoneSet.onZone_members_ok (g := fun ms => ms ++ [f.member]) he (fun w hw hwn => ?_) ?_
            · have hwz : w = z := Option.some.inj ((he.zone?_of_mem hw hwn).symm.trans hz)
              subst hwz
              obtain ⟨hwname, hwnodup, hwlen, hwok⟩ := he.2.2.2.2 w hw
              refine ⟨hwname, ?_, ?_, fun m hmem => ?_⟩
              · have hm' : f.member ∉ w.members := by simpa using hm
                exact List.nodup_append_comm.1 (List.nodup_cons.2 ⟨hm', hwnodup⟩)
              · simp only [List.length_append, List.length_singleton]; omega
              · rcases List.mem_append.1 hmem with hmem | hmem
                · exact hwok m hmem
                · rw [List.mem_singleton.1 hmem]; exact hr.2
            · have := sum_members_add_le f.zone f.member e.zones hnodup
              unfold ZoneSet.total ZoneSet.onZone at *
              simp only [] at *
              omega

theorem ZoneSet.removeMember_ok {f : MemberForm} {e e' : ZoneSet} (h : e.removeMember f = .ok e') (he : e.Ok) :
    e'.Ok := by
  have htotal := he.2.2.2.1
  unfold ZoneSet.removeMember at h
  split at h
  · cases h
  · split at h
    · cases h
    · split at h
      · cases h
        refine ZoneSet.onZone_members_ok (g := fun ms => ms.filter (fun m => m != f.member)) he (fun w hw _ => ?_) ?_
        · obtain ⟨hwname, hwnodup, hwlen, hwok⟩ := he.2.2.2.2 w hw
          exact ⟨hwname, hwnodup.filter _, (List.length_filter_le ..).trans hwlen,
            fun m hm => hwok m (List.mem_filter.1 hm).1⟩
        · refine le_trans ?_ htotal
          simp only [ZoneSet.total, ZoneSet.onZone, List.map_map]
          refine List.sum_le_sum fun w _ => ?_
          simp only [Function.comp]
          split
          · exact List.length_filter_le ..
          · exact le_rfl
      · cases h

/-! ## No edit command is answered Armed -/

theorem ZoneSet.rename_error {n : List Byte} {e : ZoneSet} {st : Status} (h : e.rename n = .error st) : st ≠ .armed := by
  unfold ZoneSet.rename at h
  split at h <;> cases h
  exact nofun

theorem ZoneSet.setAccess_error {v : Nat} {e : ZoneSet} {st : Status} (h : e.setAccess v = .error st) : st ≠ .armed := by
  unfold ZoneSet.setAccess at h
  split at h <;> cases h
  exact nofun

theorem ZoneSet.create_error {f : ZoneCreateForm} {e : ZoneSet} {st : Status} (h : e.create f = .error st) :
    st ≠ .armed := by
  unfold ZoneSet.create at h
  simp only [] at h
  repeat' split at h
  all_goals cases h
  all_goals exact nofun

theorem ZoneSet.delete_error {n : List Byte} {e : ZoneSet} {st : Status} (h : e.delete n = .error st) : st ≠ .armed := by
  unfold ZoneSet.delete at h
  repeat' split at h
  all_goals cases h
  all_goals exact nofun

theorem ZoneSet.renameZone_error {f : ZoneRenameForm} {e : ZoneSet} {st : Status} (h : e.renameZone f = .error st) :
    st ≠ .armed := by
  unfold ZoneSet.renameZone at h
  repeat' split at h
  all_goals cases h
  all_goals exact nofun

theorem ZoneSet.addMember_error {f : MemberForm} {e : ZoneSet} {st : Status} (h : e.addMember f = .error st) :
    st ≠ .armed := by
  unfold ZoneSet.addMember at h
  repeat' split at h
  all_goals cases h
  all_goals exact nofun

theorem ZoneSet.removeMember_error {f : MemberForm} {e : ZoneSet} {st : Status} (h : e.removeMember f = .error st) :
    st ≠ .armed := by
  unfold ZoneSet.removeMember at h
  repeat' split at h
  all_goals cases h
  all_goals exact nofun

/-! ## Every event, a case each -/

/-- The cases of an event of a command: the management commands are one of them, and the commands that are no event
leave the state. -/
theorem effect_cases {motive : Instr → Prop}
    (cmd : ∀ (cmd : Cmd) (c : Instr), c.effect = cmd.effect → motive c)
    (idle : ∀ c : Instr, c.effect = id → motive c)
    (admissionQuery : ∀ tag p src dst cls, motive (.admissionQuery tag p src dst cls))
    (linkUp : ∀ p cls, motive (.linkUp p cls))
    (linkDown : ∀ p, motive (.linkDown p))
    (portFault : ∀ p, motive (.portFault p))
    (faultCleared : ∀ p, motive (.faultCleared p))
    (login : ∀ p a, motive (.login p a))
    (logout : ∀ p a, motive (.logout p a))
    (bladeEventInserted : ∀ b, motive (.bladeEventInserted b))
    (bladeEventRemoved : ∀ b, motive (.bladeEventRemoved b))
    (managementRequest : ∀ origin privilege number cmds, motive (.managementRequest origin privilege number cmds))
    (lineActivity : motive (.lineActivity))
    (trainingComplete : motive (.trainingComplete))
    (lossOfSync : motive (.lossOfSync))
    (outboundFrameEnd : motive (.outboundFrameEnd))
    (queryEvaluation : motive (.queryEvaluation))
    (unknownCommandCode : motive (.unknownCommandCode))
    (readNowConversionEnd : ∀ code, motive (.readNowConversionEnd code))
    (secondsCounterAdvance : motive (.secondsCounterAdvance))
    (hourTick : motive (.hourTick))
    (drainTimerExpiry : ∀ p, motive (.drainTimerExpiry p))
    (holdoffExpiry : motive (.holdoffExpiry))
    (pacingWindowEnd : motive (.pacingWindowEnd))
    (waitTimerExpiry : motive (.waitTimerExpiry))
    (claimTimerExpiry : motive (.claimTimerExpiry))
    (validationEnd : motive (.validationEnd))
    (settlingEnd : motive (.settlingEnd))
    (restIntervalEnd : motive (.restIntervalEnd))
    (conversionEnd : ∀ code, motive (.conversionEnd code))
    (roundEnd : ∀ code, motive (.roundEnd code))
    (tachPulse : ∀ k, motive (.tachPulse k))
    (gateEnd : ∀ k, motive (.gateEnd k))
    (presenceLost : ∀ k, motive (.presenceLost k))
    (presenceGained : ∀ k, motive (.presenceGained k))
    (supplySample : ∀ a b, motive (.supplySample a b))
    (pulseTimerExpiry : ∀ k n, motive (.pulseTimerExpiry k n))
    (railBelowWarning : motive (.railBelowWarning))
    (standbyLowEntry : motive (.standbyLowEntry))
    (standbyReturnNormal : motive (.standbyReturnNormal))
    (writeCompletion : motive (.writeCompletion))
    (c : Instr) : motive c := by
  cases c
  case portEnable => exact cmd .portEnable _ rfl
  case portDisable => exact cmd .portDisable _ rfl
  case portSet => exact cmd .portSet _ rfl
  case portRead => exact cmd .portRead _ rfl
  case loginRead => exact cmd .loginRead _ rfl
  case editBegin => exact cmd .editBegin _ rfl
  case editAbort => exact cmd .editAbort _ rfl
  case setRename => exact cmd .setRename _ rfl
  case defaultAccessSet => exact cmd .defaultAccessSet _ rfl
  case zoneCreate => exact cmd .zoneCreate _ rfl
  case zoneDelete => exact cmd .zoneDelete _ rfl
  case zoneRename => exact cmd .zoneRename _ rfl
  case memberAdd => exact cmd .memberAdd _ rfl
  case memberRemove => exact cmd .memberRemove _ rfl
  case zoneCommit => exact cmd .zoneCommit _ rfl
  case zoneRead => exact cmd .zoneRead _ rfl
  case claimTimeSet => exact cmd .claimTimeSet _ rfl
  case licenceInstall => exact cmd .licenceInstall _ rfl
  case licenceRevoke => exact cmd .licenceRevoke _ rfl
  case licenceRemove => exact cmd .licenceRemove _ rfl
  case licenceWarnSet => exact cmd .licenceWarnSet _ rfl
  case graceSet => exact cmd .graceSet _ rfl
  case licenceRead => exact cmd .licenceRead _ rfl
  case channelSet => exact cmd .channelSet _ rfl
  case scannerSet => exact cmd .scannerSet _ rfl
  case readNow => exact cmd .readNow _ rfl
  case environmentRead => exact cmd .environmentRead _ rfl
  case coolingSet => exact cmd .coolingSet _ rfl
  case coolingRead => exact cmd .coolingRead _ rfl
  case supplySet => exact cmd .supplySet _ rfl
  case powerSet => exact cmd .powerSet _ rfl
  case powerRead => exact cmd .powerRead _ rfl
  case acknowledge => exact cmd .acknowledge _ rfl
  case alarmSet => exact cmd .alarmSet _ rfl
  case alarmRead => exact cmd .alarmRead _ rfl
  case addressSet => exact cmd .addressSet _ rfl
  case save => exact cmd .save _ rfl
  case restart => exact cmd .restart _ rfl
  case identityRead => exact cmd .identityRead _ rfl
  case admissionQuery => exact admissionQuery _ _ _ _ _
  case linkUp => exact linkUp _ _
  case linkDown => exact linkDown _
  case portFault => exact portFault _
  case faultCleared => exact faultCleared _
  case login => exact login _ _
  case logout => exact logout _ _
  case bladeEventInserted => exact bladeEventInserted _
  case bladeEventRemoved => exact bladeEventRemoved _
  case managementRequest => exact managementRequest _ _ _ _
  case discardedFrame => exact idle _ rfl
  case lineActivity => exact lineActivity
  case trainingComplete => exact trainingComplete
  case lossOfSync => exact lossOfSync
  case outboundFrameEnd => exact outboundFrameEnd
  case queryEvaluation => exact queryEvaluation
  case unknownCommandCode => exact unknownCommandCode
  case readNowConversionEnd => exact readNowConversionEnd _
  case secondsCounterAdvance => exact secondsCounterAdvance
  case hourTick => exact hourTick
  case drainTimerExpiry => exact drainTimerExpiry _
  case holdoffExpiry => exact holdoffExpiry
  case pacingWindowEnd => exact pacingWindowEnd
  case waitTimerExpiry => exact waitTimerExpiry
  case claimTimerExpiry => exact claimTimerExpiry
  case validationEnd => exact validationEnd
  case settlingEnd => exact settlingEnd
  case restIntervalEnd => exact restIntervalEnd
  case conversionEnd => exact conversionEnd _
  case roundEnd => exact roundEnd _
  case tachPulse => exact tachPulse _
  case gateEnd => exact gateEnd _
  case presenceLost => exact presenceLost _
  case presenceGained => exact presenceGained _
  case supplySample => exact supplySample _ _
  case pulseTimerExpiry => exact pulseTimerExpiry _ _
  case railBelowWarning => exact railBelowWarning
  case standbyLowEntry => exact standbyLowEntry
  case standbyReturnNormal => exact standbyReturnNormal
  case writeCompletion => exact writeCompletion
  case standbyLost => exact idle _ rfl
  case coldStart => exact idle _ rfl
  case resetLineAssert => exact idle _ rfl
  case resetLineRelease => exact idle _ rfl

/-! ## Properties of the board -/

/-- A property of the board is kept by the events that leave it, and by each of those that do not. -/
structure BoardKept (P : State → Prop) : Prop where
  same : ∀ s t, s.SameBoard t → P s → P t
  addAnswer : ∀ s a, P s → P (s.addAnswer a)
  queryArrives : ∀ s q, s.link.state = .up → P s → P (s.queryArrives q)
  requestArrives : ∀ s r, s.link.state = .up → P s → P (s.requestArrives r)
  activity : ∀ s, P s → P s.activity
  enterUp : ∀ s, P s → P s.enterUp
  lossOfSync : ∀ s, P s → P s.lossOfSync
  frameEnd : ∀ s, P s → P s.frameEnd
  evaluateQuery : ∀ s, P s → P s.evaluateQuery
  answer : ∀ s r, P s → r.Fits s → P (s.answer r)
  editCommand : ∀ s pr g, (∀ e e' : ZoneSet, g e = .ok e' → e.Ok → e'.Ok) → P s → P (s.editCommand g pr).1
  editBegin : ∀ s pr, P s → P (s.editBegin pr).1
  editAbort : ∀ s pr, P s → P (s.editAbort pr).1
  zoneCommit : ∀ s pr, P s → P (s.zoneCommit pr).1
  claimTimer : ∀ s, P s → P s.claimTimer
  validationEnd : ∀ s, P s → P s.validationEnd
  secondEnds : ∀ s, P s → P s.secondEnds
  save : ∀ s, P s → P s.save.1
  restartCommand : ∀ s pr, s.link.proc = some pr → P s → P (s.restartCommand pr).1
  placeReadNow : ∀ s pr i, s.link.proc = some pr → P s → P (s.placeReadNow pr i)
  railLow : ∀ s, P s → P s.railLow
  enterLow : ∀ s, P s → P s.enterLow
  railBack : ∀ s, P s → P s.railBack
  writeEnds : ∀ s, P s → P s.writeEnds

namespace BoardKept

variable {P : State → Prop} (hP : BoardKept P)
include hP

/-- A command whose block leaves the board, with a result that fits. -/
theorem command_same {α : Type} {cmd : Cmd} {read : List Byte → Option α} {act : α → State → State × Result}
    (hb : ∀ a (s : State), s.SameBoard (act a s).1) (hf : ∀ a s, (act a s).2.Fits (act a s).1) {s : State} (hs : P s) :
    P (State.command cmd read (fun _ a s => act a s) s) :=
  State.command_keeps hP.answer (fun _ a s _ h => ⟨hP.same _ _ (hb a s) h, hf a s⟩) hs

/-- A read whose result fits. -/
theorem command_read {α : Type} {cmd : Cmd} {read : List Byte → Option α} {r : α → State → Result}
    (hf : ∀ a s, (r a s).Fits s) {s : State} (hs : P s) :
    P (State.command cmd read (fun _ a s => (s, r a s)) s) :=
  hP.command_same (act := fun a s => (s, r a s)) (fun _ s => .refl s) hf hs

/-- A read that is always Done. -/
theorem command_data {cmd : Cmd} {α : Type} {read : List Byte → Option α} {d : α → State → List Byte} {s : State}
    (hs : P s) : P (State.command cmd read (fun _ a s => (s, doneWith (d a s))) s) :=
  hP.command_read (fun _ _ => Result.fits_of_ne (fun h => by cases h)) hs

/-- R58: an edit command that keeps a zone set within its limits. -/
theorem command_edit {α : Type} {cmd : Cmd} {read : List Byte → Option α} {g : α → ZoneSet → Except Status ZoneSet}
    (hg : ∀ a (e e' : ZoneSet), g a e = .ok e' → e.Ok → e'.Ok) (hna : ∀ a e st, g a e = .error st → st ≠ .armed)
    {s : State} (hs : P s) : P (State.command cmd read (fun pr a s => s.editCommand (g a) pr) s) := by
  refine State.command_keeps hP.answer (fun pr a s _ h => ⟨hP.editCommand s pr _ (hg a) h, ?_⟩) hs
  refine Result.fits_of_ne ?_
  unfold State.editCommand
  split
  · exact nofun
  · split
    · exact nofun
    · split
      · rename_i st hst; exact hna a _ st hst
      · exact nofun

omit hP in
/-- By a frame, where what it carries keeps it while the link is UP. -/
theorem frame {ok : Bool} {f : State → State} {s : State} (hs : P s) (hf : s.link.state = .up → P (f s)) :
    P (s.frameIn ok f) := by
  unfold State.frameIn
  split
  · rename_i h; exact hf h.1
  · exact hs

theorem unknownCode {s : State} (hs : P s) : P s.unknownCode := by
  unfold State.unknownCode
  split
  · exact hs
  · split
    · exact hs
    · split
      · exact hP.answer _ _ hs (Result.fits_of_ne (fun h => by cases h))
      · exact hs

theorem readNow {s : State} (hs : P s) : P s.readNow := by
  unfold State.readNow
  split
  · exact hs
  · rename_i st h
    refine hP.answer _ _ hs (Result.fits_of_ne ?_)
    rcases State.refusal_of_check h with rfl | rfl <;> exact nofun
  · rename_i pr n h
    split
    · dsimp only
      split
      · exact hP.answer _ _ hs (Result.fits_of_ne (fun h => by cases h))
      · exact hP.placeReadNow s pr _ (State.proc_of_check h) hs
    · exact hP.answer _ _ hs (Result.fits_of_ne (fun h => by cases h))

theorem readNowEnd (code : RawCode) {s : State} (hs : P s) : P (s.readNowEnd code) := by
  unfold State.readNowEnd
  split
  · refine hP.answer _ _ ?_ (Result.fits_of_ne (fun h => by cases h))
    unfold State.afterReadNow
    have hu (n : Nat) (e : Env) : P { s with clockMs := n, env := e } :=
      hP.same _ _ (.update s s.cfg n s.chassis e s.fan) hs
    split
    · exact hP.same _ _ (.startRound _) (hu _ _)
    · exact hP.same _ _ (.nextConversion _) (hu _ _)
  · exact hs

theorem hourTick {s : State} (hs : P s) : P s.hourTick := by
  unfold State.hourTick
  split
  · exact hP.secondEnds s hs
  · exact hs

/-- By every management command. -/
theorem cmd (cmd : Cmd) {s : State} (hs : P s) : P (cmd.effect s) := by
  cases cmd
  case portEnable => exact hP.command_same (act := fun p s => (s.portEnable p, plain .done)) (fun p s => .portEnable s p) (fun _ _ => Result.fits_of_ne (fun h => by cases h)) hs
  case portDisable => exact hP.command_same (act := fun p s => (s.portDisable p, plain .done)) (fun p s => .portDisable s p) (fun _ _ => Result.fits_of_ne (fun h => by cases h)) hs
  case portSet => exact hP.command_same (fun f s => .portSet s f) State.portSet_fits hs
  case portRead => exact hP.command_data hs
  case loginRead => exact hP.command_read (fun f s => Chassis.loginRead_fits s.chassis f s) hs
  case editBegin =>
    refine State.command_keeps hP.answer (fun pr _ s _ h => ⟨hP.editBegin s pr h, Result.fits_of_ne ?_⟩) hs
    unfold State.editBegin
    repeat' split
    all_goals exact nofun
  case editAbort =>
    refine State.command_keeps hP.answer (fun pr _ s _ h => ⟨hP.editAbort s pr h, Result.fits_of_ne ?_⟩) hs
    unfold State.editAbort
    repeat' split
    all_goals exact nofun
  case setRename => exact hP.command_edit (fun _ _ _ => ZoneSet.rename_ok) (fun _ _ _ => ZoneSet.rename_error) hs
  case defaultAccessSet =>
    exact hP.command_edit (fun _ _ _ => ZoneSet.setAccess_ok) (fun _ _ _ => ZoneSet.setAccess_error) hs
  case zoneCreate => exact hP.command_edit (fun _ _ _ => ZoneSet.create_ok) (fun _ _ _ => ZoneSet.create_error) hs
  case zoneDelete => exact hP.command_edit (fun _ _ _ => ZoneSet.delete_ok) (fun _ _ _ => ZoneSet.delete_error) hs
  case zoneRename =>
    exact hP.command_edit (fun _ _ _ => ZoneSet.renameZone_ok) (fun _ _ _ => ZoneSet.renameZone_error) hs
  case memberAdd =>
    exact hP.command_edit (fun _ _ _ => ZoneSet.addMember_ok) (fun _ _ _ => ZoneSet.addMember_error) hs
  case memberRemove =>
    exact hP.command_edit (fun _ _ _ => ZoneSet.removeMember_ok) (fun _ _ _ => ZoneSet.removeMember_error) hs
  case zoneCommit =>
    refine State.command_keeps hP.answer (fun pr _ s _ h => ⟨hP.zoneCommit s pr h, ?_⟩) hs
    exact State.zoneCommit_fits pr s
  case zoneRead => exact hP.command_read (fun f s => State.zoneRead_fits f s s) hs
  case claimTimeSet => exact hP.command_same (fun n s => .claimTimeSet s n) State.claimTimeSet_fits hs
  case licenceInstall => exact hP.command_same (fun f s => .licenceInstall s f) State.licenceInstall_fits hs
  case licenceRevoke => exact hP.command_same (fun id s => .licenceRevoke s id) State.licenceRevoke_fits hs
  case licenceRemove => exact hP.command_same (fun id s => .licenceRemove s id) State.licenceRemove_fits hs
  case licenceWarnSet => exact hP.command_same (fun f s => .licenceWarnSet s f) State.licenceWarnSet_fits hs
  case graceSet => exact hP.command_same (fun n s => .graceSet s n) State.graceSet_fits hs
  case licenceRead => exact hP.command_read (fun f s => State.licenceRead_fits f s s) hs
  case channelSet => exact hP.command_same (fun f s => .channelSet s f) State.channelSet_fits hs
  case scannerSet => exact hP.command_same (fun f s => .scannerSet s f) State.scannerSet_fits hs
  case readNow => exact hP.readNow hs
  case environmentRead => exact hP.command_data hs
  case coolingSet => exact hP.command_same (fun f s => .coolingSet s f) State.coolingSet_fits hs
  case coolingRead => exact hP.command_data hs
  case supplySet => exact hP.command_same (fun f s => .supplySet s f) State.supplySet_fits hs
  case powerSet => exact hP.command_same (fun f s => .powerSet s f) State.powerSet_fits hs
  case powerRead => exact hP.command_data hs
  case acknowledge => exact hP.command_same (fun f s => .acknowledge s f) State.acknowledge_fits hs
  case alarmSet => exact hP.command_same (fun f s => .alarmSet s f) State.alarmSet_fits hs
  case alarmRead => exact hP.command_data hs
  case addressSet =>
    exact hP.command_same (act := fun a s => ({ s with cfg := { s.cfg with mgmtAddr := BitVec.ofNat 24 a } }, plain .done))
      (fun _ s => .update s _ _ _ _ _) (fun _ _ => Result.fits_of_ne (fun h => by cases h)) hs
  case save =>
    exact State.command_keeps hP.answer (fun _ _ s _ h => ⟨hP.save s h, Result.fits_of_ne (fun h => by cases h)⟩) hs
  case restart =>
    exact State.command_keeps hP.answer
      (fun pr _ s hp h => ⟨hP.restartCommand s pr hp h, Result.fits_of_ne (fun h => by cases h)⟩) hs
  case identityRead => exact hP.command_data hs

/-- By every event. -/
theorem effect (c : Instr) (s : State) (hs : P s) : P (c.effect s) := by
  have same {t : State} (h : s.SameBoard t) : P t := hP.same _ _ h hs
  induction c using effect_cases with
  | cmd cmd c h => rw [h]; exact hP.cmd cmd hs
  | idle c h => rw [h]; exact hs
  | admissionQuery p src dst cls => exact frame hs (fun hup => hP.queryArrives _ _ hup hs)
  | login p a =>
    refine frame hs fun _ => hP.addAnswer _ _ ?_
    exact same (.onChassis s (fun x c => (c.login x (outer x) p a).1))
  | managementRequest origin privilege number cmds =>
    refine frame (f := fun s => match Privilege.ofByte? privilege with
      | some pv => s.requestArrives ⟨origin, pv, number, cmds⟩ | none => s) hs fun hup => ?_
    split
    · exact hP.requestArrives _ _ hup hs
    · exact hs
  | linkUp => exact same (.frameIn s _ (.onChassis s _))
  | linkDown => exact same (.frameIn s _ (.onChassis s _))
  | portFault => exact same (.frameIn s _ (.onChassis s _))
  | faultCleared => exact same (.frameIn s _ (.onChassis s _))
  | logout => exact same (.frameIn s _ (.onChassis s _))
  | bladeEventInserted => exact same (.frameIn s _ (.onChassis s _))
  | bladeEventRemoved => exact same (.frameIn s _ (.onChassis s _))
  | lineActivity => exact hP.activity s hs
  | trainingComplete => exact hP.enterUp s hs
  | lossOfSync => exact hP.lossOfSync s hs
  | outboundFrameEnd => exact hP.frameEnd s hs
  | queryEvaluation => exact hP.evaluateQuery s hs
  | unknownCommandCode => exact hP.unknownCode hs
  | readNowConversionEnd code => exact hP.readNowEnd code hs
  | secondsCounterAdvance => exact hP.secondEnds s hs
  | hourTick => exact hP.hourTick hs
  | drainTimerExpiry p => exact same (.drainTimer s p)
  | holdoffExpiry => exact same (.holdoffEnd s)
  | pacingWindowEnd => exact same (.pacingEnd s)
  | waitTimerExpiry => exact same (.waitTimerEnd s)
  | claimTimerExpiry => exact hP.claimTimer s hs
  | validationEnd => exact hP.validationEnd s hs
  | settlingEnd => exact same (.settlingEnd s)
  | restIntervalEnd => exact same (.restEnd s)
  | conversionEnd code => exact same (.conversionEnd s code)
  | roundEnd code => exact same (.roundEnd s code)
  | tachPulse k => exact same (.pulse s k)
  | gateEnd k => exact same (.gateEnd s k)
  | presenceLost k => exact same (.trayLost s k)
  | presenceGained k => exact same (.trayGained s k)
  | supplySample a b => exact same (.supplySample s a b)
  | pulseTimerExpiry k n => exact same (.pulseEnd s k n)
  | railBelowWarning => exact hP.railLow s hs
  | standbyLowEntry => exact hP.enterLow s hs
  | standbyReturnNormal => exact hP.railBack s hs
  | writeCompletion => exact hP.writeEnds s hs

end BoardKept

end Sys2Proof.Machine

/-! # The store, the zone sets and the queue: what every event keeps of them -/

namespace Sys2Proof.Machine

/-! ## The request processor, by what an answer leaves (R178 to R181) -/

/-- An answer leaves the state but for the processor's list, or ends the list; a list's end changes the commit and the
claim timer, and the requests and responses of the link, and acts as a Restart at most. -/
theorem State.answer_keeps {P : State → Prop}
    (hlink : ∀ (s : State) (pr : Option Proc) ws rs, P s →
      P { s with link := { s.link with proc := pr, waiting := ws, responses := rs } })
    (hcommit : ∀ (s : State) c d, P s → P { s with zone := { s.zone with commit := c, claimDue := d } })
    (hrestart : ∀ s, P s → P (s.restartBy .command)) (s : State) (r : Result) (hs : P s) : P (s.answer r) := by
  have htake (s : State) (hs : P s) : P s.takeRequest := by
    unfold State.takeRequest
    split
    · exact hlink s _ _ _ hs
    · exact hs
  have hrespond (pr : Proc) (s : State) (hs : P s) : P (s.respond pr) := by
    unfold State.respond
    split
    · exact htake _ (hlink s _ _ _ hs)
    · split
      · exact hrestart s hs
      · exact htake _ (hlink s _ s.link.waiting s.link.responses hs)
  have hdecide (pr : Proc) (s : State) (hs : P s) : P (s.decideCommit pr).1 := by
    unfold State.decideCommit
    dsimp only
    split
    · exact hcommit s _ s.zone.claimDue hs
    · exact hcommit s _ _ hs
  unfold State.answer
  split
  · exact hs
  · dsimp only
    split
    · exact hlink s _ s.link.waiting s.link.responses hs
    · unfold State.endList
      split
      · exact hrespond _ _ (hdecide _ _ hs)
      · exact hrespond _ _ hs

/-! ## Properties of what is stored -/

/-- A property of the zone sets, the store, the counters of seconds and the queue is kept by every change of the rest,
and by each change of those. -/
structure Stored (P : State → Prop) : Prop where
  rest : ∀ {s t : State}, P s → t.zone.active = s.zone.active → t.zone.edit = s.zone.edit → t.store = s.store →
    t.pending = s.pending → t.seconds = s.seconds → t.hourSeconds = s.hourSeconds → P t
  restart : ∀ s cause, P s → P (s.restartBy cause)
  edit : ∀ (s : State) e, (s.zone.edit.Ok → e.Ok) → P s → P { s with zone := { s.zone with edit := e } }
  revert : ∀ s : State, P s → P { s with zone := { s.zone with edit := s.zone.active } }
  swap : ∀ s : State, s.zone.edit.Full → P s → P { s with zone := { s.zone with active := s.zone.edit } }
  marks : ∀ (s : State) z c, P s → P { s with store := { s.store with zonesDirty := z, settingsDirty := c } }
  monitor : ∀ (s : State) m r k, P s → P { s with store := { s.store with monitor := m, railLow := r, marker := k } }
  second : ∀ (s : State) a b, a ≤ 4294967295 → (s.hourSeconds ≤ 3599 → b ≤ 3599) → P s →
    P { s with seconds := a, hourSeconds := b }
  complete : ∀ (s : State) i, s.store.writer = .writing i → P s → P { s with store := s.store.complete i }

/-- A zone set without an empty zone is Full (R51). -/
theorem ZoneSet.full_of_findIdx? {e : ZoneSet} (h : e.zones.findIdx? (fun z => z.members.isEmpty) = none) : e.Full := by
  intro z hz hm
  have := List.findIdx?_eq_none_iff.1 h z hz
  simp [hm] at this

theorem Stored.same {P : State → Prop} (hP : Stored P) {s t : State} (h : s.SameBoard t) (hs : P s) : P t :=
  hP.rest hs (by rw [h.zone]) (by rw [h.zone]) h.store h.pending h.seconds h.hourSeconds

theorem Stored.board {P : State → Prop} (hP : Stored P) : BoardKept P where
  same _ _ := hP.same
  addAnswer s a hs := by
    unfold State.addAnswer; split
    · exact hP.rest hs rfl rfl rfl rfl rfl rfl
    · exact hs
  queryArrives s q _ hs := by
    unfold State.queryArrives State.addAnswer; split
    · exact hP.rest hs rfl rfl rfl rfl rfl rfl
    · split
      · exact hP.rest hs rfl rfl rfl rfl rfl rfl
      · exact hs
  requestArrives s r _ hs := by
    unfold State.requestArrives; split
    · unfold State.takeRequest
      split <;> exact hP.rest hs rfl rfl rfl rfl rfl rfl
    · split
      · exact hP.rest hs rfl rfl rfl rfl rfl rfl
      · exact hs
  activity s hs := by
    unfold State.activity; split
    · exact hP.rest hs rfl rfl rfl rfl rfl rfl
    · exact hs
  enterUp s hs := by
    unfold State.enterUp; split
    · exact hP.rest hs rfl rfl rfl rfl rfl rfl
    · exact hs
  lossOfSync s hs := by
    unfold State.lossOfSync; split
    · exact hs
    · exact hP.rest hs rfl rfl rfl rfl rfl rfl
    · have hd : P (s.emptyLink.onChassis Chassis.endDrains) :=
        hP.same (.onChassis _ _) (hP.rest (t := s.emptyLink) hs rfl rfl rfl rfl rfl rfl)
      unfold State.leaveUp; dsimp only; split
      · exact hP.restart _ _ hd
      · exact hd
  frameEnd s hs := by
    unfold State.frameEnd; split
    · exact hs
    · have hd : P { s with link := { s.link with frame := none } } := hP.rest hs rfl rfl rfl rfl rfl rfl
      dsimp only; split
      · exact hP.restart _ _ hd
      · split
        · unfold State.resyncNext; split <;> exact hP.rest hs rfl rfl rfl rfl rfl rfl
        · exact hd
  evaluateQuery s hs := by
    unfold State.evaluateQuery; split
    · exact hs
    · exact hP.rest hs rfl rfl rfl rfl rfl rfl
  answer s r hs _ :=
    State.answer_keeps (fun s _ _ _ hs => hP.rest hs rfl rfl rfl rfl rfl rfl)
      (fun s _ _ hs => hP.rest hs rfl rfl rfl rfl rfl rfl) (fun s hs => hP.restart s _ hs) s r hs
  editCommand s pr g hg hs := by
    unfold State.editCommand; split
    · exact hs
    · split
      · exact hs
      · split
        · exact hs
        · rename_i e he
          exact hP.rest (hP.edit s e (hg _ _ he) hs) rfl rfl rfl rfl rfl rfl
  editBegin s pr hs := by
    unfold State.editBegin; split
    · exact hs
    · split
      · split <;> exact hs
      · exact hP.rest (hP.revert s hs) rfl rfl rfl rfl rfl rfl
  editAbort s pr hs := by
    unfold State.editAbort; split
    · exact hs
    · split
      · exact hs
      · exact hP.rest (hP.revert s hs) rfl rfl rfl rfl rfl rfl
  zoneCommit s pr hs := by
    unfold State.zoneCommit; split
    · exact hs
    · split
      · exact hs
      · exact hs
      · exact hP.rest hs rfl rfl rfl rfl rfl rfl
  claimTimer s hs := by
    unfold State.claimTimer; split
    · exact hP.rest (hP.revert s hs) rfl rfl rfl rfl rfl rfl
    · exact hs
  validationEnd s hs := by
    unfold State.validationEnd; split
    · dsimp only; split
      · exact hP.rest hs rfl rfl rfl rfl rfl rfl
      · rename_i hn
        exact hP.rest (hP.marks _ true s.store.settingsDirty (hP.swap s (ZoneSet.full_of_findIdx? hn) hs))
            rfl rfl rfl rfl rfl rfl
    · exact hs
  secondEnds s hs := by
    have hd := hP.second s ((s.seconds + 1) % 4294967296) (if s.hourSeconds = 3599 then 0 else s.hourSeconds + 1)
      (Nat.le_of_lt_succ (Nat.mod_lt _ (by norm_num))) (by split <;> omega) hs
    unfold State.secondEnds; simp only [decide_eq_true_eq]; split
    · rename_i h
      refine hP.rest hd rfl rfl rfl rfl rfl ?_
      simp at h; simp [h]
    · rename_i h
      refine hP.rest hd rfl rfl rfl rfl rfl ?_
      have h' : ¬ s.hourSeconds = 3599 := h
      simp [h']
  save s hs := hP.marks s s.store.zonesDirty true hs
  restartCommand s pr _ hs := hP.rest hs rfl rfl rfl rfl rfl rfl
  placeReadNow s pr i _ hs := by
    unfold State.placeReadNow; dsimp only; split
    · unfold State.nextConversion; split
      · exact hP.rest hs rfl rfl rfl rfl rfl rfl
      · split <;> exact hP.rest hs rfl rfl rfl rfl rfl rfl
    · exact hP.rest hs rfl rfl rfl rfl rfl rfl
  railLow s hs := by
    unfold State.railLow; split
    · exact hP.monitor s s.store.monitor _ s.store.marker hs
    · exact hs
  enterLow s hs := by
    unfold State.enterLow; split
    · refine hP.rest (hP.monitor s .low none true hs) ?_ ?_ ?_ ?_ ?_ ?_
      all_goals (unfold State.carryUnlessHeld; dsimp only; split <;> rfl)
    · exact hs
  railBack s hs := by
    unfold State.railBack; split
    · exact hP.rest (hP.monitor s .normal s.store.railLow false hs) rfl rfl rfl rfl rfl rfl
    · exact hP.monitor s s.store.monitor none s.store.marker hs
  writeEnds s hs := by
    unfold State.writeEnds; split
    · rename_i i hi
      exact hP.rest (hP.complete s i hi hs) rfl rfl rfl rfl rfl rfl
    · exact hs

/-- R188: a write that is cut off leaves each section as it was, or without valid contents. -/
theorem Store.cutOff_cases (st : Store) :
    (st.cutOff.settings = none ∨ st.cutOff.settings = st.settings) ∧
    (st.cutOff.zones = none ∨ st.cutOff.zones = st.zones) ∧
    (st.cutOff.licences = none ∨ st.cutOff.licences = st.licences) ∧ st.cutOff.writer = .idle := by
  unfold Store.cutOff
  split <;> simp

/-! ## The queue -/

theorem State.settle_pending (s : State) : s.settle.pending = s.pending := congrArg Blocks.pending s.settle_blocks

theorem pending_stored (q : List Instr) : Stored (fun s => s.pending = q) where
  rest hs _ _ _ hp _ _ := hp.trans hs
  restart _ _ hs := hs
  edit _ _ _ hs := hs
  revert _ hs := hs
  swap _ _ hs := hs
  marks _ _ _ hs := hs
  monitor _ _ _ _ hs := hs
  second _ _ _ _ _ hs := hs
  complete s i _ hs := by cases i <;> exact hs

theorem pending_kept (q : List Instr) : Kept (fun s => s.pending = q) where
  presence _ _ _ hs := hs
  hold _ _ hs := hs
  settle s hs := s.settle_pending.trans hs
  effect := (pending_stored q).board.effect
  loseRail s hs := by
    show s.loseRail.pending = q
    exact hs
  coldStart _ _ hs := hs
  restart _ _ hs := hs

/-- Every command answers a next state. -/
theorem exec_total (c : Instr) (s : State) : ∃ t, exec c s = .next t := by
  have event (f : State → State) (s : State) : ∃ t, s.event f = .next t := by
    unfold State.event; split <;> exact ⟨_, rfl⟩
  have eventInHold (f : State → State) (s : State) : ∃ t, s.eventInHold f = .next t := by
    unfold State.eventInHold; split <;> exact ⟨_, rfl⟩
  cases hc : actsInHold c with
  | false => exact exec_eq_event hc s ▸ event _ s
  | true =>
    rcases actsInHold_cases hc with ⟨b, rfl⟩ | ⟨k, rfl⟩ | ⟨k, rfl⟩ | rfl | rfl | rfl | rfl | rfl | rfl | rfl
    · by_cases hl : s.store.monitor = .lost
      · exact ⟨_, exec_coldStart_of_lost hl b⟩
      · exact ⟨_, exec_coldStart_of_not_lost hl b⟩
    · rw [exec_presenceLost]; exact event _ _
    · rw [exec_presenceGained]; exact event _ _
    · by_cases hr : s.Runs
      · exact ⟨_, exec_resetLineAssert_of_runs hr⟩
      · exact ⟨_, exec_resetLineAssert_of_not_runs hr⟩
    · rw [exec_resetLineRelease]; exact event _ _
    · rw [exec_railBelowWarning]; exact eventInHold _ s
    · rw [exec_standbyLowEntry]; exact eventInHold _ s
    · rw [exec_standbyReturnNormal]; exact eventInHold _ s
    · by_cases hl : s.store.monitor = .lost
      · exact ⟨s, if_pos hl⟩
      · exact ⟨_, exec_standbyLost hl⟩
    · rw [exec_writeCompletion]; exact eventInHold _ s

/-- Settles O2: every command answers a next state, and none changes the queue that it finds. -/
theorem everyStepAnswersAndAdvancesQueue : Obligations.EveryStepAnswersAndAdvancesQueue := by
  intro s
  cases hp : s.pending with
  | nil =>
    refine ⟨s.idle, step_of_nil hp, ?_⟩
    unfold State.idle
    split <;> exact hp
  | cons c rest =>
    obtain ⟨t, ht⟩ := exec_total c { s with pending := rest }
    exact ⟨t, (step_of_cons hp).trans ht, (pending_kept rest).exec (s := { s with pending := rest }) rfl ht⟩

end Sys2Proof.Machine

/-! # Bounds of the zone sets, the claim, the credits and the counters of seconds -/

namespace Sys2Proof.Machine

/-! ## What the writer holds after an event's end -/

/-- R187: at the end of an event the writer is as it was, or idle, or held, or has captured a section. -/
theorem State.settle_writer (s : State) :
    s.settle.store.writer = s.store.writer ∨ s.settle.store.writer = .idle ∨ s.settle.store.writer = .held ∨
      s.settle.store.writer = .writing (.licences s.licenceImage) ∨
      s.settle.store.writer = .writing (.zones s.zoneImage) ∨ s.settle.store.writer = .writing (.settings s.cfg) := by
  let u := (s.onChassis Chassis.judgeGrace).endStartUp
  obtain ⟨ns, b, h2⟩ := (s.onChassis Chassis.judgeGrace).endStartUp_frame
  obtain ⟨qc, rc, vs, as, rs, ov, f, sl, ms, h4⟩ := u.runWriter.arbitrate_frame
  have hset : s.settle.store = u.runWriter.store := by
    show u.runWriter.arbitrate.driveLines.store = _
    rw [h4]; rfl
  have hu : u.licenceImage = s.licenceImage ∧ u.zoneImage = s.zoneImage ∧ u.cfg = s.cfg ∧
      u.store.writer = s.store.writer := by
    show (State.endStartUp _).licenceImage = _ ∧ _
    rw [show u = _ from h2, h2]
    exact ⟨rfl, rfl, rfl, rfl⟩
  obtain ⟨hl, hz, hc, hw⟩ := hu
  have hbegin : u.beginWrite.store.writer = .writing (.licences s.licenceImage) ∨
      u.beginWrite.store.writer = .writing (.zones s.zoneImage) ∨
      u.beginWrite.store.writer = .writing (.settings s.cfg) := by
    unfold State.beginWrite
    split
    · rw [← hl]; exact .inl rfl
    · split
      · rw [← hz]; exact .inr (.inl rfl)
      · rw [← hc]; exact .inr (.inr rfl)
  rw [hset, ← hw]
  unfold State.runWriter
  split
  · exact .inl rfl
  · split
    · split
      · exact .inr (.inr (.inl rfl))
      · exact .inr (.inr (.inr hbegin))
    · exact .inl rfl
  · split
    · exact .inl rfl
    · split
      · exact .inr (.inr (.inr hbegin))
      · exact .inr (.inl rfl)

/-! ## The zone sets (R49 to R51, R77) -/

theorem ZoneSet.factory_ok : ZoneSet.factory.Ok ∧ ZoneSet.factory.Full := by
  refine ⟨⟨by decide, by decide, by decide, by decide, ?_⟩, ?_⟩ <;> exact fun z hz => absurd hz List.not_mem_nil

/-- R77: the zone set that a reset loads. -/
theorem zoneImage_ok {o : Option ZoneImage} (h : ∀ z ∈ o, z.set.Ok ∧ z.set.Full) :
    (o.getD ⟨ZoneSet.factory, 0⟩).set.Ok ∧ (o.getD ⟨ZoneSet.factory, 0⟩).set.Full := by
  cases o with
  | none => exact ZoneSet.factory_ok
  | some z => exact h z rfl

/-- A reset of a store whose zones are within their limits. -/
theorem boot_zonesOk {st : Store} (h : ∀ z ∈ st.zones, z.set.Ok ∧ z.set.Full) (alm : Ctx → Alm) (n d a b : Nat)
    (tr : Vector Bool 8) (hd : Bool) (q : List Instr) : (boot st alm n d a b tr hd q).ZonesOk := by
  obtain ⟨hok, hfull⟩ := zoneImage_ok h
  exact ⟨hok, hfull, hok, h, fun e he => by cases he⟩

theorem zonesOk_stored : Stored State.ZonesOk where
  rest hs ha he hst _ _ _ := by
    unfold State.ZonesOk at *
    rw [ha, he, hst]; exact hs
  restart s cause hs := by
    obtain ⟨-, -, -, hz, -⟩ := hs
    refine boot_zonesOk ?_ ..
    rcases s.store.cutOff_cases.2.1 with h | h
    · rw [show ({ s.store.cutOff with cause := cause } : Store).zones = none from h]; exact nofun
    · rw [show ({ s.store.cutOff with cause := cause } : Store).zones = s.store.zones from h]; exact hz
  edit s e he hs := ⟨hs.1, hs.2.1, he hs.2.2.1, hs.2.2.2⟩
  revert s hs := ⟨hs.1, hs.2.1, hs.1, hs.2.2.2⟩
  swap s hf hs := ⟨hs.2.2.1, hf, hs.2.2⟩
  marks _ _ _ hs := hs
  monitor _ _ _ _ hs := hs
  second _ _ _ _ _ hs := hs
  complete s i hi hs := by
    obtain ⟨ha, haf, he, hz, hw⟩ := hs
    cases i with
    | settings c => exact ⟨ha, haf, he, hz, nofun⟩
    | licences l => exact ⟨ha, haf, he, hz, nofun⟩
    | zones z =>
      refine ⟨ha, haf, he, fun z' hz' => ?_, nofun⟩
      cases hz'
      exact hw z.set (by rw [hi]; rfl)

/-- R187: what the writer captures at an event's end is within the limits. -/
theorem State.settle_zonesOk {s : State} (hs : s.ZonesOk) : s.settle.ZonesOk := by
  obtain ⟨ha, haf, he, hz, hw⟩ := hs
  have hb := s.settle_blocks
  have hzone : s.settle.zone = s.zone := congrArg Blocks.zone hb
  have hzones : s.settle.store.zones = s.store.zones := congrArg Blocks.zones hb
  unfold State.ZonesOk
  rw [hzone, hzones]
  refine ⟨ha, haf, he, hz, ?_⟩
  rcases s.settle_writer with h | h | h | h | h | h <;> rw [h]
  · exact hw
  · exact nofun
  · exact nofun
  · exact nofun
  · intro e he'
    cases he'
    exact ⟨ha, haf⟩
  · exact nofun

/-- R188: so is what a loss of the rail leaves. -/
theorem State.loseRail_zonesOk {s : State} (hs : s.ZonesOk) : s.loseRail.ZonesOk := by
  obtain ⟨ha, haf, he, hz, -⟩ := hs
  obtain ⟨-, hcz, -, hcw⟩ := s.store.cutOff_cases
  refine ⟨ha, haf, he, ?_, ?_⟩
  · show ∀ z ∈ s.store.cutOff.zones, z.set.Ok ∧ z.set.Full
    rcases hcz with h | h <;> rw [h]
    · exact nofun
    · exact hz
  · show ∀ e ∈ s.store.cutOff.writer.zoneSet?, e.Ok ∧ e.Full
    rw [hcw]; exact nofun

theorem State.coldStartNow_zonesOk {s : State} (b : Bool) (hs : s.ZonesOk) : (s.coldStartNow b).ZonesOk := by
  obtain ⟨-, -, -, hz, -⟩ := hs
  unfold State.coldStartNow
  refine boot_zonesOk ?_ ..
  exact hz

theorem zonesOk_kept : Kept State.ZonesOk where
  presence _ _ _ hs := hs
  hold _ _ hs := hs
  settle _ := State.settle_zonesOk
  effect := zonesOk_stored.board.effect
  loseRail _ hs := State.loseRail_zonesOk hs
  coldStart _ b := State.coldStartNow_zonesOk b
  restart := zonesOk_stored.restart

/-- R49 to R51: every step keeps the zone sets within their limits. -/
theorem step_zonesOk {s t : State} (hs : s.ZonesOk) (h : step s = .next t) : t.ZonesOk :=
  zonesOk_kept.step (fun _ _ hs => hs) (fun _ _ hs => hs) hs h

/-! ## The counters of seconds (R91, R191) -/

/-- R91, R191: the two counters of seconds within their ranges. -/
def State.SecondsOk (s : State) : Prop := s.hourSeconds ≤ 3599 ∧ s.seconds ≤ 4294967295

theorem secondsOk_stored : Stored State.SecondsOk where
  rest hs _ _ _ _ ha hb := by
    unfold State.SecondsOk at *
    rw [ha, hb]; exact hs
  restart _ _ hs := hs
  edit _ _ _ hs := hs
  revert _ hs := hs
  swap _ _ hs := hs
  marks _ _ _ hs := hs
  monitor _ _ _ _ hs := hs
  second _ _ _ ha hb hs := ⟨hb hs.1, ha⟩
  complete s i _ hs := by cases i <;> exact hs

theorem secondsOk_kept : Kept State.SecondsOk where
  presence _ _ _ hs := hs
  hold _ _ hs := hs
  settle s hs := by
    have hb := s.settle_blocks
    unfold State.SecondsOk at *
    rw [show s.settle.hourSeconds = s.hourSeconds from congrArg Blocks.hourSeconds hb,
      show s.settle.seconds = s.seconds from congrArg Blocks.seconds hb]
    exact hs
  effect := secondsOk_stored.board.effect
  loseRail _ hs := hs
  coldStart _ _ _ := ⟨Nat.zero_le _, Nat.zero_le _⟩
  restart _ _ hs := hs

/-! ## The stored licence tables (R78) -/

/-- The stored table and one being written are within their limits. -/
def State.StoredLicencesOk (s : State) : Prop :=
  (∀ l ∈ s.store.licences, recordsOk l.records) ∧ ∀ rs ∈ s.store.writer.records?, recordsOk rs

theorem storedLicencesOk_stored : Stored State.StoredLicencesOk where
  rest hs _ _ hst _ _ _ := by
    unfold State.StoredLicencesOk at *
    rw [hst]; exact hs
  restart s cause hs := by
    refine ⟨?_, nofun⟩
    show ∀ l ∈ s.store.cutOff.licences, recordsOk l.records
    rcases s.store.cutOff_cases.2.2.1 with h | h <;> rw [h]
    · exact nofun
    · exact hs.1
  edit _ _ _ hs := hs
  revert _ hs := hs
  swap _ _ hs := hs
  marks _ _ _ hs := hs
  monitor _ _ _ _ hs := hs
  second _ _ _ _ _ hs := hs
  complete s i hi hs := by
    obtain ⟨hl, hw⟩ := hs
    cases i with
    | settings c => exact ⟨hl, nofun⟩
    | zones z => exact ⟨hl, nofun⟩
    | licences l =>
      refine ⟨fun l' hl' => ?_, nofun⟩
      cases hl'
      exact hw l.records (by rw [hi]; rfl)

/-! ## The credits (R29, R34, R71, R175) -/

/-- R34, R171, R175: what the credits say of a link with so many queries. -/
def Link.CreditsOk (l : Link) (queries : List Query) : Prop :=
  l.answers.length ≤ 64 ∧ (l.verdicts.filter (fun i => !i.isVerdict)).length ≤ 1 ∧
    (l.state = .up →
      l.queryCredits + queries.length + l.unsentVerdicts = 64 ∧
      l.requestCredits + l.waiting.length + l.liveProc + l.responses.length = 8) ∧
    (l.state ≠ .up →
      queries = [] ∧ l.unsentVerdicts = 0 ∧ l.waiting = [] ∧ l.liveProc = 0 ∧ l.responses = []) ∧
    (l.proc = none → l.waiting = [])

theorem State.creditsOk_iff (s : State) : s.CreditsOk ↔ s.link.CreditsOk s.queries := Iff.rfl

end Sys2Proof.Machine

/-! # The credits and the claim: what every event keeps of them -/

namespace Sys2Proof.Machine

/-! ## The credits, step by step -/

@[simp] theorem VerdictItem.isVerdict_verdict (v : Verdict) : (VerdictItem.verdict v).isVerdict = true := rfl
@[simp] theorem VerdictItem.isVerdict_flush (g : Word16) : (VerdictItem.flush g).isVerdict = false := rfl

/-- All that the credits say but that an idle processor leaves no request waiting (R178). -/
def Link.Balanced (l : Link) (queries : List Query) : Prop :=
  l.answers.length ≤ 64 ∧ (l.verdicts.filter (fun i => !i.isVerdict)).length ≤ 1 ∧
    (l.state = .up →
      l.queryCredits + queries.length + l.unsentVerdicts = 64 ∧
      l.requestCredits + l.waiting.length + l.liveProc + l.responses.length = 8) ∧
    (l.state ≠ .up →
      queries = [] ∧ l.unsentVerdicts = 0 ∧ l.waiting = [] ∧ l.liveProc = 0 ∧ l.responses = [])

theorem Link.Balanced.creditsOk {l : Link} {qs : List Query} (h : l.Balanced qs) (hp : l.proc = none → l.waiting = []) :
    l.CreditsOk qs := ⟨h.1, h.2.1, h.2.2.1, h.2.2.2, hp⟩

/-- R178: the processor takes the oldest request, which it then holds for the core. -/
theorem State.takeRequest_creditsOk {s : State} (h : s.link.Balanced s.queries) : s.takeRequest.CreditsOk := by
  obtain ⟨ha, hv, hup, hdown⟩ := h
  unfold State.takeRequest
  split
  · rename_i r rest hp hw
    have hlive : s.link.liveProc = 0 := by simp [Link.liveProc, hp]
    have hst : s.link.state = .up := by
      by_contra hc
      have hnil := (hdown hc).2.2.1
      cases hw.symm.trans hnil
    obtain ⟨hq, hr⟩ := hup hst
    rw [hw, hlive] at hr
    simp only [List.length_cons] at hr
    refine ⟨ha, hv, fun _ => ⟨hq, ?_⟩, fun hc => absurd hst hc, nofun⟩
    show s.link.requestCredits + rest.length + 1 + s.link.responses.length = 8
    omega
  · rename_i hno
    refine Link.Balanced.creditsOk ⟨ha, hv, hup, hdown⟩ fun hp => ?_
    cases hw : s.link.waiting with
    | nil => rfl
    | cons r rest => exact absurd hw (hno r rest hp)

/-- R184: a reset leaves an empty link. -/
theorem boot_creditsOk (st : Store) (alm : Ctx → Alm) (n d a b : Nat) (tr : Vector Bool 8) (h : Bool)
    (q : List Instr) : (boot st alm n d a b tr h q).CreditsOk :=
  ⟨Nat.zero_le _, Nat.zero_le _, (fun hc => by cases hc), fun _ => ⟨rfl, rfl, rfl, rfl, rfl⟩, fun _ => rfl⟩

/-- R181: the response gives the processor's place in the queue to itself. -/
theorem State.respond_creditsOk {s : State} {pr pr' : Proc} (h : s.CreditsOk) (hp : s.link.proc = some pr')
    (hl : pr.live = pr'.live) : (s.respond pr).CreditsOk := by
  obtain ⟨ha, hv, hup, hdown, -⟩ := s.creditsOk_iff.1 h
  have hlive : s.link.liveProc = if pr.live then 1 else 0 := by simp [Link.liveProc, hp, hl]
  unfold State.respond
  split
  · rename_i hpl
    rw [if_pos hpl] at hlive
    refine State.takeRequest_creditsOk ⟨ha, hv, fun hc => ?_, fun hc => ?_⟩
    · obtain ⟨hq, hr⟩ := hup hc
      refine ⟨hq, ?_⟩
      show s.link.requestCredits + s.link.waiting.length + 0 + (s.link.responses ++ [_]).length = 8
      simp only [List.length_append, List.length_singleton]
      omega
    · exact absurd ((hdown hc).2.2.2.1.symm.trans hlive) (by decide)
  · rename_i hpl
    rw [if_neg hpl] at hlive
    split
    · exact boot_creditsOk ..
    · refine State.takeRequest_creditsOk ⟨ha, hv, fun hc => ?_, fun hc => ?_⟩
      · obtain ⟨hq, hr⟩ := hup hc
        rw [hlive] at hr
        exact ⟨hq, hr⟩
      · obtain ⟨hq, hu, hw, -, hr⟩ := hdown hc
        exact ⟨hq, hu, hw, rfl, hr⟩

/-- R178: a change of the processor that leaves it live or not leaves the credits. -/
theorem State.proc_creditsOk {s : State} {pr pr' : Proc} (h : s.CreditsOk) (hp : s.link.proc = some pr)
    (hl : pr'.live = pr.live) : ({ s with link := { s.link with proc := some pr' } } : State).CreditsOk := by
  obtain ⟨ha, hv, hup, hdown, -⟩ := s.creditsOk_iff.1 h
  have hlive : ({ s.link with proc := some pr' } : Link).liveProc = s.link.liveProc := by
    simp [Link.liveProc, hp, hl]
  refine ⟨ha, hv, fun hc => ?_, fun hc => ?_, nofun⟩
  · obtain ⟨hq, hr⟩ := hup hc
    exact ⟨hq, by rw [hlive]; exact hr⟩
  · obtain ⟨hq, hu, hw, hz, hr⟩ := hdown hc
    exact ⟨hq, hu, hw, by rw [hlive]; exact hz, hr⟩

theorem State.decideCommit_link (pr : Proc) (s : State) :
    (s.decideCommit pr).1.link = s.link ∧ (s.decideCommit pr).1.queries = s.queries := by
  unfold State.decideCommit
  dsimp only
  split <;> exact ⟨rfl, rfl⟩

theorem State.answer_creditsOk {s : State} (r : Result) (h : s.CreditsOk) : (s.answer r).CreditsOk := by
  unfold State.answer
  split
  · exact h
  · rename_i pr hp
    dsimp only
    split
    · exact State.proc_creditsOk h hp rfl
    · unfold State.endList
      split
      · dsimp only
        obtain ⟨hdl, hdq⟩ := s.decideCommit_link
          { pr with results := pr.results ++ r :: pr.left.tail.map (fun _ => ⟨.skipped, []⟩), left := [], holding := false }
        refine State.respond_creditsOk (pr' := pr) ?_ (by rw [hdl]; exact hp) rfl
        rw [State.creditsOk_iff, hdl, hdq]
        exact h
      · exact State.respond_creditsOk h hp rfl

/-- R171: a link that is emptied. -/
theorem State.emptyLink_creditsOk (s : State) : s.emptyLink.CreditsOk := by
  refine ⟨Nat.zero_le _, Nat.zero_le _, (fun hc => by cases hc), fun _ => ⟨rfl, rfl, rfl, ?_, rfl⟩, fun _ => rfl⟩
  show (match s.link.proc.map (fun pr => { pr with live := false }) with
    | some pr => if pr.live then 1 else 0 | none => 0) = 0
  cases s.link.proc <;> rfl

/-- R71: a flush leaves the verdicts and is the one marker. -/
theorem placeFlush_counts (g : Word16) (vs : List VerdictItem) :
    ((placeFlush g vs).filter (fun i => !i.isVerdict)).length ≤ 1 ∧
      ((placeFlush g vs).filter VerdictItem.isVerdict).length = (vs.filter VerdictItem.isVerdict).length := by
  have hp : placeFlush g vs = vs.filter VerdictItem.isVerdict ++ [.flush g] := by
    unfold placeFlush
    congr 2
    funext i
    cases i <;> rfl
  rw [hp]
  simp [List.filter_append, List.filter_filter]

/-- An event that changes neither the link nor the queries. -/
theorem State.creditsOk_of_eq {s t : State} (hl : t.link = s.link) (hq : t.queries = s.queries) (h : s.CreditsOk) :
    t.CreditsOk := by
  rw [State.creditsOk_iff, hl, hq]; exact h

theorem State.queryArrives_creditsOk {s : State} (q : Query) (hst : s.link.state = .up) (h : s.CreditsOk) :
    (s.queryArrives q).CreditsOk := by
  obtain ⟨ha, hv, hup, hdown, hp⟩ := s.creditsOk_iff.1 h
  obtain ⟨hq, hr⟩ := hup hst
  unfold State.queryArrives
  split
  · refine ⟨ha, hv, fun _ => ⟨?_, hr⟩, fun hc => absurd hst hc, hp⟩
    show s.link.queryCredits - 1 + (s.queries ++ [q]).length + s.link.unsentVerdicts = 64
    simp only [List.length_append, List.length_singleton]
    omega
  · unfold State.addAnswer
    split
    · rename_i hlt
      refine ⟨?_, hv, hup, hdown, hp⟩
      show (s.link.answers ++ [_]).length ≤ 64
      simp only [List.length_append, List.length_singleton]
      exact hlt
    · exact h

theorem State.requestArrives_creditsOk {s : State} (r : Request) (hst : s.link.state = .up) (h : s.CreditsOk) :
    (s.requestArrives r).CreditsOk := by
  obtain ⟨ha, hv, hup, hdown, hp⟩ := s.creditsOk_iff.1 h
  obtain ⟨hq, hr⟩ := hup hst
  unfold State.requestArrives
  split
  · refine State.takeRequest_creditsOk ⟨ha, hv, fun _ => ⟨hq, ?_⟩, fun hc => absurd hst hc⟩
    show s.link.requestCredits - 1 + (s.link.waiting ++ [r]).length + s.link.liveProc + s.link.responses.length = 8
    simp only [List.length_append, List.length_singleton]
    omega
  · split
    · exact ⟨ha, hv, hup, hdown, hp⟩
    · exact h

/-- R172: the credits as they are set are those of an empty link. -/
theorem State.enterUp_creditsOk {s : State} (h : s.CreditsOk) : s.enterUp.CreditsOk := by
  obtain ⟨ha, hv, hup, hdown, hp⟩ := s.creditsOk_iff.1 h
  unfold State.enterUp
  split
  · rename_i hst
    obtain ⟨hq, hu, hw, hz, hr⟩ := hdown (by rw [hst]; exact nofun)
    refine ⟨ha, hv, fun _ => ⟨?_, ?_⟩, fun hc => absurd rfl hc, hp⟩
    · show 64 + s.queries.length + s.link.unsentVerdicts = 64
      simp [hq, hu]
    · show 8 + s.link.waiting.length + s.link.liveProc + s.link.responses.length = 8
      simp [hw, hz, hr]
  · exact h

theorem State.lossOfSync_creditsOk {s : State} (h : s.CreditsOk) : s.lossOfSync.CreditsOk := by
  obtain ⟨ha, hv, hup, hdown, hp⟩ := s.creditsOk_iff.1 h
  unfold State.lossOfSync
  split
  · exact h
  · rename_i hst
    exact ⟨ha, hv, (fun hc => by cases hc), fun _ => hdown (by rw [hst]; exact nofun), hp⟩
  · unfold State.leaveUp
    dsimp only
    split
    · exact boot_creditsOk ..
    · exact State.creditsOk_of_eq (s := s.emptyLink) rfl rfl s.emptyLink_creditsOk

theorem State.frameEnd_creditsOk {s : State} (h : s.CreditsOk) : s.frameEnd.CreditsOk := by
  unfold State.frameEnd
  split
  · exact h
  · dsimp only
    split
    · exact boot_creditsOk ..
    · split
      · unfold State.resyncNext
        split <;> exact h
      · exact h

/-- R35: a query that becomes a verdict keeps its credit. -/
theorem State.evaluateQuery_creditsOk {s : State} (h : s.CreditsOk) : s.evaluateQuery.CreditsOk := by
  obtain ⟨ha, hv, hup, hdown, hp⟩ := s.creditsOk_iff.1 h
  unfold State.evaluateQuery
  split
  · exact h
  · rename_i q rest hq
    refine ⟨ha, ?_, fun hc => ?_, fun hc => ?_, hp⟩
    · show ((s.link.verdicts ++ [VerdictItem.verdict _]).filter (fun i => !i.isVerdict)).length ≤ 1
      simpa [List.filter_append] using hv
    · obtain ⟨hqc, hr⟩ := hup hc
      refine ⟨?_, hr⟩
      rw [hq] at hqc
      show s.link.queryCredits + rest.length + ((s.link.verdicts ++ [VerdictItem.verdict _]).filter VerdictItem.isVerdict).length = 64
      simp only [List.length_cons, Link.unsentVerdicts] at hqc
      rw [List.filter_append, List.length_append,
        show ([VerdictItem.verdict (s.verdictOf q)].filter VerdictItem.isVerdict).length = 1 from rfl]
      omega
    · obtain ⟨hnil, -⟩ := hdown hc
      cases hq.symm.trans hnil

theorem State.validationEnd_creditsOk {s : State} (h : s.CreditsOk) : s.validationEnd.CreditsOk := by
  obtain ⟨ha, hv, hup, hdown, hp⟩ := s.creditsOk_iff.1 h
  unfold State.validationEnd
  split
  · dsimp only
    split
    · exact h
    · obtain ⟨h1, h2⟩ := placeFlush_counts (s.zone.generation + 1#16) s.link.verdicts
      refine ⟨ha, h1, fun hc => ?_, fun hc => ?_, hp⟩
      · obtain ⟨hq, hr⟩ := hup hc
        refine ⟨?_, hr⟩
        show s.link.queryCredits + s.queries.length + ((placeFlush _ s.link.verdicts).filter VerdictItem.isVerdict).length = 64
        exact (congrArg (s.link.queryCredits + s.queries.length + ·) h2).trans hq
      · obtain ⟨hq, hu, hrest⟩ := hdown hc
        exact ⟨hq, h2.trans hu, hrest⟩
  · exact h

/-! ## The credits at an event's end -/

/-- R176, R34, R175: an item that leaves returns its credit. -/
theorem State.takeItem_creditsOk {s : State} (hst : s.link.state = .up) (h : s.CreditsOk) : s.takeItem.CreditsOk := by
  obtain ⟨ha, hv, hup, hdown, hp⟩ := s.creditsOk_iff.1 h
  obtain ⟨hq, hr⟩ := hup hst
  unfold State.takeItem
  split
  · rename_i v rest hvs
    rw [hvs] at hv
    rw [Link.unsentVerdicts, hvs, List.filter_cons_of_pos (by rfl), List.length_cons] at hq
    refine ⟨ha, by simpa using hv, fun _ => ⟨?_, hr⟩, fun hc => absurd hst hc, hp⟩
    show s.link.queryCredits + 1 + s.queries.length + (rest.filter VerdictItem.isVerdict).length = 64
    omega
  · rename_i g rest hvs
    rw [hvs] at hv
    simp only [Link.unsentVerdicts, hvs] at hq
    refine ⟨ha, (List.IsSuffix.length_le ?_).trans hv, fun _ => ⟨?_, hr⟩, fun hc => absurd hst hc, hp⟩
    · exact (List.suffix_cons (VerdictItem.flush g) rest).filter _
    · show s.link.queryCredits + s.queries.length + (rest.filter VerdictItem.isVerdict).length = 64
      simpa using hq
  · split
    · rename_i has
      rw [has] at ha
      exact ⟨Nat.le_of_succ_le ha, hv, hup, hdown, hp⟩
    · rename_i has
      rw [has] at ha
      exact ⟨Nat.le_of_succ_le ha, hv, hup, hdown, hp⟩
    · split
      · exact h
      · split
        · rename_i r rest hrs
          rw [hrs, List.length_cons] at hr
          refine ⟨ha, hv, fun _ => ⟨hq, ?_⟩, fun hc => absurd hst hc, hp⟩
          show s.link.requestCredits + 1 + s.link.waiting.length + s.link.liveProc + rest.length = 8
          omega
        · split
          · exact ⟨ha, hv, hup, hdown, hp⟩
          · split <;> exact h

/-- The end of an event reaches the link and the queries by the arbiter alone. -/
theorem State.settle_creditsOk {s : State} (h : s.CreditsOk) : s.settle.CreditsOk := by
  obtain ⟨ns, b, h2⟩ := (s.onChassis Chassis.judgeGrace).endStartUp_frame
  obtain ⟨l, z, c, w, h3⟩ := (s.onChassis Chassis.judgeGrace).endStartUp.runWriter_frame
  have hu : (s.onChassis Chassis.judgeGrace).endStartUp.runWriter.CreditsOk := by
    refine State.creditsOk_of_eq (s := s) ?_ ?_ h <;> rw [h3, h2] <;> rfl
  show (State.arbitrate _).CreditsOk
  unfold State.arbitrate
  split
  · rename_i hc
    exact State.takeItem_creditsOk hc.1 hu
  · exact hu

/-! ## Every step keeps the credits -/

/-- R58: an edit command reaches neither the link nor the queries. -/
theorem State.editCommand_link (s : State) (g : ZoneSet → Except Status ZoneSet) (pr : Proc) :
    (s.editCommand g pr).1.link = s.link ∧ (s.editCommand g pr).1.queries = s.queries := by
  unfold State.editCommand
  split
  · exact ⟨rfl, rfl⟩
  · split
    · exact ⟨rfl, rfl⟩
    · split <;> exact ⟨rfl, rfl⟩

theorem State.editBegin_link (s : State) (pr : Proc) :
    (s.editBegin pr).1.link = s.link ∧ (s.editBegin pr).1.queries = s.queries := by
  unfold State.editBegin
  split
  · exact ⟨rfl, rfl⟩
  · split
    · split <;> exact ⟨rfl, rfl⟩
    · exact ⟨rfl, rfl⟩

theorem State.editAbort_link (s : State) (pr : Proc) :
    (s.editAbort pr).1.link = s.link ∧ (s.editAbort pr).1.queries = s.queries := by
  unfold State.editAbort
  split
  · exact ⟨rfl, rfl⟩
  · split <;> exact ⟨rfl, rfl⟩

theorem State.zoneCommit_link (s : State) (pr : Proc) :
    (s.zoneCommit pr).1.link = s.link ∧ (s.zoneCommit pr).1.queries = s.queries := by
  unfold State.zoneCommit
  split
  · exact ⟨rfl, rfl⟩
  · split <;> exact ⟨rfl, rfl⟩

theorem State.claimTimer_link (s : State) : s.claimTimer.link = s.link ∧ s.claimTimer.queries = s.queries := by
  unfold State.claimTimer
  split <;> exact ⟨rfl, rfl⟩

theorem State.secondEnds_link (s : State) :
    s.secondEnds.link = s.link ∧ s.secondEnds.queries = s.queries ∧ s.secondEnds.zone = s.zone := by
  unfold State.secondEnds
  dsimp only
  split <;> exact ⟨rfl, rfl, rfl⟩

/-- R190: the standby monitor reaches neither. -/
theorem State.monitor_link (s : State) :
    (s.railLow.link = s.link ∧ s.railLow.queries = s.queries ∧ s.railLow.zone = s.zone) ∧
      (s.enterLow.link = s.link ∧ s.enterLow.queries = s.queries ∧ s.enterLow.zone = s.zone) ∧
      (s.railBack.link = s.link ∧ s.railBack.queries = s.queries ∧ s.railBack.zone = s.zone) := by
  refine ⟨?_, ?_, ?_⟩
  · unfold State.railLow
    split <;> exact ⟨rfl, rfl, rfl⟩
  · unfold State.enterLow
    split
    · unfold State.carryUnlessHeld
      dsimp only
      split <;> exact ⟨rfl, rfl, rfl⟩
    · exact ⟨rfl, rfl, rfl⟩
  · unfold State.railBack
    split <;> exact ⟨rfl, rfl, rfl⟩

theorem State.writeEnds_link (s : State) :
    s.writeEnds.link = s.link ∧ s.writeEnds.queries = s.queries ∧ s.writeEnds.zone = s.zone := by
  unfold State.writeEnds
  split <;> exact ⟨rfl, rfl, rfl⟩

/-- R114: Read Now marks the processor as held, and reaches the scanner. -/
theorem State.placeReadNow_link (s : State) (pr : Proc) (i : ChanId) :
    (s.placeReadNow pr i).link = { s.link with proc := some { pr with holding := true } } ∧
      (s.placeReadNow pr i).queries = s.queries ∧ (s.placeReadNow pr i).zone = s.zone := by
  have h (u : State) : u.SameBoard u.nextConversion := .nextConversion u
  unfold State.placeReadNow
  dsimp only
  split
  · exact ⟨(h _).link, (h _).queries, (h _).zone⟩
  · exact ⟨rfl, rfl, rfl⟩

theorem creditsOk_board : BoardKept State.CreditsOk where
  same _ _ h := State.creditsOk_of_eq h.link h.queries
  addAnswer s a h := by
    unfold State.addAnswer
    split
    · rename_i hlt
      refine ⟨?_, h.2⟩
      show (s.link.answers ++ [a]).length ≤ 64
      simp only [List.length_append, List.length_singleton]
      exact hlt
    · exact h
  queryArrives _ q := State.queryArrives_creditsOk q
  requestArrives _ r := State.requestArrives_creditsOk r
  activity s h := by
    unfold State.activity
    split
    · rename_i hst
      obtain ⟨ha, hv, -, hdown, hp⟩ := h
      exact ⟨ha, hv, (fun hc => by cases hc), fun _ => hdown (by rw [hst]; exact nofun), hp⟩
    · exact h
  enterUp _ := State.enterUp_creditsOk
  lossOfSync _ := State.lossOfSync_creditsOk
  frameEnd _ := State.frameEnd_creditsOk
  evaluateQuery _ := State.evaluateQuery_creditsOk
  answer _ r h _ := State.answer_creditsOk r h
  editCommand s pr g _ := State.creditsOk_of_eq (s.editCommand_link g pr).1 (s.editCommand_link g pr).2
  editBegin s pr := State.creditsOk_of_eq (s.editBegin_link pr).1 (s.editBegin_link pr).2
  editAbort s pr := State.creditsOk_of_eq (s.editAbort_link pr).1 (s.editAbort_link pr).2
  zoneCommit s pr := State.creditsOk_of_eq (s.zoneCommit_link pr).1 (s.zoneCommit_link pr).2
  claimTimer s := State.creditsOk_of_eq s.claimTimer_link.1 s.claimTimer_link.2
  validationEnd _ := State.validationEnd_creditsOk
  secondEnds s := State.creditsOk_of_eq s.secondEnds_link.1 s.secondEnds_link.2.1
  save _ h := h
  restartCommand _ _ hp h := State.proc_creditsOk h hp rfl
  placeReadNow s pr i hp h := by
    obtain ⟨hl, hq, -⟩ := s.placeReadNow_link pr i
    rw [State.creditsOk_iff, hl, hq]
    exact State.proc_creditsOk (pr' := { pr with holding := true }) h hp rfl
  railLow s := State.creditsOk_of_eq s.monitor_link.1.1 s.monitor_link.1.2.1
  enterLow s := State.creditsOk_of_eq s.monitor_link.2.1.1 s.monitor_link.2.1.2.1
  railBack s := State.creditsOk_of_eq s.monitor_link.2.2.1 s.monitor_link.2.2.2.1
  writeEnds s := State.creditsOk_of_eq s.writeEnds_link.1 s.writeEnds_link.2.1

theorem creditsOk_kept : Kept State.CreditsOk where
  presence _ _ _ h := h
  hold _ _ h := h
  settle _ := State.settle_creditsOk
  effect := creditsOk_board.effect
  loseRail s h := State.creditsOk_of_eq (s := s) rfl rfl h
  coldStart _ _ _ := boot_creditsOk ..
  restart _ _ _ := boot_creditsOk ..

/-- R29, R34, R71, R175: every step keeps the credits. -/
theorem step_creditsOk {s t : State} (hs : s.CreditsOk) (h : step s = .next t) : t.CreditsOk :=
  creditsOk_kept.step (fun _ _ hs => hs) (fun _ _ hs => hs) hs h

/-! ## The claim (R48, R53, R65, R66) -/

/-- R66: the results of a list hold an Armed one only while the commit is armed. -/
def Link.ArmedOk (l : Link) (c : Commit) : Prop :=
  ∀ pr ∈ l.proc, (∃ r ∈ pr.results, r.status = .armed) → c = .armed

theorem State.claimOk_iff (s : State) : s.ClaimOk ↔ s.zone.ClaimOk ∧ s.link.ArmedOk s.zone.commit := Iff.rfl

/-- An event that changes neither the zone unit nor the processor. -/
theorem State.claimOk_of_eq {s t : State} (hz : t.zone = s.zone) (hp : t.link.proc = s.link.proc) (h : s.ClaimOk) :
    t.ClaimOk := by
  rw [State.claimOk_iff, Link.ArmedOk, hz, hp]; exact h

/-- R77: a reset leaves no claim, no commit and an idle processor. -/
theorem boot_claimOk (st : Store) (alm : Ctx → Alm) (n d a b : Nat) (tr : Vector Bool 8) (h : Bool)
    (q : List Instr) : (boot st alm n d a b tr h q).ClaimOk :=
  ⟨⟨fun _ => ⟨rfl, rfl, rfl⟩, fun hc => absurd rfl hc⟩, fun _ hp => by cases hp⟩

/-- A processor that begins a list, or holds none, has no Armed result. -/
theorem State.takeRequest_claimOk {s : State} (hz : s.zone.ClaimOk) (hp : s.link.proc = none) :
    s.takeRequest.ClaimOk := by
  unfold State.takeRequest
  split
  · refine ⟨hz, fun pr hpr ⟨r, hr, _⟩ => ?_⟩
    cases hpr
    cases hr
  · exact ⟨hz, fun pr hpr => by cases hp.symm.trans hpr⟩

theorem State.respond_claimOk {s : State} (pr : Proc) (hz : s.zone.ClaimOk) : (s.respond pr).ClaimOk := by
  unfold State.respond
  split
  · exact State.takeRequest_claimOk hz rfl
  · split
    · exact boot_claimOk ..
    · exact State.takeRequest_claimOk hz rfl

/-- R67: the decision of an armed commit. -/
theorem State.decideCommit_claimOk {s : State} (pr : Proc) (hz : s.zone.ClaimOk) (hc : s.zone.commit = .armed) :
    (s.decideCommit pr).1.zone.ClaimOk := by
  obtain ⟨hnone, hdue⟩ := hz
  have hdue' : s.zone.claimDue = none := hdue (by rw [hc]; exact nofun)
  unfold State.decideCommit
  dsimp only
  split
  · rename_i hd
    rw [Bool.and_eq_true, beq_iff_eq] at hd
    exact ⟨(fun ho => by cases hd.2.symm.trans ho), fun _ => hdue'⟩
  · refine ⟨fun ho => ⟨(hnone ho).1, ?_, rfl⟩, fun hc' => absurd rfl hc'⟩
    show (if s.zone.owner == some pr.origin then _ else s.zone.claimDue) = none
    rw [show s.zone.owner = none from ho, hdue']; rfl

/-- A result that fits keeps the claim (R66, R67). -/
theorem State.answer_claimOk {s : State} {r : Result} (h : s.ClaimOk) (hf : r.Fits s) : (s.answer r).ClaimOk := by
  obtain ⟨hz, ha⟩ := h
  unfold State.answer
  split
  · exact ⟨hz, ha⟩
  · rename_i pr hp
    have harmed (r' : Result) (hr' : r' ∈ pr.results ∨ r' = r) (hst : r'.status = .armed) : s.zone.commit = .armed := by
      rcases hr' with hr' | rfl
      · exact ha pr hp ⟨r', hr', hst⟩
      · exact hf hst
    dsimp only
    split
    · refine ⟨hz, fun pr' hpr' ⟨r', hr', hst⟩ => ?_⟩
      cases hpr'
      rcases List.mem_append.1 hr' with hr' | hr'
      · exact harmed r' (.inl hr') hst
      · exact harmed r' (.inr (List.mem_singleton.1 hr')) hst
    · unfold State.endList
      split
      · rename_i hany
        obtain ⟨r', hr', hst⟩ := List.any_eq_true.1 hany
        refine State.respond_claimOk _ (State.decideCommit_claimOk _ hz ?_)
        rw [beq_iff_eq] at hst
        rcases List.mem_append.1 hr' with hr' | hr'
        · exact harmed r' (.inl hr') hst
        · rcases List.mem_cons.1 hr' with hr' | hr'
          · exact harmed r' (.inr hr') hst
          · obtain ⟨-, -, rfl⟩ := List.mem_map.1 hr'
            cases hst
      · exact State.respond_claimOk _ hz

theorem State.lossOfSync_claimOk {s : State} (h : s.ClaimOk) : s.lossOfSync.ClaimOk := by
  unfold State.lossOfSync
  split
  · exact h
  · exact h
  · unfold State.leaveUp
    dsimp only
    split
    · exact boot_claimOk ..
    · refine State.claimOk_of_eq (s := s.emptyLink) rfl rfl ⟨h.1, fun pr hpr hr => ?_⟩
      obtain ⟨pr', hpr', rfl⟩ := Option.map_eq_some_iff.1 hpr
      exact h.2 pr' hpr' hr

theorem State.frameEnd_claimOk {s : State} (h : s.ClaimOk) : s.frameEnd.ClaimOk := by
  unfold State.frameEnd
  split
  · exact h
  · dsimp only
    split
    · exact boot_claimOk ..
    · split
      · unfold State.resyncNext
        split <;> exact h
      · exact h

theorem Commit.armed_of_not_inFlight {c : Commit} (hf : ¬ c.inFlight = true) (hi : c ≠ .idle) : c = .armed := by
  cases c with
  | idle => exact absurd rfl hi
  | armed => rfl
  | validating d => exact absurd rfl hf

/-- R56: a claim that is given up with no commit in flight. -/
theorem ZoneUnit.dropped_claimOk {z : ZoneUnit} (hf : ¬ z.commit.inFlight = true) :
    ({ z with edit := z.active, owner := none, claimDue := none } : ZoneUnit).ClaimOk :=
  ⟨fun _ => ⟨rfl, rfl, by simpa using hf⟩, fun _ => rfl⟩

theorem State.validationEnd_claimOk {s : State} (h : s.ClaimOk) : s.validationEnd.ClaimOk := by
  obtain ⟨⟨hnone, hdue⟩, ha⟩ := h
  unfold State.validationEnd
  split
  · rename_i due hc
    have hfree (pr : Proc) (hpr : pr ∈ s.link.proc) : ¬ ∃ r ∈ pr.results, r.status = .armed :=
      fun hr => by cases hc.symm.trans (ha pr hpr hr)
    have howner : s.zone.owner ≠ none := fun ho => by
      have := (hnone ho).2.2
      rw [hc] at this
      cases this
    dsimp only
    split
    · exact ⟨⟨fun ho => absurd ho howner, fun hi => absurd rfl hi⟩, fun pr hpr hr => absurd hr (hfree pr hpr)⟩
    · exact ⟨⟨fun _ => ⟨rfl, rfl, rfl⟩, fun hi => absurd rfl hi⟩, fun pr hpr hr => absurd hr (hfree pr hpr)⟩
  · exact ⟨⟨hnone, hdue⟩, ha⟩

theorem claimOk_board : BoardKept State.ClaimOk where
  same _ _ h := State.claimOk_of_eq h.zone (by rw [h.link])
  addAnswer s a h := by
    unfold State.addAnswer
    split <;> exact h
  queryArrives s q _ h := by
    unfold State.queryArrives State.addAnswer
    split
    · exact h
    · split <;> exact h
  requestArrives s r _ h := by
    unfold State.requestArrives
    split
    · unfold State.takeRequest
      split
      · refine ⟨h.1, fun pr hpr ⟨r, hr, _⟩ => ?_⟩
        cases hpr
        cases hr
      · exact h
    · split <;> exact h
  activity s h := by
    unfold State.activity
    split <;> exact h
  enterUp s h := by
    unfold State.enterUp
    split <;> exact h
  lossOfSync _ := State.lossOfSync_claimOk
  frameEnd _ := State.frameEnd_claimOk
  evaluateQuery s h := by
    unfold State.evaluateQuery
    split <;> exact h
  answer _ _ := State.answer_claimOk
  editCommand s pr g _ h := by
    obtain ⟨⟨hnone, hdue⟩, ha⟩ := h
    unfold State.editCommand
    split
    · exact ⟨⟨hnone, hdue⟩, ha⟩
    · rename_i howner
      split
      · exact ⟨⟨hnone, hdue⟩, ha⟩
      · rename_i hf
        split
        · exact ⟨⟨hnone, hdue⟩, ha⟩
        · refine ⟨⟨fun ho => absurd ?_ howner, fun hi => ?_⟩, ha⟩
          · exact fun hc => by cases (show s.zone.owner = none from ho).symm.trans hc
          · show (if s.zone.commit = .armed then s.zone.claimDue else _) = none
            rw [if_pos (Commit.armed_of_not_inFlight hf hi)]
            exact hdue hi
  editBegin s pr h := by
    obtain ⟨⟨hnone, hdue⟩, ha⟩ := h
    unfold State.editBegin
    split
    · exact ⟨⟨hnone, hdue⟩, ha⟩
    · rename_i hf
      split
      · split <;> exact ⟨⟨hnone, hdue⟩, ha⟩
      · refine ⟨⟨nofun, fun hi => ?_⟩, ha⟩
        show (if s.zone.commit = .armed then none else _) = none
        rw [if_pos (Commit.armed_of_not_inFlight hf hi)]
  editAbort s pr h := by
    unfold State.editAbort
    split
    · exact h
    · split
      · exact h
      · rename_i hf
        exact ⟨ZoneUnit.dropped_claimOk hf, h.2⟩
  zoneCommit s pr h := by
    unfold State.zoneCommit
    split
    · exact h
    · rename_i howner
      split
      · exact h
      · exact h
      · refine ⟨⟨fun ho => absurd ?_ howner, fun _ => rfl⟩, fun _ _ _ => rfl⟩
        exact fun hc => by cases (show s.zone.owner = none from ho).symm.trans hc
  claimTimer s h := by
    obtain ⟨⟨hnone, hdue⟩, ha⟩ := h
    unfold State.claimTimer
    split
    · rename_i due o hd ho
      refine ⟨ZoneUnit.dropped_claimOk (z := s.zone) fun hf => ?_, ha⟩
      have hn := hdue (fun hi => by rw [hi] at hf; cases hf)
      cases hd.symm.trans hn
    · exact ⟨⟨hnone, hdue⟩, ha⟩
  validationEnd _ := State.validationEnd_claimOk
  secondEnds s := State.claimOk_of_eq s.secondEnds_link.2.2 (by rw [s.secondEnds_link.1])
  save _ h := h
  restartCommand s pr hp h := ⟨h.1, fun pr' hpr' hr => by cases hpr'; exact h.2 pr hp hr⟩
  placeReadNow s pr i hp h := by
    obtain ⟨hl, -, hz⟩ := s.placeReadNow_link pr i
    rw [State.claimOk_iff, hz, hl]
    exact ⟨h.1, fun pr' hpr' hr => by cases hpr'; exact h.2 pr hp hr⟩
  railLow s := State.claimOk_of_eq s.monitor_link.1.2.2 (by rw [s.monitor_link.1.1])
  enterLow s := State.claimOk_of_eq s.monitor_link.2.1.2.2 (by rw [s.monitor_link.2.1.1])
  railBack s := State.claimOk_of_eq s.monitor_link.2.2.2.2 (by rw [s.monitor_link.2.2.1])
  writeEnds s := State.claimOk_of_eq s.writeEnds_link.2.2 (by rw [s.writeEnds_link.1])

theorem claimOk_kept : Kept State.ClaimOk where
  presence _ _ _ h := h
  hold _ _ h := h
  settle s := State.claimOk_of_eq (congrArg Blocks.zone s.settle_blocks) (congrArg Blocks.proc s.settle_blocks)
  effect := claimOk_board.effect
  loseRail s h := State.claimOk_of_eq (s := s) rfl rfl h
  coldStart _ _ _ := boot_claimOk ..
  restart _ _ _ := boot_claimOk ..

/-- R48, R53, R65, R66: every step keeps the claim. -/
theorem step_claimOk {s t : State} (hs : s.ClaimOk) (h : step s = .next t) : t.ClaimOk :=
  claimOk_kept.step (fun _ _ hs => hs) (fun _ _ hs => hs) hs h

end Sys2Proof.Machine

/-! # What every operation of the chassis keeps -/

namespace Sys2Proof.Machine

/-! ## The grant wait list in its order (R147) -/

theorem mem_insertWait {prio : PortId → Nat} {e f : WaitEntry} : ∀ {l : List WaitEntry},
    f ∈ insertWait prio e l ↔ f = e ∨ f ∈ l
  | [] => by simp [insertWait]
  | g :: gs => by
    unfold insertWait
    split
    · simp only [List.mem_cons, mem_insertWait (l := gs)]
      tauto
    · simp

/-- R147: the list in its order has the list's entries. -/
theorem Chassis.mem_waitOrder {x : Ctx} {c : Chassis} {e : WaitEntry} : e ∈ c.waitOrder x ↔ e ∈ c.pwr.waitList := by
  have h (l acc : List WaitEntry) :
      e ∈ l.foldl (fun acc e => insertWait (fun p => (x.cfg.port p).priority) e acc) acc ↔ e ∈ l ∨ e ∈ acc := by
    induction l generalizing acc with
    | nil => simp
    | cons a as ih =>
      rw [List.foldl_cons, ih, mem_insertWait, List.mem_cons]
      tauto
  rw [Chassis.waitOrder, h]
  simp

theorem Chassis.onWaitList_iff {c : Chassis} {p : PortId} :
    c.onWaitList p = true ↔ ∃ e ∈ c.pwr.waitList, e.port = p := by
  simp [Chassis.onWaitList]

/-! ## The Power Wait judgement and a departure, by what they change (R148) -/

theorem Chassis.judgePowerWait_frame (x : Ctx) (c : Chassis) : ∃ a b w,
    c.judgePowerWait x = { c with alm := a, pwr := { c.pwr with powerWait := b, waitTimer := w } } := by
  unfold Chassis.judgePowerWait
  split
  · dsimp only
    split <;> exact ⟨_, _, _, rfl⟩
  · split <;> dsimp only <;> split <;> exact ⟨_, _, _, rfl⟩

theorem Chassis.leaveWait_frame (x : Ctx) (p : PortId) (c : Chassis) : ∃ a b w,
    c.leaveWait x p = { c with
      alm := a
      pwr := { c.pwr with
        waitList := c.pwr.waitList.filter (fun e => e.port != p), powerWait := b, waitTimer := w } } := by
  unfold Chassis.leaveWait
  dsimp only
  split
  · obtain ⟨a, b, w, h⟩ := Chassis.judgePowerWait_frame x
      (c.setPwr { c.pwr with waitList := c.pwr.waitList.filter (fun e => e.port != p) })
    exact ⟨a, b, w, h⟩
  · exact ⟨_, _, _, rfl⟩

/-! ## The element of lowest rank -/

theorem lowest_mem {α : Type} {rank : α → Nat} {a : α} : ∀ {l : List α}, lowest rank l = some a → a ∈ l
  | [], h => by cases h
  | b :: bs, h => by
    unfold lowest at h
    split at h
    · cases h; exact List.mem_cons_self
    · rename_i d hd
      split at h
      · cases h; exact List.mem_cons_of_mem _ (lowest_mem hd)
      · cases h; exact List.mem_cons_self

/-- R144: the port to revoke next holds a grant and is not Protected. -/
theorem Chassis.of_nextShed {x : Ctx} {c : Chassis} {p : PortId} (h : c.nextShed x = some p) :
    (c.port p).granted.isSome = true ∧ (x.cfg.port p).priority ≤ 6 := by
  simpa using (List.mem_filter.1 (lowest_mem h)).2

/-! ## The hooks -/

@[simp] theorem outer_eval (x : Ctx) : (outer x).eval = Chassis.evaluate x := by simp only [outer]
@[simp] theorem outer_pass (x : Ctx) : (outer x).pass = Chassis.pass x := by simp only [outer]

/-! ## Properties closed under the elementary moves -/

/-- The alarms that grace bindings, shed passes and the grant wait list ask for. -/
def chassisKind : AlarmKind → Bool
  | .graceRunning | .powerWait | .powerShedActive => true
  | _ => false

/-- What PWR keeps in a move that neither forms the budget nor places a grant or a request. -/
structure Pwr.Follows (w v : Pwr) : Prop where
  pacing : w.pacing = v.pacing
  inputs : w.inputs = v.inputs
  stages : w.stages = v.stages
  budget : w.budget = v.budget
  redundancyLost : w.redundancyLost = v.redundancyLost
  episode : w.episode = v.episode
  waitList : ∀ e ∈ w.waitList, e ∈ v.waitList

/-- A property of the chassis that the elementary moves of the blocks at the ports of `S` keep. -/
structure Chassis.Moves (x : Ctx) (S : PortId → Prop) (P : Chassis → Prop) : Prop where
  port : ∀ c p r, S p → r.granted = none ∨ r.granted = (c.port p).granted → P c → P (c.setPort p r)
  joinWait : ∀ c p k, S p → P c → P (c.joinWait x p k)
  pwr : ∀ c w, w.Follows c.pwr → P c → P (c.setPwr w)
  count : ∀ c, c.pwr.paced = false → P c → P (c.setPwr (c.pwr.countGrant x.clockMs))
  control : ∀ c p k, S p → P c → P (c.putControl x p k)
  logins : ∀ c p, S p → P c → P (c.removeLogins p)
  alarm_raise : ∀ c k, chassisKind k = true → P c → P (c.raise x k 0)
  alarm_clear : ∀ c k, chassisKind k = true → P c → P (c.clear x k 0)
  running : ∀ (c : Chassis) b, P c → P { c with graceRunning := b }
  bind : ∀ c p l, S p → c.seatChoice x p = some l → P c → P (c.bindSeat l.id p)
  unbind : ∀ c p id, S p → P c → P (c.unbindSeat id p)
  grace : ∀ c p n, S p → P c → P (c.setGrace p n)
  joinSeat : ∀ c p, S p → P c → P (c.joinSeatWait p)
  leaveSeat : ∀ c p, S p → P c → P (c.leaveSeatWait p)
  due : ∀ (c : Chassis) b, P c → P { c with passDue := b }

/-- One for which `S` holds every port that a move may reach: those that hold a grant, stand on a wait list or hold a
counted grace binding, since an evaluation and a binding pass reach these. -/
structure Chassis.Closed (x : Ctx) (S : PortId → Prop) (P : Chassis → Prop) : Prop extends Chassis.Moves x S P where
  of_granted : ∀ c p, P c → (c.port p).granted.isSome = true → S p
  of_waiting : ∀ c p, P c → c.onWaitList p = true → S p
  of_counted : ∀ c p, P c → (c.port p).binding = .counted → S p
  of_seatWait : ∀ c p, P c → p ∈ c.seatWait → S p
  episode : ∀ c b, P c → P (c.setPwr { c.pwr with episode := b })

/-- One that the lowering of a grant in place keeps as well. -/
structure Chassis.ClosedLower (x : Ctx) (S : PortId → Prop) (P : Chassis → Prop) : Prop extends
    Chassis.Closed x S P where
  lower : ∀ c p g, S p → (c.port p).granted.isSome = true → P c →
    P (c.setPort p { c.port p with granted := some g, state := .linkWait, negotiated := none })

/-- One that a grant and the forming of the budget keep as well, so that an evaluation does. -/
structure Chassis.ClosedEval (x : Ctx) (S : PortId → Prop) (P : Chassis → Prop) : Prop extends
    Chassis.ClosedLower x S P where
  take : ∀ c p g, S p → P c → P (c.takeGrant x p g)
  form : ∀ c, P c → P (c.formBudget x)

/-- Both hooks keep a property, and so does a lowering with the evaluation that it causes. -/
structure Hooks.Keep (h : Hooks) (x : Ctx) (S : PortId → Prop) (P : Chassis → Prop) : Prop where
  eval : ∀ c, P c → P (h.eval c)
  pass : ∀ c, P c → P (h.pass c)
  lower : ∀ c p g, S p → (c.port p).granted.isSome = true → P c → P (c.reenableLower x h p g)

namespace Chassis.Moves

variable {x : Ctx} {S : PortId → Prop} {P : Chassis → Prop} (hP : Chassis.Moves x S P)
include hP

theorem judge {k : AlarmKind} (hk : chassisKind k = true) (b b' : Bool) {c : Chassis} (hc : P c) :
    P { c with alm := c.alm.judge x k 0 b b' } := by
  unfold Alm.judge
  split
  · exact hP.alarm_raise c k hk hc
  · exact hP.alarm_clear c k hk hc
  · exact hc

theorem judgeGrace {c : Chassis} (hc : P c) : P (c.judgeGrace x) :=
  hP.running _ _ (hP.judge rfl _ _ hc)

theorem judgePowerWait {c : Chassis} (hc : P c) : P (c.judgePowerWait x) := by
  unfold Chassis.judgePowerWait
  split
  · dsimp only
    refine hP.pwr _ _ ⟨rfl, rfl, rfl, rfl, rfl, rfl, fun _ he => he⟩ ?_
    split
    · exact hP.alarm_clear _ _ rfl hc
    · exact hc
  · split
    · dsimp only
      refine hP.pwr _ _ ⟨rfl, rfl, rfl, rfl, rfl, rfl, fun _ he => he⟩ ?_
      split
      · exact hc
      · exact hP.alarm_raise _ _ rfl hc
    · dsimp only
      refine hP.pwr _ _ ⟨rfl, rfl, rfl, rfl, rfl, rfl, fun _ he => he⟩ ?_
      split
      · exact hP.alarm_clear _ _ rfl hc
      · exact hc

theorem leaveWait (p : PortId) {c : Chassis} (hc : P c) : P (c.leaveWait x p) := by
  have h : P (c.setPwr { c.pwr with waitList := c.pwr.waitList.filter (fun e => e.port != p) }) :=
    hP.pwr _ _ ⟨rfl, rfl, rfl, rfl, rfl, rfl, fun _ he => (List.mem_filter.1 he).1⟩ hc
  unfold Chassis.leaveWait
  dsimp only
  split
  · exact hP.judgePowerWait h
  · exact h

section Ops

variable {h : Hooks} (hh : h.Keep x S P) {p : PortId} (hp : S p) {c : Chassis} (hc : P c)
include hp hc

theorem linkUp (k : RateClass) : P (c.linkUp p k) := by
  unfold Chassis.linkUp
  dsimp only
  split
  · exact hP.port _ _ _ hp (.inr rfl) hc
  · exact hP.port _ _ _ hp (.inr rfl) hc
  · exact hP.port _ _ _ hp (.inr rfl) hc
  · exact hc

include hh

theorem grantRequest : P (c.grantRequest x h p) := by
  unfold Chassis.grantRequest
  split
  · exact hc
  · exact hh.eval _ (hP.joinWait _ _ _ hp hc)

theorem grantRelease : P (c.grantRelease x h p) := by
  unfold Chassis.grantRelease
  split
  · exact hh.eval _ (hP.leaveWait _ (hP.port _ _ _ hp (.inl rfl) hc))
  · exact hc

theorem seatRelease : P (c.seatRelease x h p) := by
  unfold Chassis.seatRelease
  dsimp only
  split
  · exact hP.port _ _ _ hp (.inr rfl) hc
  · exact hh.pass _ (hP.unbind _ _ _ hp (hP.port _ _ _ hp (.inr rfl) hc))
  · exact hP.judgeGrace (hP.grace _ _ _ hp (hP.port _ _ _ hp (.inr rfl) hc))
  · exact hP.judgeGrace (hP.port _ _ _ hp (.inr rfl) hc)

theorem seatBound (b : Binding) (k : RateClass) : P (c.seatBound x h p b k) :=
  hP.grantRequest hh hp (hP.port _ _ _ hp (.inr rfl) hc)

theorem seatRequest : P (c.seatRequest x h p) := by
  unfold Chassis.seatRequest
  split
  · rename_i l hl
    exact hP.seatBound hh hp (hP.grace _ _ _ hp (hP.bind _ _ _ hp hl hc)) _ _
  · split
    · exact hP.seatBound hh hp hc _ _
    · exact hP.joinSeat _ _ hp (hP.port _ _ _ hp (.inr rfl) hc)

theorem drainEnd (t : DrainTarget) : P (c.drainEnd x h p t) := by
  have hr : P (((((c.removeLogins p).grantRelease x h p).putControl x p .disable).setPort p
      { (((c.removeLogins p).grantRelease x h p).putControl x p .disable).port p with
        state := .disabled, negotiated := none }).seatRelease x h p) :=
    hP.seatRelease hh hp (hP.port _ _ _ hp (.inr rfl) (hP.control _ _ _ hp (hP.grantRelease hh hp (hP.logins _ _ hp hc))))
  cases t with
  | disabled => exact hr
  | unseated => exact hP.seatRequest hh hp hr

theorem endDrainOf : P (c.endDrainOf x h p) := by
  unfold Chassis.endDrainOf
  split
  · exact hP.drainEnd hh hp hc _
  · exact hc

theorem startDrain (t : DrainTarget) : P (c.startDrain x h p t) := by
  unfold Chassis.startDrain
  dsimp only
  split
  · exact hP.drainEnd hh hp (hP.port _ _ { c.port p with state := .draining t _ } hp (.inr rfl) hc) _
  · exact hP.port _ _ _ hp (.inr rfl) hc

theorem afterLoginRemoved : P (c.afterLoginRemoved x h p) := by
  unfold Chassis.afterLoginRemoved
  split
  · exact hP.endDrainOf hh hp hc
  · exact hc

theorem ceilingFell : P (c.ceilingFell x h p) := by
  unfold Chassis.ceilingFell
  dsimp only
  split
  · rename_i g e hg he
    have hs : (c.port p).granted.isSome = true := by rw [hg]; rfl
    split
    · split
      · exact hh.lower _ _ _ hp hs hc
      · exact hh.lower _ _ _ hp hs hc
      · exact hP.drainEnd hh hp hc _
      · exact hc
    · exact hc
  · exact hc

theorem seatNotice (b : Binding) (ceil : Option RateClass) : P (c.seatNotice x h p b ceil) :=
  hP.ceilingFell hh hp (hP.port _ _ _ hp (.inr rfl) hc)

theorem requestChanged : P (c.requestChanged x h p) := hP.ceilingFell hh hp (hP.port _ _ _ hp (.inr rfl) hc)

theorem seatLoss : P (c.seatLoss x h p) := by
  unfold Chassis.seatLoss
  dsimp only
  split
  · exact hP.startDrain hh hp (hP.port _ _ { c.port p with binding := .drainHold } hp (.inr rfl) hc) _
  · exact hP.startDrain hh hp (hP.port _ _ { c.port p with binding := .drainHold } hp (.inr rfl) hc) _
  · exact hP.port _ _ _ hp (.inr rfl) hc
  · exact hP.grantRelease hh hp (hP.joinSeat _ _ hp (hP.port _ _ _ hp (.inr rfl) hc))
  · exact hP.grantRelease hh hp (hP.joinSeat _ _ hp (hP.port _ _ _ hp (.inr rfl) hc))
  · exact hP.grantRelease hh hp (hP.joinSeat _ _ hp (hP.port _ _ _ hp (.inr rfl) hc))
  · exact hc
  · exact hc
  · exact hc

omit hc in
/-- R145: a revocation keeps what holds once the grant is taken. -/
theorem revoke_of (hc : ∀ r : PortRec, r.granted = none → P (c.setPort p r)) : P (c.revoke x h p) := by
  have hs : P ((((c.setPort p { c.port p with state := .shed, granted := none, negotiated := none }).putControl x p
      .disable).removeLogins p).joinWait x p .shed) :=
    hP.joinWait _ _ _ hp (hP.logins _ _ hp (hP.control _ _ _ hp (hc _ rfl)))
  unfold Chassis.revoke
  dsimp only
  split
  · exact hs
  · exact hs
  · exact hP.drainEnd hh hp (hc _ rfl) _
  · exact hc _ rfl

theorem revoke : P (c.revoke x h p) := hP.revoke_of hh hp fun _ hr => hP.port _ _ _ hp (.inl hr) hc

theorem linkDown : P (c.linkDown x h p) := by
  unfold Chassis.linkDown
  dsimp only
  split
  · exact hP.logins _ _ hp (hP.port _ _ _ hp (.inr rfl) hc)
  · exact hP.drainEnd hh hp hc _
  · exact hc

theorem portFault : P (c.portFault x h p) := by
  have hf := hP.port _ _ { ((((c.setPort p { c.port p with state := .fault }).grantRelease x h p).putControl x p
      .disable).removeLogins p).port p with negotiated := none } hp (.inr rfl)
    (hP.logins _ _ hp (hP.control _ _ .disable hp
      (hP.grantRelease hh hp (hP.port _ _ { c.port p with state := .fault } hp (.inr rfl) hc))))
  unfold Chassis.portFault
  dsimp only
  split
  · exact hf
  · exact hf
  · exact hP.drainEnd hh hp hc _
  · exact hc

theorem faultCleared : P (c.faultCleared x h p) := by
  unfold Chassis.faultCleared
  split
  · exact hP.grantRequest hh hp (hP.port _ _ _ hp (.inr rfl) hc)
  · exact hc

theorem enablePort : P (c.enablePort x h p) := by
  unfold Chassis.enablePort
  dsimp only
  split
  · exact hP.seatRequest hh hp hc
  · split <;> exact hP.port _ _ _ hp (.inr rfl) hc
  · exact hc

theorem disablePort : P (c.disablePort x h p) := by
  have hd : P (((c.setPort p { c.port p with state := .disabled }).grantRelease x h p).seatRelease x h p) :=
    hP.seatRelease hh hp (hP.grantRelease hh hp (hP.port _ _ _ hp (.inr rfl) hc))
  unfold Chassis.disablePort
  dsimp only
  split
  · exact hP.startDrain hh hp hc _
  · exact hP.startDrain hh hp hc _
  · exact hP.port _ _ _ hp (.inr rfl) hc
  · exact hP.leaveSeat _ _ hp (hP.port _ _ _ hp (.inr rfl) hc)
  · exact hd
  · exact hd
  · exact hd
  · exact hc
  · exact hc
  · exact hc

theorem removePort : P (c.removePort x h p) := by
  have hr : P ((((((c.grantRelease x h p).seatRelease x h p).leaveSeatWait p).setGrace p 0).removeLogins p).setPort p
      PortRec.reset) :=
    hP.port _ _ _ hp (.inl rfl) (hP.logins _ _ hp (hP.grace _ _ _ hp (hP.leaveSeat _ _ hp
      (hP.seatRelease hh hp (hP.grantRelease hh hp hc)))))
  unfold Chassis.removePort
  dsimp only
  split
  · exact hr
  · exact hP.control _ _ _ hp hr

theorem rebindOne (old : Word16) (n : Nat) : P (c.rebindOne x h old n p) := by
  unfold Chassis.rebindOne
  split
  · split
    · rename_i l hl
      exact hP.seatNotice hh hp (hP.bind _ _ _ hp hl hc) _ _
    · split
      · exact hP.seatNotice hh hp (hP.grace _ _ _ hp hc) _ _
      · exact hP.seatLoss hh hp hc
  · exact hc

end Ops

/-- Cases of a binding pass that wait keep it. -/
theorem markPass {c : Chassis} (hc : P c) : P c.markPass := hP.due _ _ hc

end Chassis.Moves

namespace Chassis.Closed

variable {x : Ctx} {S : PortId → Prop} {P : Chassis → Prop} (hP : Chassis.Closed x S P)
include hP

section Passes

variable {h : Hooks} (hh : h.Keep x S P)
include hh

theorem serveGrace (p : PortId) {c : Chassis} (hc : P c) : P (Chassis.serveGrace x h c p) := by
  unfold Chassis.serveGrace
  split
  · rename_i hb
    have hp := hP.of_counted c p hc hb
    split
    · rename_i l hl
      exact hP.seatNotice hh hp (hP.grace _ _ _ hp (hP.bind _ _ _ hp hl hc)) _ _
    · exact hc
  · exact hc

theorem serveWaiting (p : PortId) {c : Chassis} (hc : P c) : P (Chassis.serveWaiting x h c p) := by
  unfold Chassis.serveWaiting
  split
  · rename_i hw
    have hp := hP.of_seatWait c p hc (List.contains_iff_mem.1 hw)
    split
    · rename_i l hl
      exact hP.seatBound hh hp (hP.bind _ _ _ hp (by exact hl) (hP.leaveSeat _ _ hp hc)) _ _
    · exact hc
  · exact hc

theorem onePass {c : Chassis} (hc : P c) : P (c.onePass x h) := by
  have h1 : P (allPorts.foldl (Chassis.serveGrace x h) c) :=
    List.foldlRecOn (motive := P) _ _ hc fun _ hd p _ => hP.serveGrace hh p hd
  exact List.foldlRecOn (motive := P) _ _ h1 fun _ hd p _ => hP.serveWaiting hh p hd

theorem graceHour (p : PortId) {c : Chassis} (hc : P c) : P (Chassis.graceHour x h c p) := by
  unfold Chassis.graceHour
  split
  · rename_i hb
    have hp := hP.of_counted c p hc hb
    dsimp only
    split
    · exact hP.seatLoss hh hp (hP.grace _ _ _ hp hc)
    · exact hP.grace _ _ _ hp hc
  · exact hc

theorem graceHours {c : Chassis} (hc : P c) : P (c.graceHours x h) :=
  hP.judgeGrace (List.foldlRecOn (motive := P) _ _ hc fun _ hd p _ => hP.graceHour hh p hd)

end Passes

theorem passes {eval : Chassis → Chassis} (hk : (⟨eval, Chassis.markPass⟩ : Hooks).Keep x S P) (n : Nat) {c : Chassis}
    (hc : P c) : P (c.passes x eval n) := by
  induction n generalizing c with
  | zero => exact hP.due _ _ hc
  | succ n ih =>
    have h1 : P (Chassis.onePass x ⟨eval, Chassis.markPass⟩ { c with passDue := false }) :=
      hP.onePass hk (hP.due _ _ hc)
    unfold Chassis.passes
    dsimp only
    split
    · exact ih h1
    · exact h1

theorem bindingPass {eval : Chassis → Chassis} (hk : (⟨eval, Chassis.markPass⟩ : Hooks).Keep x S P) {c : Chassis}
    (hc : P c) : P (c.bindingPass x eval) := hP.passes hk 257 hc

theorem passIfDue {eval : Chassis → Chassis} (hk : (⟨eval, Chassis.markPass⟩ : Hooks).Keep x S P) {c : Chassis}
    (hc : P c) : P (c.passIfDue x eval) := by
  unfold Chassis.passIfDue
  split
  · exact hP.bindingPass hk hc
  · exact hc

/-! ### The evaluation -/

theorem shedLoop {h : Hooks} (hh : h.Keep x S P) (budget n : Nat) {c : Chassis} (any : Bool) (hc : P c) :
    P (c.shedLoop x h budget n any).1 := by
  induction n generalizing c any with
  | zero => exact hc
  | succ n ih =>
    unfold Chassis.shedLoop
    split
    · exact hc
    · split
      · exact hc
      · rename_i p hp
        exact ih _ (hP.revoke hh (hP.of_granted c p hc (Chassis.of_nextShed hp).1) hc)

theorem openEpisode {c : Chassis} (hc : P c) : P (c.openEpisode x) := by
  unfold Chassis.openEpisode
  split
  · exact hP.episode _ _ (hP.alarm_raise _ _ rfl hc)
  · exact hc

theorem closeEpisode {c : Chassis} (hc : P c) : P (c.closeEpisode x) := by
  unfold Chassis.closeEpisode
  split
  · exact hP.episode _ _ (hP.alarm_clear _ _ rfl hc)
  · exact hc

theorem shedPass {h : Hooks} (hh : h.Keep x S P) {c : Chassis} (hc : P c) : P (c.shedPass x h) := by
  have hl := hP.shedLoop hh c.pwr.budget 256 false hc
  unfold Chassis.shedPass
  dsimp only
  split
  · exact hP.openEpisode (hP.pwr _ _ ⟨rfl, rfl, rfl, rfl, rfl, rfl, fun _ he => he⟩ hl)
  · exact hl

end Chassis.Closed

/-- Hooks that keep a property closed under lowerings keep it in these as well. -/
theorem Chassis.ClosedLower.keep {x : Ctx} {S : PortId → Prop} {P : Chassis → Prop} (hP : Chassis.ClosedLower x S P)
    {h : Hooks} (he : ∀ c, P c → P (h.eval c)) (hp : ∀ c, P c → P (h.pass c)) : h.Keep x S P :=
  ⟨he, hp, fun c p g hs hg hc => he _ (hP.logins _ _ hs (hP.control _ _ _ hs (hP.lower c p g hs hg hc)))⟩

namespace Chassis.ClosedEval

variable {x : Ctx} {S : PortId → Prop} {P : Chassis → Prop} (hP : Chassis.ClosedEval x S P)
include hP

theorem offerGrant {e : WaitEntry} (hp : S e.port) {c : Chassis} (hc : P c) : P (c.offerGrant x e) := by
  unfold Chassis.offerGrant
  split
  · exact hc
  · rename_i hpaced
    dsimp only
    split
    · exact hc
    · rename_i g _
      have hl := hP.leaveWait e.port (hP.take _ _ g hp hc)
      refine hP.count _ ?_ hl
      have hpac : ((c.takeGrant x e.port g).leaveWait x e.port).pwr.pacing = c.pwr.pacing := by
        obtain ⟨a, b, w, hf⟩ := Chassis.leaveWait_frame x e.port (c.takeGrant x e.port g)
        rw [hf]
        unfold Chassis.takeGrant
        rw [Chassis.putControl_pwr]
        rfl
      unfold Pwr.paced at hpaced ⊢
      rw [hpac]
      simpa using hpaced

theorem grantPass {c : Chassis} (hc : P c) : P (c.grantPass x) := by
  refine List.foldlRecOn (motive := P) _ _ hc fun d hd e he => hP.offerGrant ?_ hd
  exact hP.of_waiting c _ hc (Chassis.onWaitList_iff.2 ⟨e, Chassis.mem_waitOrder.1 he, rfl⟩)

theorem shedOrGrant {h : Hooks} (hh : h.Keep x S P) {c : Chassis} (hc : P c) : P (c.shedOrGrant x h) := by
  unfold Chassis.shedOrGrant
  split
  · exact hP.shedPass hh hc
  · split
    · exact hP.grantPass hc
    · exact hc

theorem evaluateWith {pass : Chassis → Chassis} (hh : ∀ c, P c → P (pass c)) {c : Chassis} (hc : P c) :
    P (c.evaluateWith x pass) := by
  unfold Chassis.evaluateWith
  split
  · exact hP.judgePowerWait (hP.closeEpisode (hP.shedOrGrant (hP.keep (fun _ h => h) hh) (hP.form _ hc)))
  · exact hc

theorem evaluate {c : Chassis} (hc : P c) : P (c.evaluate x) := by
  unfold Chassis.evaluate
  exact hP.evaluateWith (fun _ => hP.bindingPass (hP.keep (fun _ h => h) fun _ => hP.markPass)) hc

theorem evaluateInPass {c : Chassis} (hc : P c) : P (c.evaluateInPass x) := by
  unfold Chassis.evaluateInPass
  exact hP.evaluateWith (fun _ => hP.markPass) hc

theorem pass {c : Chassis} (hc : P c) : P (c.pass x) := by
  unfold Chassis.pass
  exact hP.bindingPass (hP.keep (fun _ => hP.evaluateInPass) fun _ => hP.markPass) hc

theorem outer : (Machine.outer x).Keep x S P := by
  refine hP.keep (fun c hc => ?_) fun c hc => ?_
  · rw [outer_eval]; exact hP.evaluate hc
  · rw [outer_pass]; exact hP.pass hc

theorem inRebind : (Machine.inRebind x).Keep x S P := hP.keep (fun _ => hP.evaluateInPass) fun _ => hP.markPass

theorem recording : Machine.recording.Keep x S P := hP.keep (fun _ h => h) fun _ => hP.markPass

/-- R133: a change of PWR's inputs. -/
theorem handPwr (f : PwrInputs → PwrInputs) {c : Chassis}
    (hc : P (c.setPwr { c.pwr with inputs := f c.pwr.inputs })) : P (c.handPwr x f) := by
  unfold Chassis.handPwr
  exact hP.evaluate hc

end Chassis.ClosedEval

end Sys2Proof.Machine

/-! # The alarm unit, the login table and the licence table stay within their bounds -/

namespace Sys2Proof.Machine

/-! ## The alarm unit (R155, R157, R165) -/

/-- R165: the notice queue holds at most 32. -/
theorem enqueueNotice_length {n : Notice} {q : List Notice} (h : q.length ≤ 32) : (enqueueNotice n q).length ≤ 32 := by
  unfold enqueueNotice
  split
  · rename_i hlt
    have : q.length < 32 := hlt
    simp only [List.length_append, List.length_singleton]
    omega
  · split
    · rename_i hany
      have hmem : ∃ m ∈ q.reverse, (decide (m.severity.code < n.severity.code)) = true := by
        simpa using hany
      have hl := List.length_eraseP_of_mem (p := fun m => decide (m.severity.code < n.severity.code))
        hmem.choose_spec.1 hmem.choose_spec.2
      rw [List.length_reverse] at hl
      have hpos : 0 < q.length := by
        have := List.length_pos_of_mem hmem.choose_spec.1
        simpa using this
      simp only [List.length_append, List.length_reverse, List.length_singleton]
      omega
    · split
      · exact Nat.zero_le _
      · rename_i m r hr
        have := congrArg List.length hr
        simp only [List.length_reverse, List.length_cons] at this ⊢
        omega

/-- The keys of a list of entries. -/
def alarmKeys (es : List AlarmEntry) : List (AlarmKind × Nat) := es.map (fun e => (e.kind, e.subject))

namespace Alm.Ok

variable {a : Alm}

/-- A change that leaves the keys a sublist, the reserved place and the notices within bounds. -/
theorem of_sublist (h : a.Ok) {es : List AlarmEntry} {fl : Option AlarmEntry} {ns : List Notice} {d : Bool}
    (hes : (alarmKeys es).Sublist (alarmKeys a.entries))
    (hfl : ∀ e ∈ fl, e.kind = .alarmTableFull ∧ e.subject = 0) (hns : ns.length ≤ 32) :
    (⟨es, fl, d, ns⟩ : Alm).Ok := by
  obtain ⟨hlen, hnodup, -, -⟩ := h
  refine ⟨?_, hnodup.sublist hes, hfl, hns⟩
  have := hes.length_le
  simp only [alarmKeys, List.length_map] at this
  exact this.trans hlen

theorem notify (h : a.Ok) (x : Ctx) (k : NoticeKind) (n : Nat) (v : Severity) (t : Transition) :
    (a.notify x k n v t).Ok := by
  unfold Alm.notify
  split
  · exact h
  · exact ⟨h.1, h.2.1, h.2.2.1, enqueueNotice_length h.2.2.2⟩

theorem notifyEvent (h : a.Ok) (x : Ctx) (k : NoticeKind) (n : Nat) : (a.notifyEvent x k n).Ok := h.notify ..

theorem notifyAlarm (h : a.Ok) (x : Ctx) (k : AlarmKind) (n : Nat) (t : Transition) : (a.notifyAlarm x k n t).Ok :=
  h.notify ..

theorem raise (h : a.Ok) (x : Ctx) (k : AlarmKind) (n : Nat) : (a.raise x k n).Ok := by
  unfold Alm.raise
  split
  · exact h
  · rename_i hnew
    split
    · rename_i hlt
      refine notifyAlarm (a := { a with entries := a.entries ++ [AlarmEntry.new x k n] })
        ⟨?_, ?_, h.2.2.1, h.2.2.2⟩ ..
      · have : a.entries.length < 64 := hlt
        show (a.entries ++ [_]).length ≤ 64
        simp only [List.length_append, List.length_singleton]
        omega
      · show ((a.entries ++ [AlarmEntry.new x k n]).map (fun e => (e.kind, e.subject))).Nodup
        rw [List.map_append, List.map_singleton]
        refine List.nodup_append_comm.1 (List.nodup_cons.2 ⟨fun hm => hnew ?_, h.2.1⟩)
        obtain ⟨e, he, hk⟩ := List.mem_map.1 hm
        simp only [AlarmEntry.new, Prod.mk.injEq] at hk
        exact List.any_eq_true.2 ⟨e, he, by simp [AlarmEntry.hasKey, hk.1, hk.2]⟩
    · split
      · exact h
      · refine notifyAlarm (a := { a with full := some (AlarmEntry.new x .alarmTableFull 0) })
          ⟨h.1, h.2.1, fun e he => ?_, h.2.2.2⟩ ..
        cases he
        exact ⟨rfl, rfl⟩

theorem freed (h : a.Ok) (x : Ctx) : (a.freed x).Ok := by
  unfold Alm.freed
  split
  · exact notifyAlarm (a := { a with full := none }) ⟨h.1, h.2.1, nofun, h.2.2.2⟩ ..
  · exact h

theorem setState (h : a.Ok) (k : AlarmKind) (n : Nat) (st : EntryState) : (a.setState k n st).Ok := by
  refine h.of_sublist ?_ h.2.2.1 h.2.2.2
  rw [alarmKeys, List.map_map]
  refine (Eq.subst (motive := fun l => l.Sublist (alarmKeys a.entries)) (List.map_congr_left fun e _ => ?_)
    (List.Sublist.refl (alarmKeys a.entries)))
  simp only [Function.comp]
  split <;> rfl

theorem remove (h : a.Ok) (k : AlarmKind) (n : Nat) : (a.remove k n).Ok :=
  h.of_sublist (List.filter_sublist.map _) h.2.2.1 h.2.2.2

theorem clear (h : a.Ok) (x : Ctx) (k : AlarmKind) (n : Nat) : (a.clear x k n).Ok := by
  unfold Alm.clear
  split
  · exact h
  · split
    · exact h
    · split
      · exact (h.setState ..).notifyAlarm ..
      · exact ((h.remove ..).notifyAlarm ..).freed _
    · exact ((h.remove ..).notifyAlarm ..).freed _

theorem judge (h : a.Ok) (x : Ctx) (k : AlarmKind) (n : Nat) (b c : Bool) : (a.judge x k n b c).Ok := by
  unfold Alm.judge
  split
  · exact h.raise ..
  · exact h.clear ..
  · exact h

/-- R160: the dip flag has no bound. -/
theorem setDip (h : a.Ok) (d : Bool) : ({ a with dip := d } : Alm).Ok := h

theorem acknowledgeWhere (h : a.Ok) (x : Ctx) (p : AlarmEntry → Bool) : (a.acknowledgeWhere x p).Ok := by
  have hkey (e f : AlarmEntry) (he : e.acknowledge = some f) : f.kind = e.kind ∧ f.subject = e.subject := by
    unfold AlarmEntry.acknowledge at he
    split at he <;> cases he <;> exact ⟨rfl, rfl⟩
  refine freed (h.of_sublist ?_ ?_ h.2.2.2) x
  · induction a.entries with
    | nil => exact .refl _
    | cons e es ih =>
      rw [List.filterMap_cons]
      split
      · exact ih.trans (List.sublist_cons_self _ _)
      · rename_i f hf
        have hk : (f.kind, f.subject) = (e.kind, e.subject) := by
          split at hf
          · obtain ⟨h1, h2⟩ := hkey e f hf
            rw [h1, h2]
          · cases hf; rfl
        show List.Sublist ((f.kind, f.subject) :: _) ((e.kind, e.subject) :: _)
        rw [hk]
        exact ih.cons_cons _
  · intro f hf
    split at hf
    · rename_i e he
      have hfull := h.2.2.1 e he
      split at hf
      · obtain ⟨h1, h2⟩ := hkey e f hf
        rw [h1, h2]; exact hfull
      · cases hf; exact hfull
    · cases hf

theorem pulseEnd (h : a.Ok) (k : AlarmKind) (n : Nat) : (a.pulseEnd k n).Ok := by
  refine h.of_sublist ?_ ?_ h.2.2.2
  · rw [alarmKeys, List.map_map]
    refine (Eq.subst (motive := fun l => l.Sublist (alarmKeys a.entries)) (List.map_congr_left fun e _ => ?_)
    (List.Sublist.refl (alarmKeys a.entries)))
    simp only [Function.comp]
    split <;> rfl
  · intro f hf
    obtain ⟨e, he, rfl⟩ := Option.map_eq_some_iff.1 hf
    split <;> exact h.2.2.1 e he

/-- R169: the alarms that a Restart keeps. -/
theorem restart (h : a.Ok) : a.restart.Ok := by
  refine h.of_sublist ?_ nofun (Nat.zero_le _)
  rw [alarmKeys, List.map_map]
  exact List.filter_sublist.map (fun e : AlarmEntry => (e.kind, e.subject))

end Alm.Ok

theorem Alm.empty_ok : (⟨[], none, false, []⟩ : Alm).Ok := ⟨Nat.zero_le _, List.nodup_nil, nofun, Nat.zero_le _⟩

/-- R168: the alarms of a Cold Start. -/
theorem Alm.coldStart_ok (x : Ctx) (b : Bool) : (Alm.coldStart x b).Ok := by
  have h : (Alm.dipRaise x ⟨[], none, false, []⟩).Ok := (Alm.empty_ok.raise x .supplyDip 0).setDip true
  unfold Alm.coldStart
  dsimp only
  split
  · exact (h.clear x .supplyDip 0).setDip false
  · exact h

/-- R185, R131: a reset's own raises and clears. -/
theorem boot_alm_ok {st : Store} {alm : Ctx → Alm} (h : ∀ x, (alm x).Ok) (n d a b : Nat) (tr : Vector Bool 8)
    (hd : Bool) (q : List Instr) : (boot st alm n d a b tr hd q).chassis.alm.Ok := by
  have sect (x : Ctx) (k : Nat) (v : Bool) {a : Alm} (ha : a.Ok) : (Alm.judgeSection x k v a).Ok := by
    unfold Alm.judgeSection
    split
    · exact ha.clear ..
    · exact ha.raise ..
  have tray (x : Ctx) (k : TrayId) (v : Bool) {a : Alm} (ha : a.Ok) : (Alm.judgeTray x k v a).Ok := by
    unfold Alm.judgeTray
    split
    · exact ha
    · exact (ha.raise ..).clear ..
  unfold boot
  dsimp only
  exact List.foldlRecOn (motive := Alm.Ok) _ _ (sect _ _ _ (sect _ _ _ (sect _ _ _ (h _))))
    fun _ ha k _ => tray _ k _ ha

/-- R92: an hour leaves a licence's id, state and seats. -/
theorem Licence.hour_eq (l : Licence) : ∃ t, l.hour = { l with record := { l.record with term := t } } := by
  unfold Licence.hour
  split
  · split
    · exact ⟨_, rfl⟩
    · exact ⟨l.record.term, rfl⟩
  · exact ⟨l.record.term, rfl⟩

theorem Licence.hour_id (l : Licence) : l.hour.record.id = l.record.id := by
  obtain ⟨t, h⟩ := l.hour_eq
  rw [h]

theorem Licence.hour_ok (l : Licence) (hl : l.Ok) : l.hour.Ok := by
  obtain ⟨t, h⟩ := l.hour_eq
  rw [h]; exact hl

/-! ## Properties of one block of the chassis -/

/-- A property of the chassis that the moves of `Chassis.Closed` keep wherever they reach, and what else an event does
to the login table, the licences, the slots and the alarms. -/
structure ChassisKeptAt (x : Ctx) (Q : Chassis → Prop) : Prop where
  closed : Chassis.Closed x (fun _ => True) Q
  slots : ∀ (c : Chassis) v, Q c → Q { c with slots := v }
  dirty : ∀ (c : Chassis) b, Q c → Q { c with licencesDirty := b }
  alm : ∀ (c : Chassis) a, (c.alm.Ok → a.Ok) → Q c → Q { c with alm := a }
  filterLogins : ∀ (c : Chassis) f, Q c → Q { c with logins := c.logins.filter f }
  newLogin : ∀ (c : Chassis) a p, c.loginOf a = none → c.logins.length < 1024 → c.loginCount p < 16 → Q c →
    Q { c with logins := c.logins ++ [⟨a, p⟩] }
  moveLogin : ∀ (c : Chassis) a p q, c.loginOf a = some q → c.loginCount p < 16 → Q c →
    Q { c with logins := c.logins.filter (fun e => e.addr != a) ++ [⟨a, p⟩] }
  mapLicences : ∀ (c : Chassis) f, (∀ l : Licence, (f l).record.id = l.record.id) →
    (c.LicencesOk → ∀ l ∈ c.licences, (f l).Ok) → Q c → Q { c with licences := c.licences.map f }
  filterLicences : ∀ (c : Chassis) f, Q c → Q { c with licences := c.licences.filter f }
  install : ∀ (c : Chassis) r, c.licence? r.id = none → c.licences.length < 32 → r.state = .active → Q c →
    Q { c with licences := c.licences ++ [⟨r, []⟩] }

/-- One that an evaluation keeps by its parts, in every context, and that no blade and no input of PWR changes. -/
structure ChassisKept (Q : Chassis → Prop) : Prop where
  closed : ∀ x, Chassis.ClosedEval x (fun _ => True) Q
  blades : ∀ (c : Chassis) v, Q c → Q { c with blades := v }
  inputs : ∀ (c : Chassis) i, Q c → Q (c.setPwr { c.pwr with inputs := i })
  pacing : ∀ c : Chassis, Q c → Q (c.setPwr { c.pwr with pacing := none })
  slots : ∀ (c : Chassis) v, Q c → Q { c with slots := v }
  dirty : ∀ (c : Chassis) b, Q c → Q { c with licencesDirty := b }
  alm : ∀ (c : Chassis) a, (c.alm.Ok → a.Ok) → Q c → Q { c with alm := a }
  filterLogins : ∀ (c : Chassis) f, Q c → Q { c with logins := c.logins.filter f }
  newLogin : ∀ (c : Chassis) a p, c.loginOf a = none → c.logins.length < 1024 → c.loginCount p < 16 → Q c →
    Q { c with logins := c.logins ++ [⟨a, p⟩] }
  moveLogin : ∀ (c : Chassis) a p q, c.loginOf a = some q → c.loginCount p < 16 → Q c →
    Q { c with logins := c.logins.filter (fun e => e.addr != a) ++ [⟨a, p⟩] }
  mapLicences : ∀ (c : Chassis) f, (∀ l : Licence, (f l).record.id = l.record.id) →
    (c.LicencesOk → ∀ l ∈ c.licences, (f l).Ok) → Q c → Q { c with licences := c.licences.map f }
  filterLicences : ∀ (c : Chassis) f, Q c → Q { c with licences := c.licences.filter f }
  install : ∀ (c : Chassis) r, c.licence? r.id = none → c.licences.length < 32 → r.state = .active → Q c →
    Q { c with licences := c.licences ++ [⟨r, []⟩] }

theorem ChassisKept.at {Q : Chassis → Prop} (hQ : ChassisKept Q) (x : Ctx) : ChassisKeptAt x Q :=
  { hQ with closed := (hQ.closed x).toClosed }

namespace ChassisKeptAt

variable {x : Ctx} {Q : Chassis → Prop} (hQ : ChassisKeptAt x Q)
include hQ

theorem onLicence (id : Word16) {f : Licence → Licence} {c : Chassis}
    (hid : ∀ l : Licence, (f l).record.id = l.record.id)
    (hok : c.LicencesOk → ∀ l ∈ c.licences, l.record.id = id → (f l).Ok) (hc : Q c) : Q (c.onLicence id f) := by
  refine hQ.mapLicences c _ (fun l => ?_) (fun hl l hm => ?_) hc
  · split
    · exact hid l
    · rfl
  · split
    · rename_i he
      exact hok hl l hm (beq_iff_eq.1 he)
    · exact hl.2.2 l hm

variable {h : Hooks} (hh : h.Keep x (fun _ => True) Q) {c : Chassis} (hc : Q c)
include hc

theorem alarm_raise (k : AlarmKind) (n : Nat) : Q (c.raise x k n) := hQ.alm c _ (fun h => h.raise x k n) hc

theorem alarm_clear (k : AlarmKind) (n : Nat) : Q (c.clear x k n) := hQ.alm c _ (fun h => h.clear x k n) hc

include hh

theorem unseatAll (id : Word16) (st : LicState) (n : Nat) : Q (c.unseatAll x h id st n) := by
  unfold Chassis.unseatAll
  split
  · exact hc
  · refine List.foldlRecOn (motive := Q) _ _ ?_ fun _ hd p _ => hQ.closed.rebindOne hh trivial hd _ _
    exact hQ.onLicence _ (fun _ => rfl) (fun _ _ _ _ => ⟨Nat.zero_le _, fun _ => rfl⟩) hc

theorem revokeLicence (id : Word16) : Q (c.revokeLicence x h id) :=
  hQ.unseatAll hh (hQ.alarm_clear hc _ _) _ _ _

theorem expire (id : Word16) : Q (Chassis.expire x h c id) :=
  hQ.unseatAll hh (hQ.alarm_clear (hQ.alarm_raise hc _ _) _ _) _ _ _

theorem hourTick {pass : Chassis → Chassis} (hp : ∀ c, Q c → Q (pass c)) : Q (c.hourTick x h pass) := by
  have h1 := hQ.closed.graceHours hh hc
  have h2 : Q (c.graceHours x h).termHours := by
    refine hQ.dirty { c.graceHours x h with licences := (c.graceHours x h).licences.map Licence.hour } _
      (hQ.mapLicences _ _ (fun l => l.hour_id) (fun hl l hm => l.hour_ok (hl.2.2 l hm)) h1)
  have h3 : Q ((c.graceHours x h).termHours.expiries x h) :=
    List.foldlRecOn (motive := Q) _ _ h2 fun _ hd id _ => hQ.expire hh hd id
  refine List.foldlRecOn (motive := Q) _ _ (hp _ h3) fun d hd l _ => ?_
  unfold Chassis.judgeWarn
  split
  · split
    · split
      · exact hQ.alarm_raise hd _ _
      · exact hQ.alarm_clear hd _ _
    · exact hd
  · exact hd

theorem login (p : PortId) (a : Addr) : Q (c.login x h p a).1 := by
  unfold Chassis.login
  split
  · exact hc
  · split
    · rename_i q hq
      split
      · exact hc
      · split
        · exact hc
        · rename_i hcap
          exact hQ.closed.afterLoginRemoved hh trivial (hQ.moveLogin c a p q hq (Nat.lt_of_not_le hcap) hc)
    · rename_i hn
      split
      · exact hc
      · rename_i hfull
        split
        · exact hc
        · rename_i hcap
          exact hQ.newLogin c a p hn (Nat.lt_of_not_le hfull) (Nat.lt_of_not_le hcap) hc

theorem logout (p : PortId) (a : Addr) : Q (c.logout x h p a) := by
  unfold Chassis.logout
  split
  · exact hQ.closed.afterLoginRemoved hh trivial (hQ.filterLogins c _ hc)
  · exact hc

omit hh

/-- R81, with the binding pass that the revocation of an Active licence causes. -/
theorem revoked (hr : (inRebind x).Keep x (fun _ => True) Q) {l : Licence} (hl : l ∈ c.licences) : Q (c.revoked x l.record) := by
  unfold Chassis.revoked
  split
  · exact hc
  · rename_i hst
    refine hQ.dirty _ _ (hQ.alarm_clear (hQ.onLicence _
      (f := fun l => { l with record := { l.record with state := .revoked } }) (fun _ => rfl)
      (fun hok m hm hid => ?_) hc) _ _)
    have hml : m = l := List.inj_on_of_nodup_map hok.2.1 hm hl hid
    subst hml
    refine ⟨(hok.2.2 m hm).1, fun _ => (hok.2.2 m hm).2 ?_⟩
    rw [hst]; exact nofun
  · exact hQ.dirty _ _ (hQ.closed.passIfDue hr
      (hQ.revokeLicence hr hc _))

theorem removeLicence (l : LicenceRec) : Q (c.removeLicence x l) := by
  have h1 : Q { c with licences := c.licences.filter (fun m => m.record.id != l.id) } := hQ.filterLicences _ _ hc
  refine hQ.dirty _ _ ?_
  split
  · exact hQ.alarm_clear h1 _ _
  · exact h1

end ChassisKeptAt

end Sys2Proof.Machine

/-! # The edit claim, the edit commands and the commit (R54 to R71) -/

namespace Sys2Proof.Machine

/-! ## Refusals -/

/-- A served command whose block refuses leaves the state with the refusal recorded. -/
theorem leaves_of_refusal {α : Type} {c : Instr} {s : State} {pr : Proc} {cmd : Cmd} {read : List Byte → Option α}
    {a : α} {act : Proc → α → State → State × Result} {r : Result}
    (hc : exec c s = s.event (State.command cmd read act)) (h : s.Serves pr cmd read a) (hs : act pr a s = (s, r)) :
    Leaves c s (s.answer r) :=
  leaves_of_command hc h (by rw [hs])

/-- A served command whose block acts leaves the block's part with its result recorded. -/
theorem leaves_of_act {α : Type} {c : Instr} {s t : State} {pr : Proc} {cmd : Cmd} {read : List Byte → Option α}
    {a : α} {act : Proc → α → State → State × Result} {r : Result}
    (hc : exec c s = s.event (State.command cmd read act)) (h : s.Serves pr cmd read a) (hs : act pr a s = (t, r)) :
    Leaves c s (t.answer r) :=
  leaves_of_command hc h (by rw [hs])

/-! ## The claim -/

theorem Commit.inFlight_iff (c : Commit) : c.inFlight = true ↔ ∃ d, c = .validating d := by
  cases c <;> simp [Commit.inFlight]

theorem Commit.inFlight_eq_false {c : Commit} (h : ∀ d, c ≠ .validating d) : c.inFlight = false := by
  rw [Bool.eq_false_iff, Ne, c.inFlight_iff]
  exact fun ⟨d, hd⟩ => h d hd

section Claim

variable {s : State} {pr : Proc}

theorem State.editBegin_of_inFlight (h : ∃ d, s.zone.commit = .validating d) :
    s.editBegin pr = (s, plain .busy) :=
  if_pos (s.zone.commit.inFlight_iff.2 h)

theorem State.editBegin_of_owner {o : Word16} (hc : ∀ d, s.zone.commit ≠ .validating d) (ho : s.zone.owner = some o) :
    s.editBegin pr = if o = pr.origin then (s, plain .done) else (s, plain .refusedClaimed) := by
  simp [State.editBegin, Commit.inFlight_eq_false hc, ho]

theorem State.editBegin_of_free (hc : ∀ d, s.zone.commit ≠ .validating d) (ho : s.zone.owner = none) :
    s.editBegin pr =
      ({ s with zone := { s.zone with
          owner := some pr.origin
          edit := s.zone.active
          claimDue := if s.zone.commit = .armed then none else s.claimStart } },
        plain .done) := by
  simp [State.editBegin, Commit.inFlight_eq_false hc, ho]

theorem State.editAbort_of_no_claim (h : s.zone.owner ≠ some pr.origin) :
    s.editAbort pr = (s, plain .refusedNoClaim) :=
  if_pos h

theorem State.editAbort_of_inFlight (ho : s.zone.owner = some pr.origin) (h : ∃ d, s.zone.commit = .validating d) :
    s.editAbort pr = (s, plain .busy) := by
  rw [State.editAbort, if_neg (not_not.2 ho), if_pos (s.zone.commit.inFlight_iff.2 h)]

theorem State.editAbort_of_mayEdit (h : s.MayEdit pr.origin) : s.editAbort pr = (s.dropClaim, plain .done) := by
  obtain ⟨ho, hc⟩ := h
  rw [State.editAbort, if_neg (not_not.2 ho), if_neg (Bool.eq_false_iff.1 (Commit.inFlight_eq_false hc))]

theorem State.claimTimer_of_none (h : s.zone.claimDue = none) : s.claimTimer = s := by
  simp [State.claimTimer, h]

theorem State.claimTimer_of_some {due : Nat} {o : Word16} (hd : s.zone.claimDue = some due)
    (ho : s.zone.owner = some o) :
    s.claimTimer = ((s.carry due).dropClaim).notifyEvent .editExpired o.toNat := by
  simp [State.claimTimer, hd, ho]

end Claim

/-- Settles O30: each command is split by its checks in their order, the timer by whether it runs. -/
theorem editClaimTakenAndGivenUp : Obligations.EditClaimTakenAndGivenUp := by
  refine ⟨fun s pr h => ?begin, fun s pr h => ?abort, fun s due o hr hd ho => ?timer, fun s hr hd => ?noTimer⟩
  case begin =>
    refine ⟨fun hf => leaves_of_refusal rfl h (State.editBegin_of_inFlight hf), fun hc =>
      ⟨fun ho => ?_, fun o ho hne => ?_, fun ho hi => ?_, fun ho ha => ?_⟩⟩
    · exact leaves_of_refusal rfl h ((State.editBegin_of_owner hc ho).trans (if_pos rfl))
    · exact leaves_of_refusal rfl h ((State.editBegin_of_owner hc ho).trans (if_neg hne))
    · exact leaves_of_act rfl h ((State.editBegin_of_free hc ho).trans (by rw [if_neg (by simp [hi])]; rfl))
    · exact leaves_of_act rfl h ((State.editBegin_of_free hc ho).trans (by rw [if_pos ha]; rfl))
  case abort =>
    exact ⟨fun ho => leaves_of_refusal rfl h (State.editAbort_of_no_claim ho),
      fun ho hf => leaves_of_refusal rfl h (State.editAbort_of_inFlight ho hf),
      fun hm => leaves_of_act rfl h (State.editAbort_of_mayEdit hm)⟩
  case timer =>
    have ht := State.claimTimer_of_some hd ho
    exact leavesAlarms_of_event hr rfl (by rw [ht]; rfl) (fun hg => by rw [ht]; exact hg) (fun _ => by rw [ht]; rfl)
  case noTimer => exact leaves_of_event hr rfl (by rw [State.claimTimer_of_none hd])

/-! ## Default Access Set -/

/-- The part after reset with a list at its processor. -/
def State.atList (pr : Proc) : State := { State.reset with link := { State.reset.link with proc := some pr } }

/-- A list whose next command is a Default Access Set of the value 2; a Save follows it. -/
def accessTwo : Proc :=
  ⟨1#16, .administrator, 0#16, true, [], [⟨Cmd.code .defaultAccessSet, [2#8]⟩, ⟨Cmd.code .save, []⟩], false, false⟩

/-- The part that serves `accessTwo`, whose origin holds the edit claim. -/
def State.atAccessTwo : State :=
  { State.atList accessTwo with zone := { State.reset.zone with owner := some 1#16 } }

/-- The value 2 is out of the range of Default Access Set (R59), yet the model's reader gives the access `none` for
it: in the namespace `Access` the `none` of its last case names the access and not the missing value. -/
theorem ZoneSet.setAccess_two (e : ZoneSet) : e.setAccess 2 = .ok { e with access := .none } := rfl

/-- Refutes O31: a Default Access Set of the value 2, of an origin that may edit, is answered Done and the list goes
on, where the statement has it Refused-Range and the list ended. -/
theorem not_editCommandsChangeZones : ¬ Obligations.EditCommandsChangeZones := by
  intro h
  have hmay : State.atAccessTwo.MayEdit accessTwo.origin := ⟨rfl, fun d hd => by cases hd⟩
  have hserves : State.atAccessTwo.Serves accessTwo .defaultAccessSet (readNat 1) 2 :=
    ⟨[2#8], ⟨⟨by decide, rfl⟩, rfl, rfl, rfl⟩, rfl, by decide⟩
  obtain ⟨-, haccess, -⟩ := h.2 State.atAccessTwo accessTwo hmay
  obtain ⟨t, ht, hrefused⟩ := (haccess 2 hserves).2.2 le_rfl
  obtain ⟨u, hu, hdone⟩ := leaves_of_edit_ok (c := .defaultAccessSet) (g := fun v e => e.setAccess v) rfl hserves hmay
    (ZoneSet.setAccess_two State.atAccessTwo.zone.edit)
  obtain rfl : t = u := by injection ht.symm.trans hu
  have hproc := congrArg (fun b => b.proc.isSome) (hrefused.symm.trans hdone)
  exact absurd hproc (by decide)

/-! ## The commit -/

/-- Settles O33: by the claim, then by the commit state. -/
theorem zoneCommitArms : Obligations.ZoneCommitArms := by
  intro s pr h
  have hown (ho : s.zone.owner = some pr.origin) : s.zoneCommit pr = match s.zone.commit with
      | .validating _ => (s, plain .busy)
      | .armed => (s, plain .refusedDuplicate)
      | .idle => ({ s with zone := { s.zone with commit := .armed, claimDue := none } }, plain .armed) :=
    if_neg (not_not.2 ho)
  refine ⟨fun ho => leaves_of_refusal rfl h (if_pos ho), fun ho => ⟨fun d hd => ?_, fun ha => ?_, fun hi => ?_⟩⟩
  · exact leaves_of_refusal rfl h ((hown ho).trans (by rw [hd]; rfl))
  · exact leaves_of_refusal rfl h ((hown ho).trans (by rw [ha]; rfl))
  · exact leaves_of_act rfl h ((hown ho).trans (by rw [hi]; rfl))

/-- R71: the marker that stood in the verdict queue is taken out and the new one joins its tail. -/
theorem placeFlush_eq (g : Word16) (q : List VerdictItem) :
    placeFlush g q = q.filter VerdictItem.isVerdict ++ [.flush g] := by
  unfold placeFlush
  congr 2
  funext i
  cases i <;> rfl

/-- R69: the lowest empty zone of a set, by its index. -/
theorem ZoneSet.findIdx?_empty {e : ZoneSet} {i : Nat} {z : Zone} (hz : e.zones[i]? = some z) (he : z.members = [])
    (hl : ∀ j w, j < i → e.zones[j]? = some w → w.members ≠ []) :
    e.zones.findIdx? (fun z => z.members.isEmpty) = some i := by
  obtain ⟨hi, rfl⟩ := List.getElem?_eq_some_iff.1 hz
  refine List.findIdx?_eq_some_iff_getElem.2 ⟨hi, by simp [he], fun j hj => ?_⟩
  have := hl j _ hj (List.getElem?_eq_getElem (hj.trans hi))
  simpa using this

/-- R69: a full set has no empty zone to find. -/
theorem ZoneSet.Full.findIdx? {e : ZoneSet} (h : e.Full) : e.zones.findIdx? (fun z => z.members.isEmpty) = none := by
  rw [List.findIdx?_eq_none_iff]
  intro z hz
  simpa using h z hz

section Validation

variable {s : State} {due : Nat}

theorem State.validationEnd_of_empty {i : Nat} (hc : s.zone.commit = .validating due)
    (hi : s.zone.edit.zones.findIdx? (fun z => z.members.isEmpty) = some i) :
    s.validationEnd = (s.carry due).commitFails i := by
  simp [State.validationEnd, hc, hi]

theorem State.validationEnd_of_full (hc : s.zone.commit = .validating due) (hf : s.zone.edit.Full) :
    s.validationEnd = (s.carry due).swapSets := by
  simp [State.validationEnd, hc, hf.findIdx?]

theorem State.validationEnd_of_none (hc : ∀ d, s.zone.commit ≠ .validating d) : s.validationEnd = s := by
  unfold State.validationEnd
  split
  · rename_i d hd
    exact absurd hd (hc d)
  · rfl

/-- R70: the swap, where the claim has an owner. -/
theorem State.swapSets_of_owner {o : Word16} (ho : s.zone.owner = some o) :
    s.swapSets = State.notifyEvent .commitDone (s.zone.generation + 1#16).toNat (State.clear .zoneCommitFailed 0
      { s with
        zone := ⟨s.zone.edit, s.zone.edit, s.zone.generation + 1#16, none, none, .idle,
          .swapped (s.zone.generation + 1#16) o⟩
        link := { s.link with
          verdicts := s.link.verdicts.filter VerdictItem.isVerdict ++ [.flush (s.zone.generation + 1#16)] }
        store := { s.store with zonesDirty := true } }) := by
  simp only [State.swapSets, ho, Option.getD_some, placeFlush_eq]

/-- R69: the failed validation, where the claim has an owner. -/
theorem State.commitFails_of_owner {o : Word16} (ho : s.zone.owner = some o) (i : Nat) :
    s.commitFails i = State.notifyEvent .commitFailed i (State.raise .zoneCommitFailed 0
      { s with zone := { s.zone with commit := .idle, claimDue := s.claimStart, outcome := .failed i o } }) := by
  simp only [State.commitFails, ho, Option.getD_some]

end Validation

/-- Settles O34: by whether a validation runs, then by its lowest empty zone. -/
theorem validationSwapsOrFails : Obligations.ValidationSwapsOrFails := by
  refine ⟨fun s due o hr hc ho => ⟨fun i z hz he hl => ?fails, fun hf => ?swaps⟩, fun s hr hc => ?none⟩
  case fails =>
    have hv := (State.validationEnd_of_empty hc (ZoneSet.findIdx?_empty hz he hl)).trans
      (State.commitFails_of_owner (s := s.carry due) ho i)
    exact leavesAlarms_of_event hr rfl (by rw [hv]; rfl) (fun hg => by rw [hv]; exact hg) (fun _ => by rw [hv]; rfl)
  case swaps =>
    have hv := (State.validationEnd_of_full hc hf).trans (State.swapSets_of_owner (s := s.carry due) ho)
    exact leavesAlarms_of_event hr rfl (by rw [hv]; rfl) (fun hg => by rw [hv]; exact hg) (fun _ => by rw [hv]; rfl)
  case none => exact leaves_of_event hr rfl (by rw [State.validationEnd_of_none hc])

end Sys2Proof.Machine

/-! # Queries, logins, link reports and Port Enable (R8, R9, R12, R27 to R44) -/

namespace Sys2Proof.Machine

/-- R170, R173: an inbound frame that is taken leaves what it does. -/
theorem leaves_of_frame {c : Instr} {ok : Bool} {f : State → State} {s s' : State} (hr : s.Runs)
    (hc : exec c s = s.event (State.frameIn ok f)) (hup : s.link.state = .up) (hok : ok = true)
    (hf : (f s).blocks = s'.blocks) : Leaves c s s' :=
  leaves_of_event hr hc (by rw [State.frameIn_up hup hok, hf])

/-! ## The port of an address (R26) -/

section LoginOf

variable {c : Chassis} {a : Addr} {p : PortId}

/-- An address finds no port exactly where it is logged in on none. -/
theorem Chassis.loginOf_eq_none_iff : c.loginOf a = none ↔ ∀ p, ¬ c.LoggedIn a p := by
  simp only [Chassis.loginOf, Option.map_eq_none_iff, List.find?_eq_none, beq_iff_eq, Chassis.LoggedIn]
  constructor
  · exact fun h p hp => h _ hp rfl
  · rintro h ⟨b, q⟩ he rfl
    exact h q he

/-- R26: no address stands twice in the table, so an address finds the port it is logged in on. -/
theorem Chassis.LoginsOk.loginOf_eq_some_iff (h : c.LoginsOk) : c.loginOf a = some p ↔ c.LoggedIn a p := by
  obtain ⟨hnodup, -, -⟩ := h
  simp only [Chassis.loginOf, Option.map_eq_some_iff, Chassis.LoggedIn]
  constructor
  · rintro ⟨⟨b, q⟩, he, rfl⟩
    obtain rfl : b = a := beq_iff_eq.1 (List.find?_some he :)
    exact List.mem_of_find?_eq_some he
  · intro hp
    obtain ⟨e, he⟩ : ∃ e, c.logins.find? (fun e => e.addr == a) = some e :=
      Option.isSome_iff_exists.1 (List.find?_isSome.2 ⟨_, hp, beq_iff_eq.2 rfl⟩)
    refine ⟨e, he, ?_⟩
    rw [List.inj_on_of_nodup_map hnodup (List.mem_of_find?_eq_some he) hp (beq_iff_eq.1 (List.find?_some he :))]

end LoginOf

/-! ## The six steps (R37 to R43) -/

section Steps

variable {c : Chassis} {q : Query} {set : ZoneSet}

/-- R36: the settled class, by the query. -/
theorem Query.settledClass_of_fabric (h : q.Fabric) : q.settledClass = .fabricService := if_pos h

theorem Query.settledClass_of_not_fabric (h : ¬ q.Fabric) : q.settledClass = .exchange := if_neg h

/-- R37: step 1. -/
theorem Query.passesIngress_iff (q : Query) (st : PortState) :
    passesIngress q.settledClass st = true ↔ st = .online ∨ (q.Fabric ∧ st.isDraining = true) := by
  by_cases h : q.Fabric
  · simp [Query.settledClass_of_fabric h, passesIngress, h]
  · simp [Query.settledClass_of_not_fabric h, passesIngress, h]

/-- R40: step 4. -/
theorem Chassis.LoginsOk.passesDestination_iff (h : c.LoginsOk) (a : Addr) :
    c.passesDestination a = true ↔ ∀ p, c.LoggedIn a p → (c.port p).state = .online := by
  unfold Chassis.passesDestination
  cases hl : c.loginOf a with
  | none =>
    have hn := Chassis.loginOf_eq_none_iff.1 hl
    simp [hn]
  | some p =>
    have hp := h.loginOf_eq_some_iff.1 hl
    simp only [beq_iff_eq]
    refine ⟨fun ho r hr => ?_, fun ha => ha p hp⟩
    obtain rfl : p = r := by injection hl.symm.trans (h.loginOf_eq_some_iff.2 hr)
    exact ho

/-- R42: a member matches an address. -/
theorem Chassis.LoginsOk.holds_iff (h : c.LoginsOk) (a : Addr) (m : Member) : m.holds c a = true ↔ m.Matches c a := by
  cases m with
  | port p => simp [Member.holds, Member.Matches, h.loginOf_eq_some_iff]
  | range b l => simp [Member.holds, Member.Matches]

/-- R43: a zone qualifies. -/
theorem Chassis.LoginsOk.qualifies_iff (h : c.LoginsOk) (src dst : Addr) (z : Zone) :
    z.qualifies c src dst = true ↔ z.Admits c src dst := by
  simp [Zone.qualifies, Zone.Admits, h.holds_iff]

theorem judgeQuery_of_not_step1 (h : ¬ ((c.port q.ingress).state = .online ∨
    (q.Fabric ∧ (c.port q.ingress).state.isDraining = true))) : judgeQuery set c q = (.denyPort, none) :=
  if_pos (by rw [← q.passesIngress_iff] at h; simpa using h)

variable (h1 : (c.port q.ingress).state = .online ∨ (q.Fabric ∧ (c.port q.ingress).state.isDraining = true))
include h1

theorem judgeQuery_of_fabric (hf : q.Fabric) : judgeQuery set c q = (.permit, none) := by
  rw [← q.passesIngress_iff] at h1
  rw [judgeQuery, h1, Query.settledClass_of_fabric hf]
  rfl

/-- R38 to R43: past step 1 an exchange goes through the other steps in their order. -/
theorem judgeQuery_of_exchange (hf : ¬ q.Fabric) :
    judgeQuery set c q =
      if c.loginOf q.src ≠ some q.ingress then (.denySource, none)
      else if !c.passesDestination q.dst then (.denyPort, none)
      else judgeZones set c q.src q.dst := by
  rw [← q.passesIngress_iff] at h1
  rw [judgeQuery, h1, Query.settledClass_of_not_fabric hf]
  rfl

end Steps

section Zones

variable {c : Chassis} {set : ZoneSet} {src dst : Addr}

/-- R41: step 5, where the set has no zone. -/
theorem judgeZones_of_all (h : set.zones = []) (ha : set.access = .all) :
    judgeZones set c src dst = (.permit, none) := by
  simp [judgeZones, h, ha]

theorem judgeZones_of_none_access (h : set.zones = []) (ha : set.access = .none) :
    judgeZones set c src dst = (.denyZone, none) := by
  simp [judgeZones, h, ha]

/-- R43: step 6, where no zone qualifies. -/
theorem judgeZones_of_none (hc : c.LoginsOk) (hne : set.zones ≠ []) (h : ∀ y ∈ set.zones, ¬ y.Admits c src dst) :
    judgeZones set c src dst = (.denyZone, none) := by
  have hn : set.zones.findIdx? (Zone.qualifies c src dst) = none := by
    rw [List.findIdx?_eq_none_iff]
    intro y hy
    rw [Bool.eq_false_iff, Ne, hc.qualifies_iff]
    exact h y hy
  simp [judgeZones, hne, hn]

/-- R43: step 6, at the lowest index that qualifies. -/
theorem judgeZones_of_some (hc : c.LoginsOk) {i : Nat} {y : Zone} (hy : set.zones[i]? = some y)
    (ha : y.Admits c src dst) (hl : ∀ j w, j < i → set.zones[j]? = some w → ¬ w.Admits c src dst) :
    judgeZones set c src dst = (.permit, some i) := by
  obtain ⟨hi, rfl⟩ := List.getElem?_eq_some_iff.1 hy
  have hne : set.zones ≠ [] := fun h0 => by simp [h0] at hi
  have hs : set.zones.findIdx? (Zone.qualifies c src dst) = some i := by
    refine List.findIdx?_eq_some_iff_getElem.2 ⟨hi, (hc.qualifies_iff ..).2 ha, fun j hj => ?_⟩
    rw [hc.qualifies_iff]
    exact hl j _ hj (List.getElem?_eq_getElem (hj.trans hi))
  simp [judgeZones, hne, hs]

end Zones

/-- R35: the oldest query is evaluated. -/
theorem State.evaluateQuery_of_cons {s : State} {q : Query} {rest : List Query} (h : s.queries = q :: rest) :
    s.evaluateQuery = { s with
      queries := rest
      link := { s.link with verdicts := s.link.verdicts ++ [.verdict (s.verdictOf q)] } } := by
  simp [State.evaluateQuery, h]

/-- Settles O10: the verdict is that of `judgeQuery`, whose six steps are taken one after another. -/
theorem queryAnsweredBySixSteps : Obligations.QueryAnsweredBySixSteps := by
  refine ⟨fun s hr hq => leaves_of_event hr rfl (by simp [State.evaluateQuery, hq]), fun s q rest hr hc hq => ?_⟩
  have hout {o : VerdictOutcome} {z : Option Nat} (h : judgeQuery s.zone.active s.chassis q = (o, z)) :
      (judgeQuery s.zone.active s.chassis q).1 = o ∧ (judgeQuery s.zone.active s.chassis q).2 = z := by
    rw [h]; exact ⟨rfl, rfl⟩
  refine ⟨(judgeQuery s.zone.active s.chassis q).1, (judgeQuery s.zone.active s.chassis q).2, ?leaves, ?_⟩
  case leaves => exact leaves_of_event hr rfl (by rw [State.evaluateQuery_of_cons hq]; rfl)
  refine ⟨fun h1 => hout (judgeQuery_of_not_step1 h1), fun h1 hf => hout (judgeQuery_of_fabric h1 hf),
    fun h1 hf h3 => hout ?_, fun h1 hf h3 h4 => hout ?_, fun h1 hf h3 h4 hz ha => hout ?_,
    fun h1 hf h3 h4 hz ha => hout ?_, fun h1 hf h3 h4 hz hn => hout ?_,
    fun i y h1 hf h3 h4 hy ha hl => hout ?_⟩
  all_goals rw [judgeQuery_of_exchange h1 hf]
  · exact if_pos (mt hc.loginOf_eq_some_iff.1 h3)
  all_goals rw [if_neg (not_not.2 (hc.loginOf_eq_some_iff.2 h3))]
  · exact if_pos (by simpa using mt (hc.passesDestination_iff _).1 h4)
  all_goals rw [if_neg (by simp [(hc.passesDestination_iff _).2 h4])]
  · exact judgeZones_of_all hz ha
  · exact judgeZones_of_none_access hz ha
  · exact judgeZones_of_none hc hz hn
  · exact judgeZones_of_some hc hy ha hl

/-! ## Login and Logout (R27 to R30) -/

section Login

variable {x : Ctx} {h : Hooks} {p q : PortId} {a : Addr} {c : Chassis}

theorem Chassis.login_of_not_online (ho : (c.port p).state ≠ .online) : c.login x h p a = (c, .rejectedPortState) :=
  if_pos ho

theorem Chassis.login_of_same (ho : (c.port p).state = .online) (hl : c.loginOf a = some p) :
    c.login x h p a = (c, .accepted) := by
  simp [Chassis.login, ho, hl]

theorem Chassis.login_of_other (ho : (c.port p).state = .online) (hne : q ≠ p) (hl : c.loginOf a = some q) :
    c.login x h p a =
      if 16 ≤ c.loginCount p then (c, .rejectedPortLimit)
      else (Chassis.afterLoginRemoved x h q { c with logins := c.logins.filter (fun e => e.addr != a) ++ [⟨a, p⟩] },
        .accepted) := by
  rw [Chassis.login, if_neg (not_not.2 ho), hl]
  exact if_neg hne

theorem Chassis.login_of_new (ho : (c.port p).state = .online) (hl : c.loginOf a = none) :
    c.login x h p a =
      if 1024 ≤ c.logins.length then (c, .rejectedFull)
      else if 16 ≤ c.loginCount p then (c, .rejectedPortLimit)
      else ({ c with logins := c.logins ++ [⟨a, p⟩] }, .accepted) := by
  rw [Chassis.login, if_neg (not_not.2 ho), hl]
  rfl

end Login

/-- R27, R29: a Login leaves its change of the table and its answer. -/
theorem leaves_login {s : State} {p : PortId} {a : Addr} {c : Chassis} {r : LoginResult} (hr : s.Runs)
    (hup : s.link.state = .up) (hl : s.chassis.login s.ctx (outer s.ctx) p a = (c, r)) :
    Leaves (.login p a) s (State.addAnswer (.login p a r) { s with chassis := c }) :=
  leaves_of_frame hr rfl hup rfl (by simp only [State.login, hl])

/-- Settles O11: the Login by the port state, the port of the address, and the room; the Logout by the port of the
address. -/
theorem loginAndLogoutChangeTable : Obligations.LoginAndLogoutChangeTable := by
  intro s p a hr hup hc c online others
  have hof {q : PortId} (hq : c.LoggedIn a q) : c.loginOf a = some q := hc.loginOf_eq_some_iff.2 hq
  refine ⟨fun ho => leaves_login hr hup (Chassis.login_of_not_online ho),
    fun ho hp => leaves_login hr hup (Chassis.login_of_same ho (hof hp)),
    fun ho q hne hq hfull => leaves_login hr hup ((Chassis.login_of_other ho hne (hof hq)).trans (if_pos hfull)),
    fun ho q hne hq hroom =>
      leaves_login hr hup ((Chassis.login_of_other ho hne (hof hq)).trans (if_neg (Nat.not_le.2 hroom))),
    fun ho hn hfull => ?full, fun ho hn hroom hport => ?portFull, fun ho hn hroom hport => ?added,
    fun hp => ?out, fun hp => ?noOut⟩
  case full =>
    exact leaves_login hr hup ((Chassis.login_of_new ho (Chassis.loginOf_eq_none_iff.2 hn)).trans (if_pos hfull))
  case portFull =>
    exact leaves_login hr hup ((Chassis.login_of_new ho (Chassis.loginOf_eq_none_iff.2 hn)).trans
      (by rw [if_neg (Nat.not_le.2 hroom), if_pos hport]))
  case added =>
    exact leaves_login hr hup ((Chassis.login_of_new ho (Chassis.loginOf_eq_none_iff.2 hn)).trans
      (by rw [if_neg (Nat.not_le.2 hroom), if_neg (Nat.not_le.2 hport)]))
  case out =>
    exact leaves_of_frame hr rfl hup rfl (by rw [State.onChassis, Chassis.logout, if_pos (hof hp)]; rfl)
  case noOut =>
    exact leaves_of_frame hr rfl hup rfl (by
      rw [State.onChassis, Chassis.logout, if_neg (fun hl => hp (hc.loginOf_eq_some_iff.1 hl))])

/-! ## Link Up and Link Down (R8, R9) -/

/-- A class byte within its range reads as its rate class. -/
theorem RateClass.ofNum?_num (k : RateClass) : RateClass.ofNum? k.num = some k := by cases k <;> rfl

/-- Settles O12: each report by the state of its port. -/
theorem linkUpAndDownMovePort : Obligations.LinkUpAndDownMovePort := by
  refine ⟨fun s p cls k hr hup hk => ?up, fun s p hr hup => ?down⟩
  case up =>
    intro r
    have hwf : Instr.wf (.linkUp p cls) = true := by
      simp only [Instr.wf, hk]
      cases k <;> rfl
    refine leaves_of_frame hr rfl hup hwf ?_
    rw [State.onChassis, hk, RateClass.ofNum?_num]
    simp only [Chassis.linkUp]
    cases hst : (s.chassis.port p).state <;> simp only [r] <;> rfl
  case down =>
    intro r
    refine leaves_of_frame hr rfl hup rfl ?_
    rw [State.onChassis]
    simp only [Chassis.linkDown]
    cases hst : (s.chassis.port p).state <;> simp only [r]

/-! ## Port Enable (R12) -/

/-- Settles O26: by the state of the port. -/
theorem portEnableRaisesPort : Obligations.PortEnableRaisesPort := by
  intro s pr p h r e
  have hacts {c : Chassis} (hc : s.chassis.enablePort e.ctx (outer e.ctx) p = c) :
      Leaves .portEnable s (State.answer ⟨.done, []⟩ { e with chassis := c }) :=
    leaves_of_act rfl h (by rw [← hc]; rfl)
  have heq : s.chassis.enablePort e.ctx (outer e.ctx) p = match r.state with
      | .disabled => s.chassis.seatRequest e.ctx (outer e.ctx) p
      | .draining .disabled due =>
        if r.binding = .drainHold then s.chassis.setPort p { r with state := .draining .unseated due }
        else s.chassis.setPort p { r with state := .online }
      | _ => s.chassis := rfl
  cases hst : r.state with
  | disabled => exact hacts (heq.trans (by rw [hst]))
  | draining t due =>
    rw [hst] at heq
    cases t with
    | disabled =>
      refine hacts (heq.trans ?_)
      by_cases hb : r.binding = .drainHold
      · simp only [if_pos hb]; rfl
      · simp only [if_neg hb]; rfl
    | unseated => exact hacts heq
  | absent | unseated | powerWait | linkWait | online | shed | fault => exact hacts (heq.trans (by rw [hst]))

end Sys2Proof.Machine

/-! # The Core Link's states, requests and the request processor (R170 to R181, R67) -/

namespace Sys2Proof.Machine

/-! ## Link states (R170, R172) -/

/-- While a frame is being sent the end of an event leaves it. -/
theorem State.settle_frame_of_some {s : State} {f : OutFrame} (h : s.link.frame = some f) :
    s.settle.link.frame = some f := by
  obtain ⟨ns, b, he⟩ := (s.onChassis Chassis.judgeGrace).endStartUp_frame
  obtain ⟨l, z, c, w, hw⟩ := (s.onChassis Chassis.judgeGrace).endStartUp.runWriter_frame
  have hf : (s.onChassis Chassis.judgeGrace).endStartUp.runWriter.link.frame = some f := by
    rw [hw, he]; exact h
  rw [State.settle, State.driveLines_link, State.arbitrate, if_neg (by rw [hf]; simp)]
  exact hf

/-- Settles O18: each event by the link state. -/
theorem linkTrainsAndStartsResync : Obligations.LinkTrainsAndStartsResync := by
  intro s hr
  refine ⟨fun h => leaves_of_event hr rfl (by rw [State.activity, if_pos h]),
    fun h => leaves_of_event hr rfl (by rw [State.activity, if_neg h]), fun h => ?up,
    fun h => leaves_of_event hr rfl (by rw [State.enterUp, if_neg h]),
    fun h => leaves_of_event hr rfl (by simp only [State.lossOfSync, h]),
    fun h => leaves_of_event hr rfl (by simp only [State.lossOfSync, h])⟩
  case up =>
    have hup : s.enterUp = State.startFrame (.permitFlush s.zone.generation)
        { s with link := { s.link with
            state := .up, queryCredits := 64, requestCredits := 8, resync := some 0 } } := if_pos h
    refine ⟨s.enterUp.settle, State.event_of_runs hr _, State.settle_frame_of_some (by rw [hup]; rfl), ?_⟩
    rw [State.settle_blocks, hup]
    rfl

/-! ## Requests (R175, R178) -/

/-- R178: a processor that holds a request takes none. -/
theorem State.takeRequest_of_some {s : State} {pr : Proc} (h : s.link.proc = some pr) : s.takeRequest = s := by
  simp [State.takeRequest, h]

/-- R178: a processor that holds none takes the oldest Waiting request. -/
theorem State.takeRequest_of_none {s : State} (h : s.link.proc = none) :
    s.takeRequest = { s with link := { s.link with
      proc := s.link.waiting.head?.map Request.taken, waiting := s.link.waiting.tail } } := by
  cases hw : s.link.waiting with
  | nil =>
    have hs : s.takeRequest = s := by simp [State.takeRequest, h, hw]
    have hlink : { s.link with proc := none, waiting := [] } = s.link := by rw [← h, ← hw]
    show _ = { s with link := { s.link with proc := none, waiting := [] } }
    rw [hs, hlink]
  | cons r rest => simp [State.takeRequest, h, hw, Request.taken]

section RequestArrives

variable {s : State} {r : Request}

theorem State.requestArrives_of_credit (h : 0 < s.link.requestCredits) :
    s.requestArrives r = State.takeRequest
      { s with link := { s.link with
          requestCredits := s.link.requestCredits - 1
          waiting := s.link.waiting ++ [r] } } :=
  if_pos h

theorem State.requestArrives_of_none (h : s.link.requestCredits = 0) :
    s.requestArrives r = if s.link.overload.isNone then
      { s with link := { s.link with overload := some (s.busyReply r.origin r.number r.cmds.length) } }
    else s :=
  if_neg (Nat.not_lt.mpr h.le)

end RequestArrives

/-- A privilege byte that names a privilege is in its range. -/
theorem Privilege.toNat_le_of_ofByte? {b : Byte} {v : Privilege} (h : Privilege.ofByte? b = some v) :
    b.toNat ≤ 2 := by
  unfold Privilege.ofByte? at h
  split at h <;> simp_all

/-- Settles O17: by the credits, then by the processor or the overload reply. -/
theorem requestQueuedOrAnsweredBusy : Obligations.RequestQueuedOrAnsweredBusy := by
  intro s o b v n cs hr hup ho hv h1 h16 hps c r busy
  have hwf : Instr.wf c = true := by
    have ho' : o.toNat ≠ 0 := fun h => ho (BitVec.eq_of_toNat_eq h)
    have hall : cs.all CmdEntry.wf = true := List.all_eq_true.2 fun e he => by simpa [CmdEntry.wf] using hps e he
    simp [c, Instr.wf, ho', Privilege.toNat_le_of_ofByte? hv, h1, h16, hall]
  have leaves {t : State} (ht : s.requestArrives r = t) : Leaves c s t :=
    leaves_of_frame hr rfl hup hwf (by rw [hv]; exact congrArg State.blocks ht)
  refine ⟨fun hc hp hw => leaves ?free, fun hc hp => leaves ?held, fun hc hn => leaves ?busy, fun hc hsome => leaves ?drop⟩
  case free =>
    rw [State.requestArrives_of_credit hc, State.takeRequest_of_none (by exact hp)]
    simp [hw]
  case held =>
    obtain ⟨pr, hpr⟩ := Option.isSome_iff_exists.1 hp
    rw [State.requestArrives_of_credit hc, State.takeRequest_of_some (by exact hpr)]
  case busy =>
    rw [State.requestArrives_of_none hc, if_pos (Option.isNone_iff_eq_none.2 hn)]
    rfl
  case drop =>
    rw [State.requestArrives_of_none hc, if_neg (by simpa using Option.isSome_iff_ne_none.1 hsome)]

/-! ## The checks (R179) -/

section Checks

variable {α : Type} {s : State} {pr : Proc} {e : CmdEntry} {cmd : Cmd} {read : List Byte → Option α}

/-- What the checks of R179 find for the processor's next command. -/
theorem State.Next.check (h : s.Next pr e) :
    s.check cmd read =
      if e.code = cmd.code then
        match read e.params with
        | none => .refused .refusedRange
        | some a => if pr.privilege.rank < cmd.privilege.rank then .refused .refusedPrivilege else .go pr a
      else .notNext := by
  obtain ⟨-, hp, hh, hl⟩ := h
  obtain ⟨es, he⟩ : ∃ es, pr.left = e :: es := by
    cases hpl : pr.left with
    | nil => simp [hpl] at hl
    | cons d es =>
      obtain rfl : d = e := by simpa [hpl] using hl
      exact ⟨es, rfl⟩
  simp only [State.check, hp, hh, he, Cmd.ofCode?_eq_some]
  rfl

/-- Where the processor has no next command, no row is it (log entry 1). -/
theorem State.check_of_idle
    (h : s.link.proc = none ∨ ∃ pr, s.link.proc = some pr ∧ (pr.holding = true ∨ pr.left = [])) :
    s.check cmd read = .notNext := by
  rcases h with h | ⟨pr, hp, hh | hl⟩
  · simp [State.check, h]
  · simp [State.check, hp, hh]
  · simp [State.check, hp, hl]

end Checks

/-- The effect of a command's row goes through the checks of R179 with a reader of the command's form. -/
def Cmd.Checked (cmd : Cmd) (f : State → State) : Prop :=
  ∃ (α : Type) (read : List Byte → Option α), (∀ bs, cmd.formOk bs = (read bs).isSome) ∧
    ∀ s : State, (s.check cmd read = .notNext → f s = s) ∧
      ∀ st, s.check cmd read = .refused st → f s = s.answer ⟨st, []⟩

theorem State.command_checked {α : Type} {cmd : Cmd} {read : List Byte → Option α}
    (act : Proc → α → State → State × Result) (h : ∀ bs, cmd.formOk bs = (read bs).isSome) :
    cmd.Checked (State.command cmd read act) := by
  refine ⟨α, read, h, fun s => ⟨fun hc => ?_, fun st hc => ?_⟩⟩
  · simp only [State.command, hc]
  · simp only [State.command, hc]

/-- R179: every command's row goes through the checks. -/
theorem Cmd.effect_checked (cmd : Cmd) : cmd.Checked cmd.effect := by
  cases cmd
  case readNow =>
    refine ⟨Nat, readNat 1, fun _ => rfl, fun s => ⟨fun hc => ?_, fun st hc => ?_⟩⟩
    · show s.readNow = s
      simp only [State.readNow, hc]
    · show s.readNow = s.answer (plain st)
      simp only [State.readNow, hc]
  all_goals exact State.command_checked _ fun _ => rfl

section UnknownCode

variable {s : State} {pr : Proc} {e : CmdEntry}

theorem State.Next.unknownCode (h : s.Next pr e) :
    s.unknownCode = if (Cmd.ofCode? e.code).isNone then s.answer (plain .refusedUnknown) else s := by
  obtain ⟨-, hp, hh, hl⟩ := h
  obtain ⟨es, he⟩ : ∃ es, pr.left = e :: es := by
    cases hpl : pr.left with
    | nil => simp [hpl] at hl
    | cons d es =>
      obtain rfl : d = e := by simpa [hpl] using hl
      exact ⟨es, rfl⟩
  simp [State.unknownCode, hp, hh, he]

theorem State.unknownCode_of_idle
    (h : s.link.proc = none ∨ ∃ pr, s.link.proc = some pr ∧ (pr.holding = true ∨ pr.left = [])) :
    s.unknownCode = s := by
  rcases h with h | ⟨pr, hp, hh | hl⟩
  · simp [State.unknownCode, h]
  · unfold State.unknownCode
    rw [hp]
    dsimp only
    split
    · rfl
    · simp [hh]
  · simp [State.unknownCode, hp, hl]

end UnknownCode

/-- Settles O22: the checks of a row's effect, by what they find for the processor's next command. -/
theorem checksRefuseCommand : Obligations.ChecksRefuseCommand := by
  refine ⟨fun s pr e h => ⟨fun hn => ?unknown, fun hn => ?known, fun cmd => ?checks⟩, fun s hr h => ⟨?idleCode, fun cmd => ?idle⟩⟩
  case unknown => exact leaves_of_event h.1 rfl (by rw [h.unknownCode, if_pos (by simp [hn])]; rfl)
  case known => exact leaves_of_event h.1 rfl (by rw [h.unknownCode, if_neg (by simpa using Option.isSome_iff_ne_none.1 hn)])
  case checks =>
    obtain ⟨α, read, hform, hs⟩ := cmd.effect_checked
    have hcheck := h.check (cmd := cmd) (read := read)
    refine ⟨fun hc hf => ?_, fun hc hf hk => ?_, fun hc => ?_⟩
    · have hn : read e.params = none := by simpa [hform] using hf
      rw [if_pos hc, hn] at hcheck
      exact leaves_of_event h.1 (exec_row cmd s) (by rw [(hs s).2 _ hcheck])
    · obtain ⟨a, ha⟩ := Option.isSome_iff_exists.1 ((hform _).symm.trans hf)
      rw [if_pos hc, ha] at hcheck
      exact leaves_of_event h.1 (exec_row cmd s) (by rw [(hs s).2 _ (hcheck.trans (if_pos hk))])
    · rw [if_neg hc] at hcheck
      exact leaves_of_event h.1 (exec_row cmd s) (by rw [(hs s).1 hcheck])
  case idleCode => exact leaves_of_event hr rfl (by rw [State.unknownCode_of_idle h])
  case idle =>
    obtain ⟨α, read, -, hs⟩ := cmd.effect_checked
    exact leaves_of_event hr (exec_row cmd s) (by rw [(hs s).1 (State.check_of_idle h)])

/-! ## The end of a list (R178, R180, R181, R67) -/

section EndOfList

variable {s : State} {pr : Proc} {r : Result}

/-- R180: a result that does not go on, or the last, ends the list; what was not reached is Skipped. -/
theorem State.answer_endList (hp : s.link.proc = some pr) (h : r.status.goesOn = false ∨ ¬ pr.goesOn) :
    s.answer r = s.endList { pr with results := pr.results ++ r :: pr.unreached, left := [], holding := false } := by
  have hskip : pr.left.tail.map (fun _ => (⟨.skipped, []⟩ : Result)) = pr.unreached := by
    simp [Proc.unreached, plain, List.map_const']
  have hc : (r.status.goesOn && !pr.left.tail.isEmpty) = false := by
    rcases h with h | h
    · simp [h]
    · have : pr.left.tail = [] := List.eq_nil_of_length_eq_zero (by simp [Proc.goesOn] at h ⊢; omega)
      simp [this]
  simp only [State.answer, hp, hc, hskip]
  rfl

/-- R181: a live list's response joins the response queue. -/
theorem State.respond_of_live (h : pr.live = true) :
    s.respond pr = { s with link := { s.link with
      responses := s.link.responses ++ [⟨pr.origin, pr.number, s.cfg.mgmtAddr, pr.results, pr.restart⟩]
      proc := s.link.waiting.head?.map Request.taken, waiting := s.link.waiting.tail } } := by
  rw [State.respond, if_pos h, State.takeRequest_of_none rfl]

/-- R181: a response that is dropped, where no Restart waited on it. -/
theorem State.respond_of_dropped (h : pr.live = false) (hr : pr.restart = false) :
    s.respond pr = { s with link := { s.link with
      proc := s.link.waiting.head?.map Request.taken, waiting := s.link.waiting.tail } } := by
  rw [State.respond, if_neg (by simp [h]), if_neg (by simp [hr]), State.takeRequest_of_none rfl]

/-- R181: a response that is dropped, where a Restart waited on it. -/
theorem State.respond_of_restart (h : pr.live = false) (hr : pr.restart = true) :
    s.respond pr = s.restartBy .command := by
  rw [State.respond, if_neg (by simp [h]), if_pos hr]

/-- R181: a list without an armed commit ends with its response. -/
theorem State.endList_of_not_armed (h : ∀ e ∈ pr.results, e.status ≠ .armed) : s.endList pr = s.respond pr := by
  rw [State.endList, if_neg]
  simpa using h

/-- R67: a list with an armed commit ends with the decision on it. -/
theorem State.endList_of_armed (h : ∃ e ∈ pr.results, e.status = .armed) :
    s.endList pr = State.respond { pr with results := pr.results.map (Result.finish (s.decideCommit pr).2) }
      (s.decideCommit pr).1 := by
  rw [State.endList, if_pos]
  simpa using h

end EndOfList

/-- Settles O23: by whether the list goes on, then by whether its response is still wanted. -/
theorem resultRecordedOrListEnds : Obligations.ResultRecordedOrListEnds := by
  intro s pr r hp hl all next rest
  refine ⟨fun hr hg => State.answer_goesOn hp hr hg, fun hend harmed => ?_⟩
  have hans := (State.answer_endList hp hend).trans (State.endList_of_not_armed harmed)
  exact ⟨fun hlive => hans.trans (State.respond_of_live hlive),
    fun hlive hres => hans.trans (State.respond_of_dropped hlive hres),
    fun hlive hres => hans.trans (State.respond_of_restart hlive hres)⟩

section Decide

variable {s : State} {pr : Proc}

/-- R67, R68: a commit that starts. -/
theorem State.decideCommit_of_starts (h : ∀ e ∈ pr.results, e.status = .done ∨ e.status = .armed)
    (ho : s.zone.owner = some pr.origin) :
    s.decideCommit pr =
      ({ s with zone := { s.zone with commit := .validating (s.clockMs + 2 + (s.zone.edit.total + 63) / 64) } },
        .started) := by
  have hall : pr.results.all (fun r => r.status == .done || r.status == .armed) = true :=
    List.all_eq_true.2 fun e he => by simpa using h e he
  simp [State.decideCommit, hall, ho, ZoneSet.total]

/-- R67: a commit that another command's status stops, of an origin that holds the claim. -/
theorem State.decideCommit_of_stopped (h : ∃ e ∈ pr.results, e.status ≠ .done ∧ e.status ≠ .armed)
    (ho : s.zone.owner = some pr.origin) :
    s.decideCommit pr =
      ({ s with zone := { s.zone with
          commit := .idle, claimDue := some (s.clockMs + s.cfg.claimIdle * 1000) } }, .skipped) := by
  have hall : pr.results.all (fun r => r.status == .done || r.status == .armed) = false := by
    simpa using h
  simp [State.decideCommit, hall, ho]

/-- R67: a commit whose origin does not hold the claim. -/
theorem State.decideCommit_of_no_claim (ho : s.zone.owner ≠ some pr.origin) :
    s.decideCommit pr = ({ s with zone := { s.zone with commit := .idle } }, .skipped) := by
  simp [State.decideCommit, ho]

end Decide

/-- Settles O24: the decision by the results and the claim, the response by whether it is still wanted. -/
theorem listEndDecidesArmedCommit : Obligations.ListEndDecidesArmedCommit := by
  intro s pr r hp hl hend all decided ended holds harmed
  let pe : Proc := { pr with results := all, left := [], holding := false }
  have hans := (State.answer_endList hp hend).trans (State.endList_of_armed (pr := pe) harmed)
  have hends {z : ZoneUnit} {st : Status} (hd : s.decideCommit pe = ({ s with zone := z }, st))
      (hw : pr.live = true ∨ pr.restart = false) : s.answer r = ended z st := by
    rw [hans, hd]
    by_cases hlive : pr.live = true
    · rw [State.respond_of_live (by exact hlive)]
      simp only [ended, if_pos hlive]
      rfl
    · have hres : pr.restart = false := hw.resolve_left hlive
      rw [State.respond_of_dropped (by simpa using hlive) (by exact hres)]
      simp only [ended, if_neg hlive, List.append_nil]
  refine ⟨fun hlive hres => ?restarts, fun hw => ⟨fun hall ho => ?starts, fun hbad ho => ?stopped, fun ho => ?noClaim⟩⟩
  case restarts =>
    rw [hans, State.respond_of_restart (by exact hlive) (by exact hres)]
    by_cases hc : (pe.results.all (fun r => r.status == .done || r.status == .armed) &&
      s.zone.owner == some pe.origin) = true
    · rw [State.decideCommit, if_pos hc]; rfl
    · rw [State.decideCommit, if_neg hc]; rfl
  case starts =>
    exact ⟨(s.zone.edit.total + 63) / 64, by omega, by omega,
      hends (State.decideCommit_of_starts (pr := pe) hall ho) hw⟩
  case stopped => exact hends (State.decideCommit_of_stopped (pr := pe) hbad ho) hw
  case noClaim => exact hends (State.decideCommit_of_no_claim (pr := pe) ho) hw

end Sys2Proof.Machine

/-! # The store's writer, the standby monitor and the alarm unit (R156 to R165, R187 to R191) -/

namespace Sys2Proof.Machine

/-! ## The writer at an event's end (R187) -/

/-- Before the writer goes on, an event's end has changed nothing that the writer reads. -/
theorem State.settle_writes (s : State) : ∃ u : State,
    (u.store.writer = s.store.writer ∧ u.chassis.alm.dip = s.chassis.alm.dip) ∧
    (u.chassis.licencesDirty = s.chassis.licencesDirty ∧ u.store.zonesDirty = s.store.zonesDirty ∧
      u.store.settingsDirty = s.store.settingsDirty) ∧
    (u.licenceImage = s.licenceImage ∧ u.zoneImage = s.zoneImage ∧ u.cfg = s.cfg) ∧
    s.settle.store = u.runWriter.store ∧ s.settle.chassis.licencesDirty = u.runWriter.chassis.licencesDirty := by
  obtain ⟨ns, b, h2⟩ := (s.onChassis Chassis.judgeGrace).endStartUp_frame
  obtain ⟨qc, rc, vs, as, rs, ov, f, sl, ms, h4⟩ :=
    (s.onChassis Chassis.judgeGrace).endStartUp.runWriter.arbitrate_frame
  refine ⟨(s.onChassis Chassis.judgeGrace).endStartUp, ?_, ?_, ?_, ?_, ?_⟩
  · rw [h2]; exact ⟨rfl, Alm.judge_dip ..⟩
  · rw [h2]; exact ⟨rfl, rfl, rfl⟩
  · rw [h2]; exact ⟨rfl, rfl, rfl⟩
  · rw [State.settle, State.driveLines_store, h4]
  · rw [State.settle, State.driveLines_chassis, h4]

/-- What the marks are, said together. -/
def State.Marks (s : State) (l z c : Bool) : Prop :=
  s.chassis.licencesDirty = l ∧ s.store.zonesDirty = z ∧ s.store.settingsDirty = c

/-- R187: a write under way goes on, and the marks stay for the next one. -/
theorem State.settle_of_writing {s : State} {i : SectionImage} (h : s.store.writer = .writing i) :
    s.settle.store.writer = .writing i ∧
      s.settle.Marks s.chassis.licencesDirty s.store.zonesDirty s.store.settingsDirty := by
  obtain ⟨u, ⟨hw, -⟩, ⟨hl, hz, hc⟩, -, hs, hd⟩ := s.settle_writes
  have hu : u.runWriter = u := by simp [State.runWriter, hw, h]
  rw [hu] at hs hd
  exact ⟨by rw [hs, hw, h], by rw [hd, hl], by rw [hs, hz], by rw [hs, hc]⟩

section IdleWriter

variable {s : State} (h : s.store.writer = .idle)
include h

/-- R187: while the dip flag is set an Idle writer with a mark becomes Held. -/
theorem State.settle_of_idle_dip (hdip : s.chassis.alm.dip = true) :
    s.settle.store.writer = (if s.marked then .held else .idle) ∧
      s.settle.Marks s.chassis.licencesDirty s.store.zonesDirty s.store.settingsDirty := by
  obtain ⟨u, ⟨hw, hdu⟩, ⟨hl, hz, hc⟩, -, hs, hd⟩ := s.settle_writes
  have hm : u.marked = s.marked := by rw [State.marked, hl, hz, hc]; rfl
  have hu : u.runWriter = if s.marked then { u with store := { u.store with writer := .held } } else u := by
    simp [State.runWriter, hw, h, hdu, hdip, hm]
  rw [hu] at hs hd
  by_cases hmk : s.marked
  · rw [if_pos hmk] at hs hd ⊢
    exact ⟨by rw [hs], by rw [hd, hl], by rw [hs]; exact hz, by rw [hs]; exact hc⟩
  · rw [if_neg hmk] at hs hd ⊢
    exact ⟨by rw [hs, hw, h], by rw [hd, hl], by rw [hs, hz], by rw [hs, hc]⟩

/-- R187: with the dip flag clear an Idle writer with a mark starts a write. -/
theorem State.settle_of_idle_begins (hdip : s.chassis.alm.dip = false) (hm : s.marked = true) : ∃ u : State,
    (u.chassis.licencesDirty = s.chassis.licencesDirty ∧ u.store.zonesDirty = s.store.zonesDirty ∧
      u.store.settingsDirty = s.store.settingsDirty) ∧
    (u.licenceImage = s.licenceImage ∧ u.zoneImage = s.zoneImage ∧ u.cfg = s.cfg) ∧
    s.settle.store = u.beginWrite.store ∧ s.settle.chassis.licencesDirty = u.beginWrite.chassis.licencesDirty := by
  obtain ⟨u, ⟨hw, hdu⟩, ⟨hl, hz, hc⟩, hi, hs, hd⟩ := s.settle_writes
  have hmu : u.marked = true := by rw [State.marked, hl, hz, hc]; exact hm
  have hu : u.runWriter = u.beginWrite := by simp [State.runWriter, hw, h, hdu, hdip, hmu]
  exact ⟨u, ⟨hl, hz, hc⟩, hi, by rw [hs, hu], by rw [hd, hu]⟩

theorem State.settle_of_idle_licences (hdip : s.chassis.alm.dip = false) (hl : s.chassis.licencesDirty = true) :
    s.settle.store.writer = .writing (.licences s.licenceImage) ∧
      s.settle.Marks false s.store.zonesDirty s.store.settingsDirty := by
  obtain ⟨u, ⟨hul, huz, huc⟩, ⟨hi, -, -⟩, hs, hd⟩ := State.settle_of_idle_begins h hdip (by simp [State.marked, hl])
  have hb : u.beginWrite = { u with
      chassis := { u.chassis with licencesDirty := false }
      store := { u.store with writer := .writing (.licences u.licenceImage) } } := if_pos (hul.trans hl)
  rw [hb] at hs hd
  exact ⟨by rw [hs, hi], hd, by rw [hs]; exact huz, by rw [hs]; exact huc⟩

theorem State.settle_of_idle_zones (hdip : s.chassis.alm.dip = false) (hl : s.chassis.licencesDirty = false)
    (hz : s.store.zonesDirty = true) :
    s.settle.store.writer = .writing (.zones s.zoneImage) ∧
      s.settle.Marks s.chassis.licencesDirty false s.store.settingsDirty := by
  obtain ⟨u, ⟨hul, huz, huc⟩, ⟨-, hi, -⟩, hs, hd⟩ := State.settle_of_idle_begins h hdip (by simp [State.marked, hz])
  have hb : u.beginWrite = { u with
      store := { u.store with zonesDirty := false, writer := .writing (.zones u.zoneImage) } } := by
    rw [State.beginWrite, if_neg (by simp [hul, hl]), if_pos (huz.trans hz)]
  rw [hb] at hs hd
  exact ⟨by rw [hs, hi], hd.trans hul, by rw [hs], by rw [hs]; exact huc⟩

theorem State.settle_of_idle_settings (hdip : s.chassis.alm.dip = false) (hl : s.chassis.licencesDirty = false)
    (hz : s.store.zonesDirty = false) (hc : s.store.settingsDirty = true) :
    s.settle.store.writer = .writing (.settings s.cfg) ∧
      s.settle.Marks s.chassis.licencesDirty s.store.zonesDirty false := by
  obtain ⟨u, ⟨hul, huz, huc⟩, ⟨-, -, hi⟩, hs, hd⟩ := State.settle_of_idle_begins h hdip (by simp [State.marked, hc])
  have hb : u.beginWrite = { u with
      store := { u.store with settingsDirty := false, writer := .writing (.settings u.cfg) } } := by
    rw [State.beginWrite, if_neg (by simp [hul, hl]), if_neg (by simp [huz, hz])]
  rw [hb] at hs hd
  exact ⟨by rw [hs, hi], hd.trans hul, by rw [hs]; exact huz, by rw [hs]⟩

theorem State.settle_of_idle_unmarked (hm : s.marked = false) :
    s.settle.store.writer = .idle ∧
      s.settle.Marks s.chassis.licencesDirty s.store.zonesDirty s.store.settingsDirty := by
  obtain ⟨u, ⟨hw, -⟩, ⟨hl, hz, hc⟩, -, hs, hd⟩ := s.settle_writes
  have hmu : u.marked = false := by rw [State.marked, hl, hz, hc]; exact hm
  have hu : u.runWriter = u := by simp [State.runWriter, hw, h, hmu]
  rw [hu] at hs hd
  exact ⟨by rw [hs, hw, h], by rw [hd, hl], by rw [hs, hz], by rw [hs, hc]⟩

end IdleWriter

/-! ## Save, Restart and the completion of a write (R187, R189, R191) -/

/-- R181: an answer to a list whose response is still wanted changes the commit, the claim timer and the link. -/
theorem State.answer_of_live {s : State} {pr : Proc} (hp : s.link.proc = some pr) (hlive : pr.live = true)
    (r : Result) : ∃ z l, s.answer r = { s with zone := z, link := l } := by
  by_cases hend : r.status.goesOn = false ∨ ¬ pr.goesOn
  · rw [State.answer_endList hp hend]
    let pe : Proc := { pr with results := pr.results ++ r :: pr.unreached, left := [], holding := false }
    by_cases harmed : ∃ e ∈ pe.results, e.status = .armed
    · rw [State.endList_of_armed (pr := pe) harmed, State.respond_of_live (by exact hlive)]
      by_cases hc : (pe.results.all (fun r => r.status == .done || r.status == .armed) &&
        s.zone.owner == some pe.origin) = true
      · rw [State.decideCommit, if_pos hc]; exact ⟨_, _, rfl⟩
      · rw [State.decideCommit, if_neg hc]; exact ⟨_, _, rfl⟩
    · rw [State.endList_of_not_armed (pr := pe) (by simpa using harmed), State.respond_of_live (by exact hlive)]
      exact ⟨_, _, rfl⟩
  · rw [not_or, Bool.not_eq_false, not_not] at hend
    rw [State.answer_goesOn hp hend.1 hend.2]
    exact ⟨_, _, rfl⟩

/-- R187: where nothing is being written, a completion changes nothing. -/
theorem State.writeEnds_of_none {s : State} (h : ∀ i, s.store.writer ≠ .writing i) : s.writeEnds = s := by
  unfold State.writeEnds
  split
  · rename_i i hi
    exact absurd hi (h i)
  · rfl

theorem State.writeEnds_of_writing {s : State} {i : SectionImage} (h : s.store.writer = .writing i) :
    s.writeEnds = State.clear .storeFault i.code { s with store := s.store.complete i } := by
  simp [State.writeEnds, h]

/-- R187: a completed write leaves the writer Idle, and the marks as they are. -/
theorem Store.complete_writer (st : Store) (i : SectionImage) : (st.complete i).writer = .idle ∧
    (st.complete i).zonesDirty = st.zonesDirty ∧ (st.complete i).settingsDirty = st.settingsDirty := by
  cases i <;> exact ⟨rfl, rfl, rfl⟩

/-- Settles O54: the commands by their blocks' part, the completion by what is written, and what starts next by the
marks at the event's end. -/
theorem saveRestartAndWriteCompletion : Obligations.SaveRestartAndWriteCompletion := by
  refine ⟨fun s pr h => leaves_of_act rfl h rfl, fun s pr h => leaves_of_act rfl h rfl, fun s hlost =>
    ⟨fun c hc => ?settings, fun z hz => ?zones, fun l hl => ?licences, fun hn => ?none, fun i hi => ?next,
      fun pr h hlive => ?save, fun due i hr hc hf hi => ?swap⟩⟩
  case settings => exact leaves_of_eventInHold hlost rfl (by rw [State.writeEnds_of_writing hc]; rfl)
  case zones => exact leaves_of_eventInHold hlost rfl (by rw [State.writeEnds_of_writing hz]; rfl)
  case licences => exact leaves_of_eventInHold hlost rfl (by rw [State.writeEnds_of_writing hl]; rfl)
  case none => exact leaves_of_eventInHold hlost rfl (by rw [State.writeEnds_of_none hn])
  case next =>
    intro dip l z c
    refine ⟨s.writeEnds.settle, State.eventInHold_of_not_lost hlost _, ?_⟩
    intro marks
    obtain ⟨hw, hwz, hwc⟩ := s.store.complete_writer i
    have he := State.writeEnds_of_writing hi
    have hidle : s.writeEnds.store.writer = .idle := by rw [he]; exact hw
    have hdip : s.writeEnds.chassis.alm.dip = dip := by rw [he]; exact Alm.clear_dip ..
    have hl : s.writeEnds.chassis.licencesDirty = l := by rw [he]; rfl
    have hz : s.writeEnds.store.zonesDirty = z := by rw [he]; exact hwz
    have hc : s.writeEnds.store.settingsDirty = c := by rw [he]; exact hwc
    have himg : s.writeEnds.licenceImage = s.licenceImage ∧ s.writeEnds.zoneImage = s.zoneImage ∧
      s.writeEnds.cfg = s.cfg := by rw [he]; exact ⟨rfl, rfl, rfl⟩
    obtain ⟨hil, hiz, hic⟩ := himg
    have hm : s.writeEnds.marked = (l || z || c) := by rw [State.marked, hl, hz, hc]
    refine ⟨fun hd => ?_, fun hd h1 => ?_, fun hd h1 h2 => ?_, fun hd h1 h2 h3 => ?_, fun hd h1 h2 h3 => ?_⟩
    · have := State.settle_of_idle_dip hidle (hdip.trans hd)
      rwa [hm, hl, hz, hc] at this
    · have := State.settle_of_idle_licences hidle (hdip.trans hd) (hl.trans h1)
      rwa [hil, hz, hc] at this
    · have := State.settle_of_idle_zones hidle (hdip.trans hd) (hl.trans h1) (hz.trans h2)
      rwa [hiz, hl, hc] at this
    · have := State.settle_of_idle_settings hidle (hdip.trans hd) (hl.trans h1) (hz.trans h2) (hc.trans h3)
      rwa [hic, hl, hz] at this
    · have := State.settle_of_idle_unmarked hidle (by rw [hm, h1, h2, h3]; rfl)
      rwa [hl, hz, hc] at this
  case save =>
    have hex : exec .save s = .next (State.answer (plain .started)
        { s with store := { s.store with settingsDirty := true } }).settle := by
      refine (State.event_of_runs h.runs _).trans ?_
      rw [h.command]; rfl
    obtain ⟨z, l, ha⟩ := State.answer_of_live (s := { s with store := { s.store with settingsDirty := true } })
      h.proc hlive (plain .started)
    rw [ha] at hex
    refine ⟨_, hex, fun i hi => ?_, fun hi hm => ⟨fun hd => ?_, fun hd => ?_⟩⟩
    · obtain ⟨hw, -, -, hc⟩ := State.settle_of_writing (s := { s with
        store := { s.store with settingsDirty := true }, zone := z, link := l }) hi
      exact ⟨hw, hc⟩
    · simp only [State.marked, Bool.or_eq_false_iff] at hm
      obtain ⟨hw, -, -, hc⟩ := State.settle_of_idle_settings (s := { s with
        store := { s.store with settingsDirty := true }, zone := z, link := l }) hi hd hm.1.1 hm.1.2 rfl
      exact ⟨hw, hc⟩
    · obtain ⟨hw, -, -, hc⟩ := State.settle_of_idle_dip (s := { s with
        store := { s.store with settingsDirty := true }, zone := z, link := l }) hi hd
      rw [if_pos (by simp [State.marked])] at hw
      exact ⟨hw, hc⟩
  case swap =>
    have hv := State.validationEnd_of_full hc hf
    have hi' : s.validationEnd.store.writer = .writing i := by rw [hv]; exact hi
    obtain ⟨hw, -, hz, -⟩ := State.settle_of_writing hi'
    exact ⟨_, State.event_of_runs hr _, hw, hz.trans (by rw [hv]; rfl)⟩

/-! ## The standby monitor (R190, R191) -/

/-- R188: what a cut-off write leaves of the sections. -/
theorem Store.cutOff_eq (st : Store) :
    st.cutOff = { st with
      writer := .idle
      settings := match st.writer with | .writing (.settings _) => none | _ => st.settings
      zones := match st.writer with | .writing (.zones _) => none | _ => st.zones
      licences := match st.writer with | .writing (.licences _) => none | _ => st.licences } := by
  unfold Store.cutOff
  split <;> simp_all

/-- Settles O55: each event of the monitor by its state. -/
theorem standbyMonitorFollowsRail : Obligations.StandbyMonitorFollowsRail := by
  intro s hlost x st
  refine ⟨fun hn hq => ?falls, fun h => ?noFall, fun due hd => ?low, fun hd => ?noLow, fun hl => ?back,
    fun hn => ?within, ?lost⟩
  case falls => exact leaves_of_eventInHold hlost rfl (by rw [State.railLow, if_pos ⟨hn, hq⟩])
  case noFall =>
    have hn : ¬ (s.store.monitor = .normal ∧ s.store.railLow = none) := by
      rintro ⟨h1, h2⟩
      rcases h with h | h
      · exact h h1
      · simp [st, h2] at h
    exact leaves_of_eventInHold hlost rfl (by rw [State.railLow, if_neg hn])
  case low =>
    refine leaves_of_eventInHold hlost rfl ?_
    have hd' : s.store.railLow = some due := hd
    cases hh : s.resetHeld <;> simp [State.enterLow, hd', State.carryUnlessHeld, hh] <;> rfl
  case noLow =>
    have hd' : s.store.railLow = none := hd
    exact leaves_of_eventInHold hlost rfl (by simp [State.enterLow, hd'])
  case back =>
    have hl' : s.store.monitor = .low := hl
    exact leaves_of_eventInHold hlost rfl (by simp only [State.railBack, hl']; rfl)
  case within =>
    have hback : s.railBack = { s with store := { s.store with railLow := none } } := by
      unfold State.railBack
      split
      · rename_i hl
        cases hn.symm.trans hl
      · rfl
    exact leaves_of_eventInHold hlost rfl (by rw [hback])
  case lost =>
    have hcut : s.loseRail = { s with store := { s.store.cutOff with monitor := .lost, railLow := none } } := rfl
    rw [s.store.cutOff_eq] at hcut
    refine ⟨s.loseRail.driveLines, exec_standbyLost hlost, ?_⟩
    rw [hcut]
    exact ⟨rfl, rfl, rfl, rfl, rfl, rfl, rfl, rfl, rfl⟩

end Sys2Proof.Machine

/-! # The alarm unit: raise, clear, notices, Acknowledge and the pulse timers (R156 to R165) -/

namespace Sys2Proof.Machine

/-! ## The notice queue (R165) -/

/-- R165: below 32 a notice joins the tail. -/
theorem enqueueNotice_of_lt {m : Notice} {q : List Notice} (h : q.length < 32) : enqueueNotice m q = q ++ [m] :=
  if_pos h

/-- R165: in a full queue a notice takes the place of the newest one of lower severity. -/
theorem enqueueNotice_of_lower {m l : Notice} {q u v : List Notice} (h : 32 ≤ q.length) (hq : q = u ++ l :: v)
    (hl : l.severity.code < m.severity.code) (hv : ∀ o ∈ v, m.severity.code ≤ o.severity.code) :
    enqueueNotice m q = u ++ v ++ [{ m with overflow := true }] := by
  have hany : q.any (fun o => o.severity.code < m.severity.code) = true :=
    List.any_eq_true.2 ⟨l, by simp [hq], by simpa using hl⟩
  have herase : q.reverse.eraseP (fun o => decide (o.severity.code < m.severity.code)) = v.reverse ++ u.reverse := by
    rw [hq, List.reverse_append, List.reverse_cons, List.append_assoc,
      List.eraseP_append_right _ (by simpa using hv), List.singleton_append, List.eraseP_cons_of_pos (by simpa using hl)]
  rw [enqueueNotice, if_neg (show ¬ q.length < Config.noticeCap from Nat.not_lt.mpr h), if_pos hany, herase]
  simp

/-- R165: a full queue without one of lower severity loses the notice and marks its newest. -/
theorem enqueueNotice_of_not_lower {m l : Notice} {q u : List Notice} (h : 32 ≤ q.length) (hq : q = u ++ [l])
    (hall : ∀ o ∈ q, m.severity.code ≤ o.severity.code) : enqueueNotice m q = u ++ [{ l with overflow := true }] := by
  have hany : ¬ q.any (fun o => o.severity.code < m.severity.code) = true := by
    simpa using hall
  have hrev : q.reverse = l :: u.reverse := by simp [hq]
  rw [enqueueNotice, if_neg (show ¬ q.length < Config.noticeCap from Nat.not_lt.mpr h), if_neg hany, hrev]
  simp

/-! ## Raise and clear (R156 to R158) -/

section Alm

variable {x : Ctx} {k : AlarmKind} {n : Nat} {a : Alm}

theorem AlarmEntry.hasKey_iff {e : AlarmEntry} : e.hasKey k n = true ↔ e.kind = k ∧ e.subject = n := by
  simp [AlarmEntry.hasKey]

/-- R164: the notices of an alarm's raise or clear. -/
theorem Alm.notifyAlarm_notices (x : Ctx) (k : AlarmKind) (n : Nat) (t : Transition) (a : Alm) :
    (a.notifyAlarm x k n t).notices = if x.cfg.noticeOrigin = 0#16 then a.notices
      else enqueueNotice ⟨x.cfg.noticeOrigin, .alarm k, n, severityOf k, t, x.seconds, false⟩ a.notices := by
  unfold Alm.notifyAlarm Alm.notify
  split <;> rfl

theorem Alm.raise_of_stands (h : ∃ e ∈ a.entries, e.kind = k ∧ e.subject = n) : a.raise x k n = a := by
  obtain ⟨e, he, hk⟩ := h
  exact if_pos (List.any_eq_true.2 ⟨e, he, AlarmEntry.hasKey_iff.2 hk⟩)

theorem Alm.not_any_of_not_stands (h : ¬ ∃ e ∈ a.entries, e.kind = k ∧ e.subject = n) :
    ¬ a.entries.any (AlarmEntry.hasKey k n) = true := by
  rw [List.any_eq_true]
  rintro ⟨e, he, hk⟩
  exact h ⟨e, he, AlarmEntry.hasKey_iff.1 hk⟩

theorem Alm.raise_of_room (h : ¬ ∃ e ∈ a.entries, e.kind = k ∧ e.subject = n) (hl : a.entries.length < 64) :
    a.raise x k n = Alm.notifyAlarm x k n .raised { a with entries := a.entries ++ [AlarmEntry.new x k n] } := by
  rw [Alm.raise, if_neg (Alm.not_any_of_not_stands h), if_pos (show _ < Config.alarmCap from hl)]

theorem Alm.raise_of_reserved (h : ¬ ∃ e ∈ a.entries, e.kind = k ∧ e.subject = n) (hl : 64 ≤ a.entries.length)
    {e : AlarmEntry} (hf : a.full = some e) : a.raise x k n = a := by
  simp only [Alm.raise, Alm.not_any_of_not_stands h, show ¬ a.entries.length < Config.alarmCap from Nat.not_lt.mpr hl,
    hf, Bool.false_eq_true, if_false]

theorem Alm.raise_of_full (h : ¬ ∃ e ∈ a.entries, e.kind = k ∧ e.subject = n) (hl : 64 ≤ a.entries.length)
    (hf : a.full = none) :
    a.raise x k n =
      Alm.notifyAlarm x .alarmTableFull 0 .raised { a with full := some (AlarmEntry.new x .alarmTableFull 0) } := by
  simp only [Alm.raise, Alm.not_any_of_not_stands h, show ¬ a.entries.length < Config.alarmCap from Nat.not_lt.mpr hl,
    hf, Bool.false_eq_true, if_false]

theorem Alm.clear_of_not_stands (h : ∀ e ∈ a.entries, ¬ (e.kind = k ∧ e.subject = n)) : a.clear x k n = a := by
  have hn : a.entry? k n = none := List.find?_eq_none.2 fun e he => by
    rw [AlarmEntry.hasKey_iff]; exact h e he
  rw [Alm.clear, hn]

/-- R155: an entry of the table is the one under its key. -/
theorem Alm.Ok.entry?_of_mem (h : a.Ok) {e : AlarmEntry} (he : e ∈ a.entries) (hk : e.kind = k) (hn : e.subject = n) :
    a.entry? k n = some e := by
  obtain ⟨-, hnodup, -, -⟩ := h
  obtain ⟨f, hf⟩ : ∃ f, a.entry? k n = some f :=
    Option.isSome_iff_exists.1 (List.find?_isSome.2 ⟨e, he, AlarmEntry.hasKey_iff.2 ⟨hk, hn⟩⟩)
  obtain ⟨hfk, hfn⟩ := AlarmEntry.hasKey_iff.1 (List.find?_some hf)
  have := List.inj_on_of_nodup_map hnodup (List.mem_of_find?_eq_some hf) he (by rw [hfk, hfn, hk, hn])
  rw [hf, this]

/-- R155: under a key stands one entry. -/
theorem Alm.Ok.hasKey_iff_eq (h : a.Ok) {e f : AlarmEntry} (he : e ∈ a.entries) (hk : e.kind = k) (hn : e.subject = n)
    (hf : f ∈ a.entries) : f.hasKey k n = true ↔ f = e := by
  obtain ⟨-, hnodup, -, -⟩ := h
  rw [AlarmEntry.hasKey_iff]
  refine ⟨fun ⟨hfk, hfn⟩ => ?_, ?_⟩
  · exact List.inj_on_of_nodup_map hnodup hf he (by rw [hfk, hfn, hk, hn])
  · rintro rfl; exact ⟨hk, hn⟩

/-- R157: an entry that leaves the table frees the reserved place. -/
theorem Alm.freed_of_lt (h : a.entries.length < 64) :
    (a.freed x).full = none ∧ (a.freed x).notices = if a.full = none then a.notices
      else (Alm.notifyAlarm x .alarmTableFull 0 .cleared { a with full := none }).notices := by
  cases hf : a.full with
  | none => simp [Alm.freed, hf]
  | some e => simp [Alm.freed, hf, Config.alarmCap, h]

/-- R158: the clear of an entry that leaves the table. -/
theorem Alm.clear_of_leaves (h : a.Ok) {e : AlarmEntry} (he : e ∈ a.entries) (hk : e.kind = k) (hn : e.subject = n)
    (hs : e.state = .acknowledged ∨ (e.state = .raised ∧ latchedKind k = false)) :
    a.clear x k n = Alm.freed x (Alm.notifyAlarm x k n .cleared (a.remove k n)) := by
  rw [Alm.clear, h.entry?_of_mem he hk hn]
  rcases hs with hs | ⟨hs, hl⟩
  · simp only [hs]
  · simp only [hs, hl, Bool.false_eq_true, if_false]

/-- R158: the clear of a Raised latched entry. -/
theorem Alm.clear_of_latched (h : a.Ok) {e : AlarmEntry} (he : e ∈ a.entries) (hk : e.kind = k) (hn : e.subject = n)
    (hs : e.state = .raised) (hl : latchedKind k = true) :
    a.clear x k n = Alm.notifyAlarm x k n .cleared (a.setState k n .clearedUnack) := by
  rw [Alm.clear, h.entry?_of_mem he hk hn]
  simp only [hs, hl, if_true]

/-- R158: an entry that is cleared already. -/
theorem Alm.clear_of_cleared (h : a.Ok) {e : AlarmEntry} (he : e ∈ a.entries) (hk : e.kind = k) (hn : e.subject = n)
    (hs : e.state = .clearedUnack) : a.clear x k n = a := by
  rw [Alm.clear, h.entry?_of_mem he hk hn]
  simp only [hs]

/-- The removal of a key's entry shortens the table. -/
theorem Alm.remove_length_lt {e : AlarmEntry} (he : e ∈ a.entries) (hk : e.kind = k) (hn : e.subject = n) :
    (a.remove k n).entries.length < a.entries.length :=
  List.length_filter_lt_length_iff_exists.2 ⟨e, he, by simp [AlarmEntry.hasKey, hk, hn]⟩

end Alm

/-- Settles O52: a raise by whether the key stands and the table has room, a clear by the key's entry, and the queue
by its room. -/
theorem alarmsRaiseClearAndNotify : Obligations.AlarmsRaiseClearAndNotify := by
  refine ⟨fun x k n a => ?raise, fun x k n a ha => ?clear, fun x k n a => ?event, fun m q =>
    ⟨enqueueNotice_of_lt, fun hf => ⟨fun u v l hq hl hv => enqueueNotice_of_lower hf hq hl hv, fun u l hq hall =>
      enqueueNotice_of_not_lower hf hq hall⟩⟩⟩
  case raise =>
    intro stands b
    refine ⟨Alm.raise_of_stands, fun hs hl => ?_, fun hs hl => ?_, Alm.raise_dip ..⟩
    · rw [show b = _ from Alm.raise_of_room hs hl]
      exact ⟨Alm.notifyAlarm_entries .., Alm.notifyAlarm_full .., Alm.notifyAlarm_notices ..⟩
    · cases hf : a.full with
      | some e =>
        have hb := Alm.raise_of_reserved (x := x) hs hl hf
        exact ⟨by rw [show b = a from hb], fun _ => hb, (fun h0 => by cases h0)⟩
      | none =>
        rw [show b = _ from Alm.raise_of_full (x := x) hs hl hf]
        exact ⟨Alm.notifyAlarm_entries .., (fun h0 => by cases h0),
          fun _ => ⟨Alm.notifyAlarm_full .., Alm.notifyAlarm_notices ..⟩⟩
  case clear =>
    intro b told
    refine ⟨Alm.clear_of_not_stands, fun e he hk hn => ⟨Alm.clear_of_cleared ha he hk hn, fun hs hl => ?latched,
      fun hs => ?leaves⟩, Alm.clear_dip ..⟩
    case latched =>
      have hb := Alm.clear_of_latched (x := x) ha he hk hn hs hl
      rw [show b = _ from hb]
      refine ⟨(Alm.notifyAlarm_entries ..).trans (List.map_congr_left fun f hf => ?_), Alm.notifyAlarm_full ..,
        Alm.notifyAlarm_notices ..⟩
      have hiff := ha.hasKey_iff_eq he hk hn hf
      by_cases hfe : f = e
      · rw [if_pos (hiff.2 hfe), if_pos hfe, hfe]
      · rw [if_neg (mt hiff.1 hfe), if_neg hfe]
    case leaves =>
      have hb := Alm.clear_of_leaves (x := x) ha he hk hn hs
      have hlt : (Alm.notifyAlarm x k n .cleared (a.remove k n)).entries.length < 64 := by
        rw [Alm.notifyAlarm_entries]
        exact lt_of_lt_of_le (Alm.remove_length_lt he hk hn) ha.1
      obtain ⟨hfull, hnotices⟩ := Alm.freed_of_lt (x := x) hlt
      refine ⟨?_, by rw [show b = _ from hb, hfull], ?_⟩
      · rw [show b = _ from hb, Alm.freed_entries, Alm.notifyAlarm_entries]
        refine List.filter_congr fun f hf => ?_
        have hiff := ha.hasKey_iff_eq he hk hn hf
        by_cases hfe : f = e
        · simp [hfe, (ha.hasKey_iff_eq he hk hn he).2 rfl]
        · simp [mt hiff.1 hfe, hfe]
      · rw [show b = _ from hb, hnotices, Alm.notifyAlarm_full]
        simp only [Alm.notifyAlarm_notices]
        rfl
  case event =>
    unfold Alm.notifyEvent Alm.notify
    rfl

/-! ## Acknowledge (R159, R160) -/

/-- A Restart leaves Grace Running and the start-up flag in agreement. -/
theorem State.restartBy_endAgrees (s : State) (c : ResetCause) : (s.restartBy c).EndAgrees := by
  refine ⟨⟨(fun h => by cases h), fun ⟨p, hp⟩ => ?_⟩, (fun h => by cases h)⟩
  have : ((s.restartBy c).chassis.port p) = PortRec.reset := by
    simp [State.restartBy, boot, Chassis.port]
  rw [this] at hp
  cases hp

/-- An answer leaves Grace Running and the start-up flag in agreement. -/
theorem State.answer_endAgrees {s : State} (r : Result) (h : s.EndAgrees) : (s.answer r).EndAgrees := by
  refine State.answer_keeps (P := State.EndAgrees) (fun s pr ws rs h => h) (fun s c d h => h)
    (fun s _ => s.restartBy_endAgrees _) s r h

/-- A served command that leaves Grace Running and the start-up flag alone leaves the alarms of its part. -/
theorem leavesAlarms_of_act {α : Type} {c : Instr} {s t : State} {pr : Proc} {cmd : Cmd}
    {read : List Byte → Option α} {a : α} {act : Proc → α → State → State × Result} {r : Result}
    (hc : exec c s = s.event (State.command cmd read act)) (h : s.Serves pr cmd read a) (hs : act pr a s = (t, r))
    (ht : s.EndAgrees → t.EndAgrees) : LeavesAlarms c s (t.answer r) := by
  have hcmd : State.command cmd read act s = t.answer r := by rw [h.command, hs]
  exact leavesAlarms_of_event h.runs hc (by rw [hcmd]) (fun hg => by rw [hcmd]; exact State.answer_endAgrees r (ht hg))
    (fun _ => by rw [hcmd])

/-- R159: what Acknowledge makes of an entry, by its state. -/
theorem AlarmEntry.acknowledge_eq (e : AlarmEntry) :
    e.acknowledge = match e.state with
      | .raised => some ⟨e.kind, e.subject, .acknowledged, e.raiseSec, none⟩
      | .acknowledged => some e
      | .clearedUnack => none := by
  unfold AlarmEntry.acknowledge
  cases e.state <;> rfl

/-- R159: Acknowledge on the entries of a property. -/
theorem Alm.acknowledgeWhere_eq (x : Ctx) (a : Alm) {p : AlarmEntry → Bool} {only : AlarmEntry → Prop}
    [DecidablePred only] (h : ∀ e, p e = true ↔ only e) :
    a.acknowledgeWhere x p = Alm.freed x
      { a with
        entries := a.entries.filterMap (fun e => if only e then e.acknowledge else some e)
        full := a.full.bind (fun e => if only e then e.acknowledge else some e) } := by
  have hp : (fun e => if p e = true then e.acknowledge else some e)
      = (fun e => if only e then e.acknowledge else some e) := by
    funext e
    simp only [h e]
  unfold Alm.acknowledgeWhere
  rw [hp]
  cases hf : a.full with
  | none => rfl
  | some e => simp only [Option.bind_some]

theorem Alm.anyEntry?_isNone_iff (a : Alm) (k : AlarmKind) (n : Nat) :
    (a.anyEntry? k n).isNone = true ↔ ¬ ∃ e, (e ∈ a.entries ∨ a.full = some e) ∧ e.kind = k ∧ e.subject = n := by
  rw [Option.isNone_iff_eq_none, Alm.anyEntry?, List.find?_eq_none]
  simp only [List.mem_append, Option.mem_toList, AlarmEntry.hasKey_iff]
  constructor
  · rintro h ⟨e, he, hk⟩; exact h e he hk
  · intro h e he hk; exact h ⟨e, he, hk⟩

/-! ## Pulse timers (R163) -/

section Pulse

variable {s : State} {k : AlarmKind} {n : Nat}

theorem State.pulseEnd_of_some {e : AlarmEntry} {due : Nat} (h : s.chassis.alm.anyEntry? k n = some e)
    (hp : e.pulse = some due) :
    s.pulseEnd k n = State.onChassis (fun _ c => { c with alm := c.alm.pulseEnd k n }) (s.carry due) := by
  simp [State.pulseEnd, h, hp]

theorem State.pulseEnd_of_none
    (h : ∀ e, e ∈ s.chassis.alm.entries ∨ s.chassis.alm.full = some e → e.kind = k → e.subject = n → e.pulse = none) :
    s.pulseEnd k n = s := by
  unfold State.pulseEnd
  split
  · rename_i due hdue
    obtain ⟨e, he, hp⟩ := Option.bind_eq_some_iff.1 hdue
    have hmem := List.mem_of_find?_eq_some (show List.find? _ _ = some e from he)
    obtain ⟨hk, hn⟩ := AlarmEntry.hasKey_iff.1 (List.find?_some (show List.find? _ _ = some e from he))
    rw [List.mem_append, Option.mem_toList] at hmem
    cases (h e hmem hk hn).symm.trans hp
  · rfl

/-- R155, R157: an entry under a key, of the table, or of the reserved place where the table has none. -/
theorem Alm.Ok.anyEntry?_of_mem {a : Alm} (h : a.Ok) {e : AlarmEntry}
    (he : e ∈ a.entries ∨ (a.full = some e ∧ ∀ f ∈ a.entries, ¬ (f.kind = k ∧ f.subject = n))) (hk : e.kind = k)
    (hn : e.subject = n) : a.anyEntry? k n = some e := by
  rw [Alm.anyEntry?, List.find?_append]
  rcases he with he | ⟨hf, hnone⟩
  · rw [show a.entries.find? (AlarmEntry.hasKey k n) = some e from h.entry?_of_mem he hk hn]
    rfl
  · have h0 : a.entries.find? (AlarmEntry.hasKey k n) = none := List.find?_eq_none.2 fun f hf => by
      rw [AlarmEntry.hasKey_iff]; exact hnone f hf
    rw [h0, hf]
    simp [AlarmEntry.hasKey, hk, hn]

end Pulse

/-- Settles O53: each form of Acknowledge by its checks, and the pulse timer by the entry under its key. -/
theorem acknowledgeAndPulseEnd : Obligations.AcknowledgeAndPulseEnd := by
  unfold Obligations.AcknowledgeAndPulseEnd
  intro acked onAlm
  have hack : acked = AlarmEntry.acknowledge := funext fun e => e.acknowledge_eq.symm
  have honAlm (s : State) {p : AlarmEntry → Bool} (only : AlarmEntry → Prop) [DecidablePred only]
      (h : ∀ e, p e = true ↔ only e) :
      s.onChassis (fun x c => { c with alm := c.alm.acknowledgeWhere x p }) = onAlm s only := by
    simp only [State.onChassis, Alm.acknowledgeWhere_eq _ _ h, onAlm, hack]
  refine ⟨fun s pr h => ?all, fun s pr k n h => ⟨fun hk => ?noKind, fun kind hk => ?key⟩, fun s k n hr ha => ?pulse⟩
  case all =>
    refine leavesAlarms_of_act rfl h (t := onAlm s _) (congrArg (·, plain .done) (honAlm s _ fun e => ?_)) (fun hg => hg)
    simp [Alm.shielded, AlarmEntry.hasKey, imp_iff_not_or]
  case noKind =>
    exact leavesAlarms_of_act rfl h (by simp only [State.acknowledge, hk]; rfl) (fun hg => hg)
  case key =>
    have hac : s.acknowledge (.key k n) =
        if subjectOk kind n = false then (s, plain .refusedRange)
        else if kind = .supplyDip ∧ s.chassis.alm.dip = true then (s, plain .refusedState)
        else if (s.chassis.alm.anyEntry? kind n).isNone then (s, plain .refusedUnknown)
        else (onAlm s (fun e => e.kind = kind ∧ e.subject = n), plain .done) := by
      simp only [State.acknowledge, hk, Bool.not_eq_true', honAlm s _ fun e => AlarmEntry.hasKey_iff]
    intro stands shielded
    refine ⟨fun hs => ?_, fun hs hd => ?_, fun hs hd hn => ?_, fun hs hd hn => ?_⟩
    · exact leavesAlarms_of_act rfl h (hac.trans (if_pos hs)) (fun hg => hg)
    all_goals rw [if_neg (by simp [hs])] at hac
    · exact leavesAlarms_of_act rfl h (hac.trans (if_pos hd)) (fun hg => hg)
    all_goals rw [if_neg hd] at hac
    · exact leavesAlarms_of_act rfl h (hac.trans (if_pos ((Alm.anyEntry?_isNone_iff ..).2 hn))) (fun hg => hg)
    · exact leavesAlarms_of_act rfl h (hac.trans (if_neg (by rw [Alm.anyEntry?_isNone_iff]; exact not_not.2 hn)))
        (fun hg => hg)
  case pulse =>
    intro a stop
    refine ⟨fun e due he hk hn hp => ?_, fun hn => ?_⟩
    · have hpe := State.pulseEnd_of_some (ha.anyEntry?_of_mem he hk hn) hp
      have hstop : (fun e : AlarmEntry => if e.hasKey k n = true then e.stopPulse else e) = stop := by
        funext f
        simp only [AlarmEntry.hasKey_iff]
        rfl
      have heq : s.pulseEnd k n = { s with
          clockMs := max s.clockMs due
          chassis := { s.chassis with alm := { a with entries := a.entries.map stop, full := a.full.map stop } } } := by
        rw [hpe, ← hstop]
        rfl
      exact leavesAlarms_of_event hr rfl (by rw [heq]) (fun hg => by rw [heq]; exact hg) (fun _ => by rw [heq])
    · have heq := State.pulseEnd_of_none hn
      exact leavesAlarms_of_event hr rfl (by rw [heq]) (fun hg => by rw [heq]; exact hg) (fun _ => by rw [heq])

end Sys2Proof.Machine

/-! # Setting commands and the second of running time (R55, R88, R91, R93, R125, R134, R138, R162, R183, R191) -/

namespace Sys2Proof.Machine

/-! ## The licence that a command names -/

section Named

variable {c : Chassis} {id : Nat} {l : Licence}

theorem Chassis.named_zero (h : id = 0) : c.named id = .error .refusedRange := if_pos h

theorem Chassis.named_of_unknown (h : id ≠ 0) (hn : ∀ l ∈ c.licences, l.record.id ≠ BitVec.ofNat 16 id) :
    c.named id = .error .refusedUnknown := by
  have hl : c.licence? (BitVec.ofNat 16 id) = none := by simpa [Chassis.licence?] using hn
  rw [Chassis.named, if_neg h, hl]

/-- R78: ids are distinct, so a licence of the table is the one that its id names. -/
theorem Chassis.LicencesOk.eq_of_id (hc : c.LicencesOk) {m : Licence} (hl : l ∈ c.licences) (hm : m ∈ c.licences)
    (h : l.record.id = m.record.id) : l = m := by
  obtain ⟨-, hnodup, -⟩ := hc
  exact List.inj_on_of_nodup_map hnodup hl hm h

theorem Chassis.LicencesOk.licence?_of_mem (hc : c.LicencesOk) (hl : l ∈ c.licences) :
    c.licence? l.record.id = some l := by
  obtain ⟨m, hm⟩ : ∃ m, c.licence? l.record.id = some m :=
    Option.isSome_iff_exists.1 (List.find?_isSome.2 ⟨l, hl, beq_iff_eq.2 rfl⟩)
  rw [hm, hc.eq_of_id (List.mem_of_find?_eq_some hm) hl (beq_iff_eq.1 (List.find?_some hm :))]

theorem Chassis.LicencesOk.named_of_mem (hc : c.LicencesOk) (h : id ≠ 0) (hl : l ∈ c.licences)
    (hid : l.record.id = BitVec.ofNat 16 id) : c.named id = .ok l := by
  have := hc.licence?_of_mem hl
  rw [hid] at this
  rw [Chassis.named, if_neg h, this]

end Named

/-- Settles O37: each command by what its number names or whether it is in range. -/
theorem warnAndGraceSettings : Obligations.WarnAndGraceSettings := by
  refine ⟨fun s pr f h hc => ⟨fun h0 => ?zero, fun h0 hn => ?unknown, fun l hl h0 hid => ⟨fun ht => ?permanent,
    fun t ht => ?term⟩⟩, fun s pr n h => ⟨fun hn => leaves_of_act rfl h (if_pos hn),
      fun hn => leaves_of_refusal rfl h (if_neg (Nat.not_le.2 hn))⟩⟩
  case zero => exact leaves_of_refusal rfl h (by rw [State.licenceWarnSet, Chassis.named_zero h0]; rfl)
  case unknown => exact leaves_of_refusal rfl h (by rw [State.licenceWarnSet, Chassis.named_of_unknown h0 hn]; rfl)
  case permanent =>
    exact leaves_of_refusal rfl h (by rw [State.licenceWarnSet, hc.named_of_mem h0 hl hid]; simp only [ht]; rfl)
  case term =>
    refine leaves_of_act rfl h ?_
    rw [State.licenceWarnSet, hc.named_of_mem h0 hl hid]
    have hmap : s.chassis.licences.map (fun m => if m.record.id == l.record.id then
          { m with record := { m.record with term := m.record.term.map (fun t => { t with warn := f.warn }) } } else m)
        = s.chassis.licences.map (fun m => if m.record.id = BitVec.ofNat 16 f.id then
          { m with record := { m.record with term := some { t with warn := f.warn } } } else m) := by
      refine List.map_congr_left fun m hm => ?_
      rw [← hid]
      by_cases hml : m.record.id = l.record.id
      · rw [if_pos (beq_iff_eq.2 hml), if_pos hml, hc.eq_of_id hm hl hml, ht]
        rfl
      · rw [if_neg (by simpa using hml), if_neg hml]
    simp only [ht, State.onChassis, Chassis.markLicences, Chassis.onLicence, hmap]
    rfl

/-! ## Seconds (R91, R191) -/

/-- Settles O39: by whether SEAT's seconds counter wraps. -/
theorem secondsCountAndHourTickWraps : Obligations.SecondsCountAndHourTickWraps := by
  intro s hr
  refine ⟨fun h => ?second, fun h => ?noTick, fun h => ⟨?row, ?tick⟩⟩
  case second =>
    refine leaves_of_event hr rfl ?_
    simp [State.secondEnds, h, State.carry]
  case noTick => exact leaves_of_event hr rfl (by rw [State.hourTick, if_neg h])
  case row =>
    have hrow : s.hourTick = s.secondEnds := if_pos h
    exact (State.event_of_runs hr State.hourTick).trans (by rw [hrow]; exact (State.event_of_runs hr _).symm)
  case tick =>
    obtain ⟨t, ht, hb⟩ := State.event_blocks State.secondEnds s hr
    have htick : s.secondEnds = State.onChassis
        (fun x => Chassis.hourTick x (inRebind x) (fun c => c.passIfDue x (Chassis.evaluateInPass x)))
        { s with
          clockMs := max s.clockMs s.secondDueMs
          secondDueMs := s.secondDueMs + 1000
          seconds := (s.seconds + 1) % 4294967296
          hourSeconds := 0 } := by
      simp [State.secondEnds, h, State.carry]
    rw [htick] at hb
    exact ⟨t, ht, congrArg Blocks.hourSeconds hb, congrArg Blocks.secondDueMs hb, congrArg Blocks.seconds hb,
      congrArg Blocks.cfg hb, congrArg Blocks.zone hb, congrArg Blocks.env hb, congrArg Blocks.fan hb⟩

/-! ## Fields that a setting command gives or keeps -/

section Fields

variable {α : Type} {given : Option Nat} {now : Nat}

theorem orKeep_upTo_of_fine {hi : Nat} (h : ¬ ∃ n ∈ given, hi < n) :
    orKeep given (upTo hi) now = some (given.getD now) := by
  cases given with
  | none => rfl
  | some n =>
    have hn : n ≤ hi := by simpa using h
    exact if_pos hn

theorem orKeep_upTo_of_out {hi : Nat} (h : ∃ n ∈ given, hi < n) : orKeep given (upTo hi) now = none := by
  obtain ⟨n, rfl, hn⟩ := h
  exact if_neg (Nat.not_le.2 hn)

theorem orKeep_within_of_fine {lo hi : Nat} (h : ¬ ∃ n ∈ given, n < lo ∨ hi < n) :
    orKeep given (within lo hi) now = some (given.getD now) := by
  cases given with
  | none => rfl
  | some n =>
    have hn : lo ≤ n ∧ n ≤ hi := by simpa using h
    exact if_pos hn

theorem orKeep_within_of_out {lo hi : Nat} (h : ∃ n ∈ given, n < lo ∨ hi < n) :
    orKeep given (within lo hi) now = none := by
  obtain ⟨n, rfl, hn⟩ := h
  exact if_neg (by omega)

end Fields

/-! ## Cooling Set (R125) -/

section CoolingSet

variable {f : CoolingSetForm} {old : CoolingCfg}

/-- R125: a value of Cooling Set is out of its range. -/
def CoolingSetForm.Bad (f : CoolingSetForm) : Prop :=
  (∃ n ∈ f.minRpm, 20000 < n) ∨ (∃ n ∈ f.minDuty, n < 20 ∨ 100 < n) ∨ ∃ n ∈ f.gain, n < 1 ∨ 20 < n

theorem CoolingSetForm.apply_of_fine (h : ¬ f.Bad) :
    f.apply old = some ⟨f.minRpm.getD old.minRpm, f.minDuty.getD old.minDuty, f.gain.getD old.gain⟩ := by
  simp only [CoolingSetForm.Bad, not_or] at h
  obtain ⟨hr, hd, hg⟩ := h
  rw [CoolingSetForm.apply, orKeep_upTo_of_fine hr, orKeep_within_of_fine hd, orKeep_within_of_fine hg]
  rfl

theorem CoolingSetForm.apply_of_bad (h : f.Bad) : f.apply old = none := by
  rw [CoolingSetForm.apply]
  rcases h with h | h | h
  · rw [orKeep_upTo_of_out h]; rfl
  · rw [orKeep_within_of_out h]
    cases orKeep f.minRpm (upTo 20000) old.minRpm <;> rfl
  · rw [orKeep_within_of_out h]
    cases orKeep f.minRpm (upTo 20000) old.minRpm <;> cases orKeep f.minDuty (within 20 100) old.minDuty <;> rfl

end CoolingSet

/-! ## Supply Set (R134) -/

section SupplySet

variable {f : SupplySetForm} {old : SupplyCfg}

/-- R134: a value of Supply Set is out of its range. -/
def SupplySetForm.Bad (f : SupplySetForm) : Prop :=
  (∃ o ∈ [f.r0, f.r1, f.r2, f.r3], ∃ n ∈ o, 5000 < n) ∨ ∃ n ∈ f.mode, 1 < n

/-- R134: the mode field, by its value. -/
theorem orKeep_mode_of_fine {given : Option Nat} {now : SupplyMode} (h : ¬ ∃ n ∈ given, 1 < n) :
    orKeep given SupplyMode.ofNat? now =
      some (if given = some 0 then .spareOne else if given = some 1 then .combined else now) := by
  cases given with
  | none => rfl
  | some n =>
    have hn : n = 0 ∨ n = 1 := by
      have : n ≤ 1 := by simpa using h
      omega
    rcases hn with rfl | rfl <;> rfl

theorem SupplyMode.ofNat?_of_gt : ∀ {n : Nat}, 1 < n → SupplyMode.ofNat? n = none
  | 0, h | 1, h => by omega
  | _ + 2, _ => rfl

theorem SupplySetForm.apply_of_fine (h : ¬ f.Bad) :
    f.apply old = some
      ⟨#v[f.r0.getD old.ratings[0], f.r1.getD old.ratings[1], f.r2.getD old.ratings[2], f.r3.getD old.ratings[3]],
        if f.mode = some 0 then .spareOne else if f.mode = some 1 then .combined else old.mode⟩ := by
  simp only [SupplySetForm.Bad, List.mem_cons, List.not_mem_nil, or_false, exists_eq_or_imp, exists_eq_left,
    not_or] at h
  obtain ⟨⟨h0, h1, h2, h3⟩, hm⟩ := h
  rw [SupplySetForm.apply, orKeep_upTo_of_fine h0, orKeep_upTo_of_fine h1, orKeep_upTo_of_fine h2,
    orKeep_upTo_of_fine h3, orKeep_mode_of_fine hm]
  rfl

theorem SupplySetForm.apply_of_bad (h : f.Bad) : f.apply old = none := by
  rw [Option.eq_none_iff_forall_ne_some]
  intro r hr
  simp only [SupplySetForm.apply, Option.bind_eq_bind, Option.bind_eq_some_iff] at hr
  obtain ⟨a, ha, b, hb, d, hd, e, he, m, hm, -⟩ := hr
  simp only [SupplySetForm.Bad, List.mem_cons, List.not_mem_nil, or_false, exists_eq_or_imp, exists_eq_left] at h
  rcases h with (h | h | h | h) | ⟨n, hn, h1⟩
  · cases (orKeep_upTo_of_out h).symm.trans ha
  · cases (orKeep_upTo_of_out h).symm.trans hb
  · cases (orKeep_upTo_of_out h).symm.trans hd
  · cases (orKeep_upTo_of_out h).symm.trans he
  · rw [Option.mem_def.1 hn] at hm
    cases (SupplyMode.ofNat?_of_gt h1).symm.trans hm

end SupplySet

/-! ## Power Set (R138) -/

section PowerSet

variable {f : PowerSetForm} {old : PowerCfg}

/-- The fields of Power Set that have an upper bound alone, with it. -/
def PowerSetForm.bounds (f : PowerSetForm) : List (Option Nat × Nat) :=
  [(f.slope, 50), (f.untrustedInlet, 100), (f.trayCapacity, 2000), (f.reserve, 1000), (f.chassisBase, 3000),
    (f.bladeBase, 500), (f.trayDraw, 200), (f.d1, 50), (f.d2, 50), (f.d3, 50), (f.d4, 50), (f.margin, 1000),
    (f.holdoffSecs, 600)]

/-- R138: a value of Power Set is out of its range. -/
def PowerSetForm.Bad (f : PowerSetForm) : Prop :=
  (∃ n ∈ f.knee, n < 20 ∨ 60 < n) ∨ ∃ o ∈ f.bounds, ∃ n ∈ o.1, o.2 < n

theorem PowerSetForm.apply_of_fine (h : ¬ f.Bad) :
    f.apply old = some
      { knee := f.knee.getD old.knee, slope := f.slope.getD old.slope
        untrustedInlet := f.untrustedInlet.getD old.untrustedInlet
        trayCapacity := f.trayCapacity.getD old.trayCapacity, reserve := f.reserve.getD old.reserve
        chassisBase := f.chassisBase.getD old.chassisBase, bladeBase := f.bladeBase.getD old.bladeBase
        trayDraw := f.trayDraw.getD old.trayDraw, d1 := f.d1.getD old.d1, d2 := f.d2.getD old.d2
        d3 := f.d3.getD old.d3, d4 := f.d4.getD old.d4, margin := f.margin.getD old.margin
        holdoffSecs := f.holdoffSecs.getD old.holdoffSecs } := by
  simp only [PowerSetForm.Bad, PowerSetForm.bounds, List.mem_cons, List.not_mem_nil, or_false, exists_eq_or_imp,
    exists_eq_left, not_or] at h
  obtain ⟨hk, h1, h2, h3, h4, h5, h6, h7, h8, h9, h10, h11, h12, h13⟩ := h
  rw [PowerSetForm.apply, orKeep_within_of_fine hk, orKeep_upTo_of_fine h1, orKeep_upTo_of_fine h2,
    orKeep_upTo_of_fine h3, orKeep_upTo_of_fine h4, orKeep_upTo_of_fine h5, orKeep_upTo_of_fine h6,
    orKeep_upTo_of_fine h7, orKeep_upTo_of_fine h8, orKeep_upTo_of_fine h9, orKeep_upTo_of_fine h10,
    orKeep_upTo_of_fine h11, orKeep_upTo_of_fine h12, orKeep_upTo_of_fine h13]
  rfl

theorem PowerSetForm.apply_of_bad (h : f.Bad) : f.apply old = none := by
  simp only [PowerSetForm.Bad, PowerSetForm.bounds, List.mem_cons, List.not_mem_nil, or_false, exists_eq_or_imp,
    exists_eq_left] at h
  rw [PowerSetForm.apply]
  rcases h with h | h | h | h | h | h | h | h | h | h | h | h | h | h
  case inl => rw [orKeep_within_of_out h]; rfl
  all_goals
    rw [orKeep_upTo_of_out h]
    simp only [Option.bind_eq_bind, Option.bind_none, Option.bind_fun_none]

/-- R138: the ranges as the statement lists them. -/
theorem PowerSetForm.bad_iff (f : PowerSetForm) :
    f.Bad ↔ (∃ n ∈ f.knee, n < 20) ∨ ∃ o ∈ (f.knee, 60) :: f.bounds, ∃ n ∈ o.1, o.2 < n := by
  rw [PowerSetForm.Bad, List.exists_mem_cons_iff]
  constructor
  · rintro (⟨n, hn, h | h⟩ | h)
    exacts [.inl ⟨n, hn, h⟩, .inr (.inl ⟨n, hn, h⟩), .inr (.inr h)]
  · rintro (⟨n, hn, h⟩ | ⟨n, hn, h⟩ | h)
    exacts [.inl ⟨n, hn, .inl h⟩, .inl ⟨n, hn, .inr h⟩, .inr h]

end PowerSet

/-! ## Alarm Set (R162) -/

section AlarmSet

variable {mode enable : Option Nat} {old : RelayCfg}

theorem RelayMode.ofNat?_of_gt : ∀ {n : Nat}, 1 < n → RelayMode.ofNat? n = none
  | 0, h | 1, h => by omega
  | _ + 2, _ => rfl

theorem flagOf?_of_gt : ∀ {n : Nat}, 1 < n → flagOf? n = none
  | 0, h | 1, h => by omega
  | _ + 2, _ => rfl

theorem flagOf?_of_le : ∀ {n : Nat}, n ≤ 1 → flagOf? n = some (n == 1)
  | 0, _ => rfl
  | 1, _ => rfl
  | _ + 2, h => by omega

/-- R162: Alarm Set reads its two fields one after the other. -/
theorem relayApply_eq (mode enable : Option Nat) (old : RelayCfg) :
    relayApply mode enable old = (orKeep mode RelayMode.ofNat? old.mode).bind fun m =>
      (orKeep enable flagOf? old.enable).bind fun e => some ⟨m, e⟩ := by
  cases mode <;> cases enable <;> rfl

theorem orKeep_relayMode_of_fine {now : RelayMode} (h : ¬ ∃ n ∈ mode, 1 < n) :
    orKeep mode RelayMode.ofNat? now =
      some (if mode = some 0 then .held else if mode = some 1 then .pulsed else now) := by
  cases mode with
  | none => rfl
  | some n =>
    have hn : n = 0 ∨ n = 1 := by
      have : n ≤ 1 := by simpa using h
      omega
    rcases hn with rfl | rfl <;> rfl

/-- A flag field that is given as 0 or 1, or not given. -/
theorem orKeep_flag_of_fine {now : Bool} (h : ¬ ∃ n ∈ enable, 1 < n) :
    orKeep enable flagOf? now = some ((enable.map (fun n => n == 1)).getD now) := by
  cases enable with
  | none => rfl
  | some n => exact flagOf?_of_le (by simpa using h)

theorem orKeep_flag_of_out {now : Bool} (h : ∃ n ∈ enable, 1 < n) : orKeep enable flagOf? now = none := by
  obtain ⟨n, rfl, hn⟩ := h
  exact flagOf?_of_gt hn

theorem relayApply_of_bad (h : (∃ n ∈ mode, 1 < n) ∨ ∃ n ∈ enable, 1 < n) : relayApply mode enable old = none := by
  rw [relayApply_eq]
  rcases h with ⟨n, rfl, h1⟩ | h
  · rw [orKeep, RelayMode.ofNat?_of_gt h1]
    rfl
  · rw [orKeep_flag_of_out h]
    exact Option.bind_fun_none _

theorem relayApply_of_fine (hm : ¬ ∃ n ∈ mode, 1 < n) (he : ¬ ∃ n ∈ enable, 1 < n) :
    relayApply mode enable old = some
      ⟨if mode = some 0 then .held else if mode = some 1 then .pulsed else old.mode,
        (enable.map (fun n => n == 1)).getD old.enable⟩ := by
  rw [relayApply_eq, orKeep_relayMode_of_fine hm, orKeep_flag_of_fine he]
  rfl

/-- The codes of the twenty alarm kinds are 0 to 19. -/
theorem AlarmKind.ofCode?_of_ge : ∀ {k : Nat}, 20 ≤ k → AlarmKind.ofCode? k = none
  | k, h => by
    obtain ⟨n, rfl⟩ := Nat.exists_eq_add_of_le' h
    rfl

theorem AlarmKind.exists_ofCode? (i : Fin 20) : ∃ k, AlarmKind.ofCode? i.val = some k ∧ k.code = i := by
  have h : ∀ i : Fin 20, (AlarmKind.ofCode? i.val).map AlarmKind.code = some i := by decide
  exact Option.map_eq_some_iff.1 (h i)

end AlarmSet

/-- Settles O49: each command by whether a value is out of its range. -/
theorem settingCommandsKeepRanges : Obligations.SettingCommandsKeepRanges := by
  refine ⟨fun s pr n h => ⟨fun h1 h2 => leaves_of_act rfl h (if_pos ⟨h1, h2⟩), fun hn => leaves_of_refusal rfl h
      (if_neg (by omega))⟩, fun s pr f h => ?cooling, fun s pr f h => ?supply, fun s pr f h => ?power,
    fun s pr n h => leaves_of_act rfl h rfl, fun s pr k mode enable h => ?alarm,
    fun s pr a h => leaves_of_act rfl h rfl⟩
  case cooling =>
    intro bad old duty
    refine ⟨fun hb => leaves_of_refusal rfl h ?_, fun hb => leaves_of_act rfl h ?_⟩
    · rw [State.coolingSet, CoolingSetForm.apply_of_bad hb]; rfl
    · have hfan : (if f.minDuty.isSome then s.fan.lift duty else s.fan) =
          if f.minDuty.isSome = true ∧ s.fan.current < duty then { s.fan with current := duty, computed := duty }
          else s.fan := by
        by_cases hm : f.minDuty.isSome = true <;> simp only [hm, if_true, true_and] <;> rfl
      rw [State.coolingSet, CoolingSetForm.apply_of_fine hb, ← hfan]
      rfl
  case supply =>
    intro bad old e
    refine ⟨fun hb => leaves_of_refusal rfl h ?_, fun hb => leaves_of_act rfl h ?_⟩
    · rw [State.supplySet, SupplySetForm.apply_of_bad hb]; rfl
    · rw [State.supplySet, SupplySetForm.apply_of_fine hb]
      rfl
  case power =>
    intro bad w e
    refine ⟨fun hb => leaves_of_refusal rfl h ?_, fun hb => leaves_of_act rfl h ?_⟩
    · rw [State.powerSet, PowerSetForm.apply_of_bad (f.bad_iff.2 hb)]; rfl
    · rw [State.powerSet, PowerSetForm.apply_of_fine (mt f.bad_iff.1 hb)]
      rfl
  case alarm =>
    intro bad
    refine ⟨fun hb => leaves_of_refusal rfl h ?_, fun i hi hb => leaves_of_act rfl h ?_⟩
    · by_cases hk : 20 ≤ k
      · simp only [State.alarmSet, AlarmKind.ofCode?_of_ge hk]; rfl
      · obtain ⟨kind, hkind, -⟩ := AlarmKind.exists_ofCode? ⟨k, by omega⟩
        simp only [State.alarmSet, hkind, relayApply_of_bad (hb.resolve_left hk)]; rfl
    · subst hi
      obtain ⟨kind, hkind, hcode⟩ := AlarmKind.exists_ofCode? i
      simp only [bad, not_or] at hb
      simp only [State.alarmSet, hkind, relayApply_of_fine hb.2.1 hb.2.2, Settings.relay, hcode]
      rfl

end Sys2Proof.Machine

/-! # The scanner: channels, settings, conversions -/

namespace Sys2Proof.Machine

/-! ## What an evaluation leaves to PWR (R133) -/

/-- PWR's inputs change only where a block hands a change on. -/
theorem Chassis.inputs_closed (x : Ctx) (i : PwrInputs) :
    Chassis.ClosedEval x (fun _ => True) (fun c => c.pwr.inputs = i) where
  of_granted _ _ _ _ := trivial
  of_waiting _ _ _ _ := trivial
  of_counted _ _ _ _ := trivial
  of_seatWait _ _ _ _ := trivial
  port _ _ _ _ _ h := h
  lower _ _ _ _ _ h := h
  take c p g _ h := by rw [Chassis.takeGrant, Chassis.putControl_pwr]; exact h
  joinWait _ _ _ _ h := h
  pwr _ _ hw h := hw.inputs.trans h
  episode _ _ h := h
  form _ h := h
  count _ _ h := h
  control c p k _ h := by rw [Chassis.putControl_pwr]; exact h
  logins _ _ _ h := h
  alarm_raise _ _ _ h := h
  alarm_clear _ _ _ h := h
  running _ _ h := h
  bind _ _ _ _ _ h := h
  unbind _ _ _ _ h := h
  grace c p n _ h := by rw [Chassis.setGrace_pwr]; exact h
  joinSeat _ _ _ h := h
  leaveSeat _ _ _ h := h
  due _ _ h := h

theorem Chassis.handPwr_inputs (x : Ctx) (f : PwrInputs → PwrInputs) (c : Chassis) :
    (c.handPwr x f).pwr.inputs = f c.pwr.inputs :=
  (Chassis.inputs_closed x (f c.pwr.inputs)).handPwr f rfl

/-! ## What ENV's judgements change -/

/-- R110: Sensor Trust Lost is an alarm alone. -/
theorem State.trustAlarm_frame (old new : Trust) (s : State) :
    ∃ a, s.trustAlarm old new = { s with chassis := { s.chassis with alm := a } } := by
  unfold State.trustAlarm
  split
  · exact ⟨_, rfl⟩
  · split
    · exact ⟨_, rfl⟩
    · exact ⟨_, rfl⟩
    · split <;> exact ⟨_, rfl⟩

/-- R109, R127: the trust state with its counts, and the duties where it leaves Trusted. -/
theorem State.setTrust_frame (d : Trust) (m n : Nat) (s : State) : ∃ a,
    s.setTrust d m n = { s with
      env := { s.env with trust := d, fails := m, passes := n }
      fan := if s.env.trust = .trusted ∧ d ≠ .trusted then s.fan.full else s.fan
      chassis := { s.chassis with alm := a } } := by
  unfold State.setTrust
  dsimp only
  exact State.trustAlarm_frame _ _ _

/-- R133: PWR is told trust, thermal emergency and the inlet reading, and nothing else changes. -/
theorem State.tellPwr_frame (moved : Bool) (s : State) : ∃ c,
    s.tellPwr moved = { s with chassis := c } ∧
      c.pwr.inputs =
        { s.chassis.pwr.inputs with trust := s.env.trust, thermal := s.env.thermal, inlet := s.env.inlet } := by
  unfold State.tellPwr
  dsimp only
  split
  · rename_i h
    simp only [Bool.and_eq_true, decide_eq_true_eq] at h
    exact ⟨s.chassis, rfl, h.1.symm⟩
  · exact ⟨_, rfl, Chassis.handPwr_inputs ..⟩

/-! ## Channel Set (R103)

`Role.ofNat?` ends in `none` inside the namespace `Role`, which is the role None: a role value above 3 is read as that
role and not refused. -/

/-- A Channel Set that gives channel 0 the role value 4. -/
def roleFour : ChannelSetForm :=
  ⟨0, none, none, none, none, some 4, none, none, none, none, none, none, none⟩

theorem ChannelSetForm.apply_roleFour : roleFour.apply (ChanCfg.factory 0) = some (ChanCfg.factory 0) := by decide

/-- Refutes O41: a Channel Set with the role value 4 is carried out, where R102's range ends at 3. -/
theorem not_channelSetWritesRecord : ¬ Obligations.ChannelSetWritesRecord := by
  intro h
  obtain ⟨hiff, -⟩ := h.2 roleFour (ChanCfg.factory 0)
  obtain ⟨-, -, -, -, hrole, -⟩ := hiff.1 (by rw [ChannelSetForm.apply_roleFour]; rfl)
  exact absurd (hrole 4 rfl) (by decide)

/-! ## Scanner Set (R106) -/

section ScannerSet

variable {f : ScannerSetForm} {old : ScannerCfg}

/-- R105: a value of Scanner Set is out of its range. -/
def ScannerSetForm.Bad (f : ScannerSetForm) : Prop :=
  (∃ n ∈ f.enable, 1 < n) ∨ (∃ n ∈ f.restMs, 65535 < n) ∨ (∃ n ∈ f.tolerance, n < 1 ∨ 63 < n) ∨
    ∃ n ∈ f.gateSecs, n ≠ 1 ∧ n ≠ 2 ∧ n ≠ 4

theorem orKeep_gate_of_fine {given : Option Nat} {now : Nat} (h : ¬ ∃ n ∈ given, n ≠ 1 ∧ n ≠ 2 ∧ n ≠ 4) :
    orKeep given (fun n => if n = 1 ∨ n = 2 ∨ n = 4 then some n else none) now = some (given.getD now) := by
  cases given with
  | none => rfl
  | some n =>
    have hn : n = 1 ∨ n = 2 ∨ n = 4 := by
      by_contra hc
      exact h ⟨n, rfl, by omega⟩
    exact if_pos hn

theorem orKeep_gate_of_out {given : Option Nat} {now : Nat} (h : ∃ n ∈ given, n ≠ 1 ∧ n ≠ 2 ∧ n ≠ 4) :
    orKeep given (fun n => if n = 1 ∨ n = 2 ∨ n = 4 then some n else none) now = none := by
  obtain ⟨n, rfl, hn⟩ := h
  exact if_neg (by omega)

theorem ScannerSetForm.apply_of_fine (h : ¬ f.Bad) :
    f.apply old = some ⟨(f.enable.map (fun n => n == 1)).getD old.enable, f.restMs.getD old.restMs,
      f.tolerance.getD old.tolerance, f.gateSecs.getD old.gateSecs⟩ := by
  simp only [ScannerSetForm.Bad, not_or] at h
  simp [ScannerSetForm.apply, orKeep_flag_of_fine h.1, orKeep_upTo_of_fine h.2.1, orKeep_within_of_fine h.2.2.1,
    orKeep_gate_of_fine h.2.2.2]

theorem ScannerSetForm.apply_of_bad (h : f.Bad) : f.apply old = none := by
  rcases h with h | h | h | h
  · simp [ScannerSetForm.apply, orKeep_flag_of_out h]
  · simp [ScannerSetForm.apply, orKeep_upTo_of_out h]
  · simp [ScannerSetForm.apply, orKeep_within_of_out h]
  · simp [ScannerSetForm.apply, orKeep_gate_of_out h]

end ScannerSet

/-- R106: Scanner Set, once its values are in range and written. -/
theorem State.scannerSet_of_some {s : State} {f : ScannerSetForm} {new : ScannerCfg}
    (hn : f.apply s.cfg.scanner = some new) :
    s.scannerSet f =
      (if f.enable.isSome then
        if new.enable then State.turnScannerOn { s with cfg := { s.cfg with scanner := new } }
        else State.turnScannerOff { s with cfg := { s.cfg with scanner := new } }
       else { s with cfg := { s.cfg with scanner := new } }, plain .done) := by
  unfold State.scannerSet
  simp only [hn]
  cases f.enable <;> rfl

/-- R106: turned off outside a round, the scanner is Off at once. -/
theorem State.turnScannerOff_of_still {s : State}
    (h : (∃ d, s.env.scanner = .settling d) ∨ ∃ d, s.env.scanner = .resting d) :
    s.turnScannerOff = (s.enterOff).tellPwr false := by
  unfold State.turnScannerOff
  rcases h with ⟨d, h⟩ | ⟨d, h⟩ <;> rw [h]

/-- R106, R127: the entry to Off, by what it leaves. -/
theorem State.enterOff_frame (s : State) : ∃ a,
    s.enterOff = { s with
      env := { s.env with
        scanner := .off, turnOff := false, conv := none, readNow := none, trust := .unproven, fails := 0, passes := 0 }
      fan := if s.env.trust = .trusted then s.fan.full else s.fan
      chassis := { s.chassis with alm := a } } := by
  obtain ⟨a, ha⟩ := State.setTrust_frame .unproven 0 0
    { s with env := { s.env with scanner := .off, turnOff := false, conv := none, readNow := none } }
  refine ⟨a, ha.trans ?_⟩
  simp

/-- Settles O42: by the value of enable and the scanner's state. -/
theorem scannerSetTurnsScanner : Obligations.ScannerSetTurnsScanner := by
  intro s pr f h bad old e
  have hset (hb : ¬ bad) : s.scannerSet f = (if f.enable.isSome then
      if (f.enable.map (fun n => n == 1)).getD old.enable then e.turnScannerOn else e.turnScannerOff else e,
      plain .done) := State.scannerSet_of_some (ScannerSetForm.apply_of_fine hb)
  have hoff (hb : ¬ bad) (hf : f.enable = some 0) : s.scannerSet f = (e.turnScannerOff, plain .done) := by
    rw [hset hb, hf]; rfl
  refine ⟨fun hb => leaves_of_refusal rfl h ?_, fun hb hf => leaves_of_act rfl h ?_, fun hb hf => leaves_of_act rfl h ?_,
    fun hb hf => ⟨fun hsc => leaves_of_act rfl h ?off, fun r hsc => leaves_of_act rfl h ?round, fun hsc => ?still⟩⟩
  · simp only [State.scannerSet, ScannerSetForm.apply_of_bad hb]
    rfl
  · rw [hset hb, hf]; rfl
  · rw [hset hb, hf]
    show (e.turnScannerOn, plain .done) = _
    unfold State.turnScannerOn
    cases hsc : s.env.scanner <;> simp only [e, hsc] <;> rfl
  case off =>
    have he : e.turnScannerOff = e := by simp only [State.turnScannerOff, e, hsc]
    rw [hoff hb hf, he]; rfl
  case round =>
    have he : e.turnScannerOff = { e with env := { s.env with turnOff := true } } := by
      simp only [State.turnScannerOff, e, hsc]
    rw [hoff hb hf, he]; rfl
  case still =>
    obtain ⟨a, ha⟩ := e.enterOff_frame
    obtain ⟨c, hc, hi⟩ := e.enterOff.tellPwr_frame false
    refine ⟨e.turnScannerOff, leaves_of_act rfl h (hoff hb hf), ?_⟩
    rw [State.turnScannerOff_of_still (s := e) hsc, hc, ha]
    rw [ha] at hi
    exact ⟨rfl, rfl, rfl, congrArg PwrInputs.trust hi, rfl, rfl⟩

end Sys2Proof.Machine

/-! # Conversions, Read Now and the trays -/

namespace Sys2Proof.Machine

/-! ## The next conversion (R107, R114) -/

section NextConversion

variable {s : State}

theorem State.nextConversion_of_readNow {i : ChanId} (h : s.env.readNow = some i) :
    s.nextConversion =
      { s with env := { s.env with conv := some (.readNow (s.cfg.take i), s.clockMs + 10), readNow := none } } := by
  unfold State.nextConversion
  simp only [h]
  rfl

theorem State.nextConversion_of_round {r : Round} (h : s.env.readNow = none) (hs : s.env.scanner = .converting r) :
    s.nextConversion =
      { s with env := { s.env with conv := some (if r.left = [] then .reference else .channel, s.clockMs + 10) } } := by
  unfold State.nextConversion
  simp only [h, hs, List.isEmpty_iff]
  rfl

theorem State.nextConversion_of_still (h : s.env.readNow = none) (hs : ∀ r, s.env.scanner ≠ .converting r) :
    s.nextConversion = { s with env := { s.env with conv := none } } := by
  unfold State.nextConversion
  cases hsc : s.env.scanner with
  | converting r => exact absurd hsc (hs r)
  | off | settling _ | resting _ => simp only [h]

/-- R106, R107: a round that starts with no Read Now waiting. -/
theorem State.startRound_of_none (h : s.env.readNow = none) :
    s.startRound = { s with env := { s.env with
      scanner := .converting ⟨s.cfg.roundList, []⟩
      conv := some (if s.cfg.roundList = [] then .reference else .channel, s.clockMs + 10) } } := by
  unfold State.startRound
  rw [State.nextConversion_of_round (by exact h) rfl]

end NextConversion

/-! ## Read Now (R114) -/

section ReadNow

variable {s : State} {pr : Proc} {n : Nat} (h : s.Serves pr .readNow (readNat 1) n)
include h

theorem State.readNow_of_ge (hn : 16 ≤ n) : s.readNow = s.answer (plain .refusedRange) := by
  unfold State.readNow
  simp only [h.check]
  exact dif_neg (Nat.not_lt.2 hn)

theorem State.readNow_of_refused {i : ChanId} (hn : n = i.val)
    (hi : (s.cfg.channel i).enabled = false ∨ s.env.readNowRefused = true) :
    s.readNow = s.answer (plain .refusedState) := by
  subst hn
  have hb : (!(s.cfg.channel i).enabled || s.env.readNowRefused) = true := by
    rcases hi with hi | hi <;> rw [hi] <;> simp
  unfold State.readNow
  simp only [h.check]
  rw [dif_pos i.isLt]
  exact if_pos hb

theorem State.readNow_of_placed {i : ChanId} (hn : n = i.val) (he : (s.cfg.channel i).enabled = true)
    (hr : s.env.readNowRefused = false) : s.readNow = s.placeReadNow pr i := by
  subst hn
  have hb : ¬ (!(s.cfg.channel i).enabled || s.env.readNowRefused) = true := by rw [he, hr]; simp
  unfold State.readNow
  simp only [h.check]
  rw [dif_pos i.isLt]
  exact if_neg hb

end ReadNow

/-- R114: the scanner states in which Read Now is refused. -/
theorem Env.readNowRefused_iff (e : Env) : e.readNowRefused = true ↔
    e.scanner = .off ∨ (∃ d, e.scanner = .settling d) ∨ e.turnOff = true := by
  unfold Env.readNowRefused
  cases e.scanner <;> simp

theorem State.placeReadNow_of_free {s : State} (pr : Proc) (i : ChanId) (h : s.env.conv = none) :
    s.placeReadNow pr i =
      { s with
        link := { s.link with proc := some { pr with holding := true } }
        env := { s.env with readNow := none, conv := some (.readNow (s.cfg.take i), s.clockMs + 10) } } := by
  unfold State.placeReadNow
  rw [if_pos (by simp [h]), State.nextConversion_of_readNow rfl]

theorem State.placeReadNow_of_busy {s : State} (pr : Proc) (i : ChanId) (h : s.env.conv.isSome = true) :
    s.placeReadNow pr i =
      { s with
        link := { s.link with proc := some { pr with holding := true } }
        env := { s.env with readNow := some i } } := by
  unfold State.placeReadNow
  exact if_neg (by simpa using Option.isSome_iff_ne_none.1 h)

theorem State.readNowEnd_of_some {s : State} {t : Taken} {due : Nat} (h : s.env.conv = some (.readNow t, due))
    (code : RawCode) :
    s.readNowEnd code =
      (State.afterReadNow (State.carry due { s with env := { s.env with conv := none } })).answer
        (doneWith (s.readNowData t code)) := by
  unfold State.readNowEnd
  simp only [h]
  rfl

theorem State.readNowEnd_of_none {s : State} (h : ∀ t due, s.env.conv ≠ some (.readNow t, due)) (code : RawCode) :
    s.readNowEnd code = s := by
  unfold State.readNowEnd
  split
  · rename_i t due hc
    exact absurd hc (h t due)
  · rfl

/-- R114: a round whose start waited for the Read Now starts now. -/
theorem State.afterReadNow_of_waiting {s : State} (h : s.env.scanner = .resting none) :
    s.afterReadNow = s.startRound := by
  simp only [State.afterReadNow, h]

theorem State.afterReadNow_of_ne {s : State} (h : s.env.scanner ≠ .resting none) :
    s.afterReadNow = s.nextConversion := by
  unfold State.afterReadNow
  split
  · rename_i hs; exact absurd hs h
  · rfl

/-- R104: the value of a raw code as a number. -/
theorem valueOf_eq (k : ChanKind) (d : Nat) (code : RawCode) : valueOf k d code =
    match k with
    | .temperature => (code.toNat : Int) - 220
    | .voltage => (code.toNat : Int) * 1800 * d / 1023 := by
  cases k
  · rfl
  · simp only [valueOf]
    push_cast
    rfl

/-- Settles O43: the refusals, the placing, and the end by the scanner's state. -/
theorem readNowConvertsOnce : Obligations.ReadNowConvertsOnce := by
  refine ⟨fun s pr n h => ?start, fun s t due code hr hc hw => ?ends, fun s code hr hc =>
    leaves_of_event hr rfl (by rw [State.readNowEnd_of_none hc])⟩
  case start =>
    intro held
    refine ⟨fun hn => leaves_of_event h.runs (exec_row .readNow s) (by rw [Cmd.effect, State.readNow_of_ge h hn]; rfl),
      fun i hi => ?_⟩
    intro c idle
    have hidle : s.env.readNowRefused = true ↔ idle := s.env.readNowRefused_iff
    refine ⟨fun hx => ?_, fun he hx hv => ?_, fun he hx hv => ?_⟩ <;>
      refine leaves_of_event h.runs (exec_row .readNow s) ?_ <;> rw [Cmd.effect]
    · rw [State.readNow_of_refused h hi (hx.imp_right hidle.2)]; rfl
    · rw [State.readNow_of_placed h hi he (Bool.eq_false_iff.2 (mt hidle.1 hx)), State.placeReadNow_of_free _ _ hv]; rfl
    · rw [State.readNow_of_placed h hi he (Bool.eq_false_iff.2 (mt hidle.1 hx)), State.placeReadNow_of_busy _ _ hv]
  case ends =>
    intro now v whole data
    have hdata : s.readNowData t code = data := by
      simp only [data, whole, v, State.readNowData, valueOf_eq, wholeDegrees]
      cases t.kind <;> rfl
    refine leaves_of_event hr rfl ?_
    rw [State.readNowEnd_of_some hc, hdata]
    refine congrArg (fun u : State => (u.answer ⟨.done, data⟩).blocks) ?_
    have still (hne : s.env.scanner ≠ .resting none) (hsc : ∀ r, s.env.scanner ≠ .converting r) :
        State.afterReadNow (State.carry due { s with env := { s.env with conv := none } }) =
          { s with clockMs := now, env := { s.env with conv := none } } := by
      rw [State.afterReadNow_of_ne (by exact hne), State.nextConversion_of_still (by exact hw) (by exact hsc)]
      rfl
    cases hsc : s.env.scanner with
    | converting r =>
      rw [State.afterReadNow_of_ne (by simp [hsc]), State.nextConversion_of_round (by exact hw) (by exact hsc)]
      rfl
    | resting d =>
      cases d with
      | none => rw [State.afterReadNow_of_waiting (by exact hsc), State.startRound_of_none (by exact hw)]; rfl
      | some d => exact still (by simp [hsc]) (by simp [hsc])
    | off | settling d => exact still (by simp [hsc]) (by simp [hsc])

/-! ## Rounds (R106, R107) -/

section Rounds

variable {s : State} {due : Nat}

theorem State.settlingEnd_of_some (h : s.env.scanner = .settling due) : s.settlingEnd = (s.carry due).startRound := by
  simp only [State.settlingEnd, h]

theorem State.settlingEnd_of_none (h : ∀ due, s.env.scanner ≠ .settling due) : s.settlingEnd = s := by
  unfold State.settlingEnd
  split
  · rename_i d hd; exact absurd hd (h d)
  · rfl

theorem State.restEnd_of_free (h : s.env.scanner = .resting (some due)) (hc : s.env.conv = none) :
    s.restEnd = (s.carry due).startRound := by
  simp only [State.restEnd, h, State.carry_env, hc, Option.isSome_none, Bool.false_eq_true, if_false]

theorem State.restEnd_of_busy (h : s.env.scanner = .resting (some due)) (hc : s.env.conv.isSome = true) :
    s.restEnd = { s with clockMs := max s.clockMs due, env := { s.env with scanner := .resting none } } := by
  simp only [State.restEnd, h, State.carry_env, hc, if_true]
  rfl

theorem State.restEnd_of_none (h : ∀ due, s.env.scanner ≠ .resting (some due)) : s.restEnd = s := by
  unfold State.restEnd
  split
  · rename_i d hd; exact absurd hd (h d)
  · rfl

theorem State.conversionEnd_of_cons {t : Taken} {ts : List Taken} {held : List (Taken × RawCode)}
    (hc : s.env.conv = some (.channel, due)) (h : s.env.scanner = .converting ⟨t :: ts, held⟩) (code : RawCode) :
    s.conversionEnd code = State.nextConversion (State.carry due
      { s with env := { s.env with scanner := .converting ⟨ts, held ++ [(t, code)]⟩, conv := none } }) := by
  simp only [State.conversionEnd, hc, h]

theorem State.conversionEnd_of_none (h : ∀ due, s.env.conv ≠ some (.channel, due)) (code : RawCode) :
    s.conversionEnd code = s := by
  unfold State.conversionEnd
  split
  · rename_i d _ hd _; exact absurd hd (h d)
  · rfl

theorem State.roundEnd_of_none (h : ∀ due, s.env.conv ≠ some (.reference, due)) (code : RawCode) :
    s.roundEnd code = s := by
  unfold State.roundEnd
  split
  · rename_i d _ hd _; exact absurd hd (h d)
  · rfl

end Rounds

/-- R107: the channels of a round's list, in the order of the list. -/
theorem Settings.roundList_chans (c : Settings) :
    c.roundList.map Taken.chan = allChans.filter (fun i => (c.channel i).enabled) := by
  rw [Settings.roundList, List.map_map]
  exact List.map_id _

/-- Settles O44: the ends of settling, rest and a conversion, and the list a round takes. -/
theorem roundConvertsChannelsInOrder : Obligations.RoundConvertsChannelsInOrder := by
  refine ⟨fun s hr => ?starts, fun s code due t ts held hr hc hs => ?goes, fun s code hr hc =>
    leaves_of_event hr rfl (by rw [State.conversionEnd_of_none hc]), fun s code hr hc =>
    leaves_of_event hr rfl (by rw [State.roundEnd_of_none hc]), fun c => ⟨?_, ?_, ?_⟩⟩
  case starts =>
    intro first
    refine ⟨fun due hs hw => ?_, fun hs => leaves_of_event hr rfl (by rw [State.settlingEnd_of_none hs]),
      fun due hs hc hw => ?_, fun due hs hc => leaves_of_event hr rfl (by rw [State.restEnd_of_busy hs hc]),
      fun hs => leaves_of_event hr rfl (by rw [State.restEnd_of_none hs])⟩
    · refine leaves_of_event hr rfl ?_
      rw [State.settlingEnd_of_some hs, State.startRound_of_none (by exact hw)]
      rfl
    · refine leaves_of_event hr rfl ?_
      rw [State.restEnd_of_free hs hc, State.startRound_of_none (by exact hw)]
      rfl
  case goes =>
    intro now went
    refine ⟨fun hw => leaves_of_event hr rfl ?_, fun i hw => leaves_of_event hr rfl ?_⟩
    · rw [State.conversionEnd_of_cons hc hs, State.nextConversion_of_round (by exact hw) rfl]
      simp only [went, State.carry, hw]
      rfl
    · rw [State.conversionEnd_of_cons hc hs, State.nextConversion_of_readNow (by exact hw)]
      rfl
  · rw [c.roundList_chans]
    exact (List.pairwise_lt_finRange 16).filter _
  · intro t ht
    obtain ⟨i, hi, rfl⟩ := List.mem_map.1 ht
    exact ⟨(List.mem_filter.1 hi).2, rfl, rfl, rfl, rfl⟩
  · intro i hi
    rw [c.roundList_chans]
    exact List.mem_filter.2 ⟨List.mem_finRange i, by simpa using hi⟩

/-! ## The trays (R115, R116, R122, R123) -/

section Trays

variable {s : State} {k : TrayId}

theorem State.pulse_of_gate {g : Gate} (h : s.env.gates[k.val] = some g) :
    s.pulse k = { s with env := { s.env with
      gates := s.env.gates.set k.val (some { g with count := min 65535 (g.count + 1) }) } } := by
  unfold State.pulse
  simp only [h]

theorem State.pulse_of_none (h : s.env.gates[k.val] = none) : s.pulse k = s := by
  unfold State.pulse
  simp only [h]

theorem State.gateEnd_of_none (h : s.env.gates[k.val] = none) : s.gateEnd k = s := by
  unfold State.gateEnd
  simp only [h]

theorem State.gateEnd_of_gate {g : Gate} (h : s.env.gates[k.val] = some g) :
    s.gateEnd k = State.gateResult k g.rpm
      { s with
        clockMs := max s.clockMs g.dueMs
        env := { s.env with
          lastRpm := s.env.lastRpm.set k.val (some g.rpm)
          gates := s.env.gates.set k.val (some ⟨0, s.cfg.scanner.gateSecs,
            max s.clockMs g.dueMs + s.cfg.scanner.gateSecs * 1000⟩) } } := by
  unfold State.gateEnd
  simp only [h]
  rfl

end Trays

section GateResult

variable {s : State} {k : TrayId} {rpm : Nat}

theorem State.gateResult_of_good_high (h : (s.fan.tray k).state = .good) (hr : s.cfg.cooling.minRpm ≤ rpm) :
    s.gateResult k rpm =
      if (s.fan.tray k).high = 2 then
        State.clear .fanTrayFailed k.val (s.setTray k ⟨.good, 0, min 3 ((s.fan.tray k).high + 1)⟩)
      else s.setTray k ⟨.good, 0, min 3 ((s.fan.tray k).high + 1)⟩ := by
  have hl : decide (rpm < s.cfg.cooling.minRpm) = false := decide_eq_false (Nat.not_lt.2 hr)
  unfold State.gateResult
  simp only [h, hl]

theorem State.gateResult_of_failed_high (h : (s.fan.tray k).state = .failed) (hr : s.cfg.cooling.minRpm ≤ rpm) :
    s.gateResult k rpm =
      if 3 ≤ (s.fan.tray k).high + 1 then s.restoreTray k
      else s.setTray k ⟨.failed, (s.fan.tray k).low, (s.fan.tray k).high + 1⟩ := by
  have hl : decide (rpm < s.cfg.cooling.minRpm) = false := decide_eq_false (Nat.not_lt.2 hr)
  unfold State.gateResult
  simp only [h, hl]

theorem State.gateResult_of_failed_low (h : (s.fan.tray k).state = .failed) (hr : rpm < s.cfg.cooling.minRpm) :
    s.gateResult k rpm = s.setTray k ⟨.failed, (s.fan.tray k).low, 0⟩ := by
  have hl : decide (rpm < s.cfg.cooling.minRpm) = true := decide_eq_true hr
  unfold State.gateResult
  simp only [h, hl]

theorem State.gateResult_of_good_low (h : (s.fan.tray k).state = .good) (hr : rpm < s.cfg.cooling.minRpm) :
    s.gateResult k rpm =
      if 3 ≤ (s.fan.tray k).low + 1 then s.failTray k
      else s.setTray k ⟨.good, (s.fan.tray k).low + 1, 0⟩ := by
  have hl : decide (rpm < s.cfg.cooling.minRpm) = true := decide_eq_true hr
  unfold State.gateResult
  simp only [h, hl]

end GateResult

/-- A presence event leaves what it does, once its line has its level. -/
theorem leaves_of_presence {c : Instr} {k : TrayId} {b : Bool} {f : State → State} {s s' : State} (h : s.Runs)
    (hc : exec c s = (s.setPresence k b).event f) (hf : (f (s.setPresence k b)).blocks = s'.blocks) :
    Leaves c s s' := by
  obtain ⟨t, ht, hb⟩ := State.event_blocks f (s.setPresence k b) h
  exact ⟨t, hc.trans ht, hb.trans hf⟩

/-- Settles O47: pulses, gate ends by the tray's state and the RPM, and presence changes. -/
theorem trayEventsMoveTray : Obligations.TrayEventsMoveTray := by
  refine ⟨fun s k hr => ⟨fun hn => ⟨leaves_of_event hr rfl (by rw [State.pulse_of_none hn]),
      leaves_of_event hr rfl (by rw [State.gateEnd_of_none hn])⟩,
      fun g hg => leaves_of_event hr rfl (by rw [State.pulse_of_gate hg])⟩,
    fun s k g hr hg => ?gate, fun s k hr => ?presence⟩
  case gate =>
    intro now rpm r e
    have hend := State.gateEnd_of_gate hg
    refine ⟨fun hrpm => ⟨fun hst hh => ?_, fun hst hh => ?_, fun hst hh => ?_, fun hst hh => ?_⟩,
      fun hrpm => ⟨fun hst => ?_, fun hst hh => ?_, fun hst hh => ?_⟩⟩ <;> refine leaves_of_event hr rfl ?_ <;>
      rw [hend]
    · rw [State.gateResult_of_good_high (by exact hst) (by exact hrpm), if_pos (by exact hh)]
      simp only [show (s.fan.tray k).high = 2 from hh]
      rfl
    · rw [State.gateResult_of_good_high (by exact hst) (by exact hrpm), if_neg (by exact hh)]
      rfl
    · rw [State.gateResult_of_failed_high (by exact hst) (by exact hrpm), if_neg (by exact Nat.not_le.2 (by exact Nat.succ_lt_succ hh))]
      rfl
    · rw [State.gateResult_of_failed_high (by exact hst) (by exact hrpm), if_pos (by exact Nat.succ_le_succ hh)]
      rfl
    · rw [State.gateResult_of_failed_low (by exact hst) (by exact hrpm)]
      rfl
    · rw [State.gateResult_of_good_low (by exact hst) (by exact hrpm), if_neg (by exact Nat.not_le.2 (by exact Nat.succ_lt_succ hh))]
      rfl
    · rw [State.gateResult_of_good_low (by exact hst) (by exact hrpm), if_pos (by exact Nat.succ_le_succ hh)]
      rfl
  case presence =>
    intro line gate was
    refine ⟨fun hw => ?_, fun hw => ?_, fun hw => ?_, fun hw => ?_⟩ <;> refine leaves_of_presence hr rfl ?_
    · exact congrArg State.blocks (if_pos hw)
    · unfold State.trayLost
      exact congrArg State.blocks (if_neg hw)
    · exact congrArg State.blocks (if_neg hw)
    · exact congrArg State.blocks (if_pos hw)

end Sys2Proof.Machine

/-! # Alarms through a run of requests; supply samples -/

namespace Sys2Proof.Machine

/-! ## What requests under some keys leave of the alarm table -/

/-- The key of an entry. -/
def AlarmEntry.keyOf (e : AlarmEntry) : AlarmKind × Nat := (e.kind, e.subject)

/-- Requests under keys of `ks` lie between two alarm units, and those that may have added an entry are under keys
of `gs`. -/
structure Alm.Touch (ks gs : List (AlarmKind × Nat)) (a b : Alm) : Prop where
  ok : a.Ok → b.Ok
  others : ∀ k n, (k, n) ∉ ks →
    b.entries.filter (AlarmEntry.hasKey k n) = a.entries.filter (AlarmEntry.hasKey k n)
  added : ∀ e ∈ b.entries, e.keyOf ∉ gs → e.keyOf ∈ a.entries.map AlarmEntry.keyOf

/-- An entry stands under a key. -/
def Alm.Stands (a : Alm) (k : AlarmKind) (n : Nat) : Prop := ∃ e ∈ a.entries, e.kind = k ∧ e.subject = n

/-- No entry stands under a key but one that is Cleared-Unacknowledged. -/
def Alm.Ended (a : Alm) (k : AlarmKind) (n : Nat) : Prop :=
  ∀ e ∈ a.entries, e.kind = k → e.subject = n → e.state = .clearedUnack

/-- Entries of another key stay where those of one key alone change. -/
theorem filter_hasKey_of_others {k k' : AlarmKind} {n n' : Nat} {l m : List AlarmEntry}
    (h : l.filter (fun e => !e.hasKey k n) = m.filter (fun e => !e.hasKey k n)) (hne : (k', n') ≠ (k, n)) :
    l.filter (AlarmEntry.hasKey k' n') = m.filter (AlarmEntry.hasKey k' n') := by
  have hsub (l : List AlarmEntry) : l.filter (AlarmEntry.hasKey k' n') =
      (l.filter (fun e => !e.hasKey k n)).filter (AlarmEntry.hasKey k' n') := by
    rw [List.filter_filter]
    refine List.filter_congr fun e _ => ?_
    by_cases h' : e.hasKey k' n' = true
    · have : e.hasKey k n = false := by
        rw [AlarmEntry.hasKey_iff] at h'
        refine Bool.eq_false_iff.2 fun hk => hne ?_
        rw [AlarmEntry.hasKey_iff] at hk
        rw [← h'.1, ← h'.2, ← hk.1, ← hk.2]
      simp [h', this]
    · simp [Bool.eq_false_iff.2 h']
  rw [hsub l, hsub m, h]

namespace Alm.Touch

variable {ks gs ks' gs' : List (AlarmKind × Nat)} {a b c : Alm}

theorem refl (ks gs : List (AlarmKind × Nat)) (a : Alm) : Alm.Touch ks gs a a :=
  ⟨id, fun _ _ _ => rfl, fun _ he _ => List.mem_map_of_mem he⟩

theorem trans (h : Alm.Touch ks gs a b) (h' : Alm.Touch ks gs b c) : Alm.Touch ks gs a c :=
  ⟨fun ha => h'.ok (h.ok ha), fun k n hk => (h'.others k n hk).trans (h.others k n hk), fun e he hg => by
    obtain ⟨f, hf, hfe⟩ := List.mem_map.1 (h'.added e he hg)
    rw [← hfe] at hg ⊢
    exact h.added f hf hg⟩

theorem mono (h : Alm.Touch ks gs a b) (hk : ks ⊆ ks') (hg : gs ⊆ gs') : Alm.Touch ks' gs' a b :=
  ⟨h.ok, fun k n hn => h.others k n fun hm => hn (hk hm), fun e he hn => h.added e he fun hm => hn (hg hm)⟩

/-- Two runs one after the other. -/
theorem append (h : Alm.Touch ks gs a b) (h' : Alm.Touch ks' gs' b c) : Alm.Touch (ks ++ ks') (gs ++ gs') a c :=
  (h.mono (List.subset_append_left ..) (List.subset_append_left ..)).trans
    (h'.mono (List.subset_append_right ..) (List.subset_append_right ..))

theorem raise (x : Ctx) (k : AlarmKind) (n : Nat) (a : Alm) : Alm.Touch [(k, n)] [(k, n)] a (a.raise x k n) := by
  refine ⟨fun h => h.raise x k n, fun k' n' hk => filter_hasKey_of_others (Alm.raise_others ..) (by simpa using hk),
    fun e he hg => ?_⟩
  have hm : e ∈ (a.raise x k n).entries.filter (fun e => !e.hasKey k n) := by
    refine List.mem_filter.2 ⟨he, ?_⟩
    simpa [AlarmEntry.hasKey, AlarmEntry.keyOf, imp_iff_not_or] using hg
  rw [Alm.raise_others] at hm
  exact List.mem_map_of_mem (List.mem_filter.1 hm).1

theorem clear (x : Ctx) (k : AlarmKind) (n : Nat) (a : Alm) : Alm.Touch [(k, n)] [] a (a.clear x k n) := by
  refine ⟨fun h => h.clear x k n, fun k' n' hk => filter_hasKey_of_others (Alm.clear_others ..) (by simpa using hk),
    fun e he _ => ?_⟩
  unfold Alm.clear at he
  split at he
  · exact List.mem_map_of_mem he
  · have hrem (h : e ∈ (Alm.freed x (Alm.notifyAlarm x k n .cleared (a.remove k n))).entries) :
        e.keyOf ∈ a.entries.map AlarmEntry.keyOf := by
      rw [Alm.freed_entries, Alm.notifyAlarm_entries] at h
      exact List.mem_map_of_mem (List.mem_filter.1 h).1
    split at he
    · exact List.mem_map_of_mem he
    · split at he
      · rw [Alm.notifyAlarm_entries] at he
        obtain ⟨f, hf, rfl⟩ := List.mem_map.1 he
        refine List.mem_map.2 ⟨f, hf, ?_⟩
        split <;> rfl
      · exact hrem he
    · exact hrem he

theorem judge (x : Ctx) (k : AlarmKind) (n : Nat) (u v : Bool) (a : Alm) :
    Alm.Touch [(k, n)] [(k, n)] a (a.judge x k n u v) := by
  unfold Alm.judge
  split
  · exact raise x k n a
  · exact (clear x k n a).mono (List.Subset.refl _) (List.nil_subset _)
  · exact refl _ _ a

/-- The table grows by the keys that may have been added at most. -/
theorem length_le (h : Alm.Touch ks gs a b) (ha : a.Ok) : b.entries.length ≤ a.entries.length + gs.length := by
  have hb : (b.entries.map AlarmEntry.keyOf).Nodup := (h.ok ha).2.1
  have hsub : b.entries.map AlarmEntry.keyOf ⊆ a.entries.map AlarmEntry.keyOf ++ gs := by
    intro q hq
    obtain ⟨e, he, rfl⟩ := List.mem_map.1 hq
    by_cases hg : e.keyOf ∈ gs
    · exact List.mem_append_right _ hg
    · exact List.mem_append_left _ (h.added e he hg)
  simpa using (List.subperm_of_subset hb hsub).length_le

section Keys

variable {k : AlarmKind} {n : Nat} (h : Alm.Touch ks gs a b) (hk : (k, n) ∉ ks)
include h hk

theorem mem_iff {e : AlarmEntry} (he : e.kind = k) (hn : e.subject = n) : e ∈ b.entries ↔ e ∈ a.entries := by
  have hm := congrArg (e ∈ ·) (h.others k n hk)
  simpa [List.mem_filter, AlarmEntry.hasKey_iff, he, hn] using hm

theorem stands_iff : b.Stands k n ↔ a.Stands k n :=
  exists_congr fun _ => ⟨fun ⟨he, hek, hen⟩ => ⟨(h.mem_iff hk hek hen).1 he, hek, hen⟩,
    fun ⟨he, hek, hen⟩ => ⟨(h.mem_iff hk hek hen).2 he, hek, hen⟩⟩

theorem ended_iff : b.Ended k n ↔ a.Ended k n :=
  ⟨fun hb e he hek hen => hb e ((h.mem_iff hk hek hen).2 he) hek hen,
    fun ha e he hek hen => ha e ((h.mem_iff hk hek hen).1 he) hek hen⟩

end Keys

end Alm.Touch

/-- R156: a raise with room leaves an entry under its key. -/
theorem Alm.raise_stands {x : Ctx} {k : AlarmKind} {n : Nat} {a : Alm} (h : a.entries.length < 64) :
    (a.raise x k n).Stands k n := by
  by_cases hs : ∃ e ∈ a.entries, e.kind = k ∧ e.subject = n
  · rw [Alm.raise_of_stands hs]; exact hs
  · rw [Alm.raise_of_room hs h]
    exact ⟨AlarmEntry.new x k n, by simp, rfl, rfl⟩

/-- R158: a clear leaves no entry under its key but a latched one's. -/
theorem Alm.Ok.clear_ended {a : Alm} (h : a.Ok) (x : Ctx) (k : AlarmKind) (n : Nat) : (a.clear x k n).Ended k n := by
  intro e he hk hn
  by_cases hs : ∃ e ∈ a.entries, e.kind = k ∧ e.subject = n
  · obtain ⟨f, hf, hfk, hfn⟩ := hs
    have gone (hs : f.state = .acknowledged ∨ (f.state = .raised ∧ latchedKind k = false)) : e.state = .clearedUnack := by
      rw [Alm.clear_of_leaves h hf hfk hfn hs, Alm.freed_entries, Alm.notifyAlarm_entries] at he
      have hne := (List.mem_filter.1 he).2
      simp [AlarmEntry.hasKey, hk, hn] at hne
    cases hst : f.state with
    | acknowledged => exact gone (.inl hst)
    | clearedUnack =>
      rw [Alm.clear_of_cleared h hf hfk hfn hst] at he
      have hef := (h.hasKey_iff_eq hf hfk hfn he).1 (AlarmEntry.hasKey_iff.2 ⟨hk, hn⟩)
      rw [hef, hst]
    | raised =>
      by_cases hl : latchedKind k = true
      · rw [Alm.clear_of_latched h hf hfk hfn hst hl, Alm.notifyAlarm_entries] at he
        obtain ⟨g, hg, rfl⟩ := List.mem_map.1 he
        split
        · rfl
        · rename_i hne
          rw [if_neg hne] at hk hn
          exact absurd (AlarmEntry.hasKey_iff.2 ⟨hk, hn⟩) hne
      · exact gone (.inr ⟨hst, Bool.eq_false_iff.2 hl⟩)
  · rw [Alm.clear_of_not_stands fun e he h => hs ⟨e, he, h⟩] at he
    exact absurd ⟨e, he, hk, hn⟩ hs

/-- The end of an event leaves the entries of every key but Grace Running's. -/
theorem stands_of_blocks {s t : State} (h : t.blocks = s.blocks) {k : AlarmKind} (hk : k ≠ .graceRunning) (n : Nat) :
    (t.chassis.alm.Stands k n ↔ s.chassis.alm.Stands k n) ∧ (t.chassis.alm.Ended k n ↔ s.chassis.alm.Ended k n) := by
  have hm (e : AlarmEntry) (he : e.kind = k) : e ∈ t.chassis.alm.entries ↔ e ∈ s.chassis.alm.entries := by
    have hg : e.hasKey .graceRunning 0 = false := by
      simp [AlarmEntry.hasKey, he, hk]
    have := congrArg (fun b : Blocks => e ∈ b.alarms) h
    simpa [State.blocks, List.mem_filter, hg] using this
  exact ⟨exists_congr fun e => and_congr_left fun ⟨he, _⟩ => hm e he,
    forall_congr' fun e => ⟨fun hb he hek hen => hb ((hm e hek).2 he) hek hen,
      fun hb he hek hen => hb ((hm e hek).1 he) hek hen⟩⟩

/-! ## What an evaluation asks of the alarm unit -/

/-- The keys under which grace bindings and PWR ask. -/
def chassisKeys : List (AlarmKind × Nat) :=
  [(.redundancyLost, 0), (.graceRunning, 0), (.powerWait, 0), (.powerShedActive, 0)]

theorem mem_chassisKeys {k : AlarmKind} (h : chassisKind k = true) : (k, 0) ∈ chassisKeys := by
  revert h
  cases k <;> simp [chassisKind, chassisKeys]

/-- PORT, SEAT's bindings and PWR ask under their own keys. -/
theorem Chassis.touch_closed (x : Ctx) (a : Alm) :
    Chassis.ClosedEval x (fun _ => True) (fun c => Alm.Touch chassisKeys chassisKeys a c.alm) where
  of_granted _ _ _ _ := trivial
  of_waiting _ _ _ _ := trivial
  of_counted _ _ _ _ := trivial
  of_seatWait _ _ _ _ := trivial
  port _ _ _ _ _ h := h
  lower _ _ _ _ _ h := h
  take c p g _ h := by rw [Chassis.takeGrant, Chassis.putControl_alm]; exact h
  joinWait _ _ _ _ h := h
  pwr _ _ _ h := h
  episode _ _ h := h
  form c h := h.trans ((Alm.Touch.judge x .redundancyLost 0 _ _ c.alm).mono (by decide) (by decide))
  count _ _ h := h
  control c p k _ h := by rw [Chassis.putControl_alm]; exact h
  logins _ _ _ h := h
  alarm_raise c k hk h :=
    h.trans ((Alm.Touch.raise x k 0 c.alm).mono (by simpa using mem_chassisKeys hk) (by simpa using mem_chassisKeys hk))
  alarm_clear c k hk h :=
    h.trans ((Alm.Touch.clear x k 0 c.alm).mono (by simpa using mem_chassisKeys hk) (List.nil_subset _))
  running _ _ h := h
  bind _ _ _ _ _ h := h
  unbind _ _ _ _ h := h
  grace c p n _ h := by rw [Chassis.setGrace_alm]; exact h
  joinSeat _ _ _ h := h
  leaveSeat _ _ _ h := h
  due _ _ h := h

theorem Chassis.handPwr_touch (x : Ctx) (f : PwrInputs → PwrInputs) (c : Chassis) :
    Alm.Touch chassisKeys chassisKeys c.alm (c.handPwr x f).alm :=
  (Chassis.touch_closed x c.alm).handPwr f (Alm.Touch.refl ..)

end Sys2Proof.Machine

/-! # Supply samples (R117, R118) -/

namespace Sys2Proof.Machine

/-- R117: how the line pair of a slot reads in a sample. -/
def slotReads (seated good : BitVec 4) (i : SlotId) : SlotState :=
  sampleReads (seated.getLsbD i.val) (good.getLsbD i.val)

/-- The keys of a slot's alarms. -/
def slotKeys (i : SlotId) : List (AlarmKind × Nat) := [(.supplyFault, i.val), (.supplyAbsent, i.val)]

/-- A sample of the slots of a list lies between two states. -/
structure State.Sampled (seated good : BitVec 4) (l : List SlotId) (s u : State) : Prop where
  same : ∃ v c, u = { s with env := { s.env with slots := v }, chassis := c }
  slot : ∀ i : SlotId, u.env.slots[i.val] =
    if i ∈ l then s.env.slots[i.val].sample (slotReads seated good i) else s.env.slots[i.val]
  inputs : ∃ v, u.chassis.pwr.inputs = { s.chassis.pwr.inputs with slots := v }
  told : ∀ i : SlotId, u.chassis.pwr.inputs.slots[i.val] =
    if u.env.slots[i.val].state = s.env.slots[i.val].state then s.chassis.pwr.inputs.slots[i.val]
    else u.env.slots[i.val].state
  touch : ∃ gs, gs.length ≤ l.length ∧
    Alm.Touch (l.flatMap slotKeys ++ chassisKeys) (gs ++ chassisKeys) s.chassis.alm u.chassis.alm

theorem State.Sampled.nil (a b : BitVec 4) (s : State) : s.Sampled a b [] s where
  same := ⟨s.env.slots, s.chassis, rfl⟩
  slot _ := rfl
  inputs := ⟨s.chassis.pwr.inputs.slots, rfl⟩
  told _ := (if_pos rfl).symm
  touch := ⟨[], Nat.le_refl _, Alm.Touch.refl ..⟩

theorem State.Sampled.append {a b : BitVec 4} {l m : List SlotId} {s u v : State} (h : s.Sampled a b l u)
    (k : u.Sampled a b m v) (hd : ∀ i ∈ l, i ∉ m) : s.Sampled a b (l ++ m) v where
  same := by
    obtain ⟨v1, c1, rfl⟩ := h.same
    obtain ⟨v2, c2, rfl⟩ := k.same
    exact ⟨v2, c2, rfl⟩
  slot i := by
    rw [k.slot i, h.slot i]
    by_cases hl : i ∈ l
    · simp [hl, hd i hl]
    · simp [hl]
  inputs := by
    obtain ⟨v1, h1⟩ := h.inputs
    obtain ⟨v2, h2⟩ := k.inputs
    exact ⟨v2, by rw [h2, h1]⟩
  told i := by
    rw [k.told i]
    by_cases hl : i ∈ l
    · rw [k.slot i, if_neg (hd i hl), if_pos rfl, h.told i]
    · have hs : u.env.slots[i.val] = s.env.slots[i.val] := by rw [h.slot i, if_neg hl]
      rw [h.told i, hs, if_pos rfl]
  touch := by
    obtain ⟨g1, hg1, h1⟩ := h.touch
    obtain ⟨g2, hg2, h2⟩ := k.touch
    refine ⟨g1 ++ g2, by simpa using Nat.add_le_add hg1 hg2, (h1.append h2).mono ?_ ?_⟩
    · simp only [List.flatMap_append]
      intro q hq
      simp only [List.mem_append] at hq ⊢
      tauto
    · intro q hq
      simp only [List.mem_append] at hq ⊢
      tauto

/-! ## One slot -/

section Slot

variable {a b : BitVec 4} {s : State} {i : SlotId}

/-- The slot's record after a sample. -/
def State.slotAfter (a b : BitVec 4) (s : State) (i : SlotId) : SlotRec :=
  s.env.slots[i.val].sample (slotReads a b i)

theorem State.sampleSlot_of_same (h : (s.slotAfter a b i).state = s.env.slots[i.val].state) :
    s.sampleSlot a b i = { s with env := { s.env with slots := s.env.slots.set i.val (s.slotAfter a b i) } } := by
  unfold State.sampleSlot
  exact if_pos h

theorem State.sampleSlot_of_taken (h : (s.slotAfter a b i).state ≠ s.env.slots[i.val].state) :
    s.sampleSlot a b i = State.onChassis
      (fun x => Chassis.handPwr x (fun p => { p with slots := p.slots.set i.val (s.slotAfter a b i).state }))
      (State.slotAlarms i (s.slotAfter a b i).state
        { s with env := { s.env with slots := s.env.slots.set i.val (s.slotAfter a b i) } }) := by
  unfold State.sampleSlot
  exact if_neg h

/-- R118: the alarm unit after a slot takes a state. -/
def Alm.slotTakes (x : Ctx) (i : SlotId) (v : SlotState) (a : Alm) : Alm :=
  let a := if v = .fault then a.raise x .supplyFault i.val else a.clear x .supplyFault i.val
  if v = .absent then a.raise x .supplyAbsent i.val else a.clear x .supplyAbsent i.val

theorem State.slotAlarms_eq (i : SlotId) (v : SlotState) (s : State) :
    s.slotAlarms i v = { s with chassis := { s.chassis with alm := s.chassis.alm.slotTakes s.ctx i v } } := by
  unfold State.slotAlarms Alm.slotTakes
  dsimp only
  split <;> split <;> rfl

/-- A slot that takes a state may add one of its two alarms. -/
theorem Alm.slotTakes_touch (x : Ctx) (i : SlotId) (v : SlotState) (a : Alm) :
    ∃ k, Alm.Touch (slotKeys i) [(k, i.val)] a (a.slotTakes x i v) := by
  unfold Alm.slotTakes
  dsimp only
  by_cases hf : v = .fault
  · have ha : v ≠ .absent := by rw [hf]; decide
    rw [if_pos hf, if_neg ha]
    exact ⟨.supplyFault, (Alm.Touch.raise ..).append (Alm.Touch.clear ..)⟩
  · rw [if_neg hf]
    by_cases ha : v = .absent
    · rw [if_pos ha]
      exact ⟨.supplyAbsent, (Alm.Touch.clear ..).append (Alm.Touch.raise ..)⟩
    · rw [if_neg ha]
      exact ⟨.supplyAbsent, ((Alm.Touch.clear ..).append (Alm.Touch.clear ..)).mono (List.Subset.refl _)
        (List.nil_subset _)⟩

/-- R118: Supply Fault and Supply Absent by the state a slot takes. -/
theorem Alm.Ok.slotTakes_stands {a : Alm} (h : a.Ok) (x : Ctx) (i : SlotId) (v : SlotState)
    (hl : a.entries.length < 64) :
    (v = .fault → (a.slotTakes x i v).Stands .supplyFault i.val) ∧
    (v = .absent → (a.slotTakes x i v).Stands .supplyAbsent i.val) := by
  unfold Alm.slotTakes
  dsimp only
  refine ⟨fun hv => ?_, fun hv => ?_⟩
  · have ha : v ≠ .absent := by rw [hv]; decide
    rw [if_pos hv, if_neg ha, (Alm.Touch.clear x .supplyAbsent i.val _).stands_iff (by simp)]
    exact Alm.raise_stands hl
  · have hf : v ≠ .fault := by rw [hv]; decide
    rw [if_neg hf, if_pos hv]
    exact Alm.raise_stands (((Alm.Touch.clear x .supplyFault i.val a).length_le h).trans_lt (by simpa using hl))

theorem Alm.Ok.slotTakes_ended {a : Alm} (h : a.Ok) (x : Ctx) (i : SlotId) (v : SlotState) :
    (v ≠ .fault → (a.slotTakes x i v).Ended .supplyFault i.val) ∧
    (v ≠ .absent → (a.slotTakes x i v).Ended .supplyAbsent i.val) := by
  unfold Alm.slotTakes
  dsimp only
  refine ⟨fun hv => ?_, fun hv => ?_⟩
  · rw [if_neg hv]
    split
    · exact ((Alm.Touch.raise x .supplyAbsent i.val _).ended_iff (by simp)).2 (h.clear_ended _ _ _)
    · exact ((Alm.Touch.clear x .supplyAbsent i.val _).ended_iff (by simp)).2 (h.clear_ended _ _ _)
  · rw [if_neg hv]
    split
    · exact (h.raise x .supplyFault i.val).clear_ended _ _ _
    · exact (h.clear x .supplyFault i.val).clear_ended _ _ _

/-- A vector with one place written. -/
theorem Vector.getElem_set_fin {α : Type} {n : Nat} (v : Vector α n) (i j : Fin n) (x : α) :
    (v.set i.val x)[j.val] = if j = i then x else v[j.val] := by
  by_cases h : j = i
  · subst h; simp
  · rw [if_neg h, Vector.getElem_set_ne _ _ (fun hv => h (Fin.ext hv.symm))]

theorem State.sampleSlot_sampled (a b : BitVec 4) (s : State) (i : SlotId) :
    s.Sampled a b [i] (s.sampleSlot a b i) := by
  by_cases h : (s.slotAfter a b i).state = s.env.slots[i.val].state
  · rw [State.sampleSlot_of_same h]
    refine ⟨⟨_, _, rfl⟩, fun j => ?_, ⟨_, rfl⟩, fun j => ?_, ⟨[], Nat.zero_le _, Alm.Touch.refl ..⟩⟩
    · simp only [Vector.getElem_set_fin, List.mem_singleton]
      split
      · rename_i hj; subst hj; rfl
      · rfl
    · simp only [Vector.getElem_set_fin]
      by_cases hj : j = i
      · subst hj; rw [if_pos rfl, if_pos h]
      · rw [if_neg hj, if_pos rfl]
  · obtain ⟨k, hk⟩ := Alm.slotTakes_touch s.ctx i (s.slotAfter a b i).state s.chassis.alm
    have hin := Chassis.handPwr_inputs s.ctx
      (fun p => { p with slots := p.slots.set i.val (s.slotAfter a b i).state })
      { s.chassis with alm := s.chassis.alm.slotTakes s.ctx i (s.slotAfter a b i).state }
    have ht := Chassis.handPwr_touch s.ctx
      (fun p => { p with slots := p.slots.set i.val (s.slotAfter a b i).state })
      { s.chassis with alm := s.chassis.alm.slotTakes s.ctx i (s.slotAfter a b i).state }
    rw [State.sampleSlot_of_taken h, State.slotAlarms_eq]
    refine ⟨⟨_, _, rfl⟩, fun j => ?_, ⟨_, hin⟩, fun j => ?_, ⟨[(k, i.val)], Nat.le_refl _, ?_⟩⟩
    · simp only [State.onChassis_env, Vector.getElem_set_fin, List.mem_singleton]
      split
      · rename_i hj; subst hj; rfl
      · rfl
    · refine (congrArg (fun p : PwrInputs => p.slots[j.val]) hin).trans ?_
      simp only [State.onChassis_env, Vector.getElem_set_fin]
      by_cases hj : j = i
      · subst hj; simp only [if_true]; rw [if_neg h]
      · simp only [if_neg hj, if_true]
    · refine (hk.append ht).mono ?_ (List.Subset.refl _)
      simp

end Slot

theorem State.foldl_sampled (a b : BitVec 4) : ∀ (l : List SlotId) (s : State), l.Nodup →
    s.Sampled a b l (l.foldl (State.sampleSlot a b) s)
  | [], s, _ => State.Sampled.nil a b s
  | i :: l, s, h => by
    rw [List.nodup_cons] at h
    exact (s.sampleSlot_sampled a b i).append (State.foldl_sampled a b l _ h.2) (by simpa using h.1)

/-! ## The whole sample -/

/-- R118: settlement, once handed to PWR, stays. -/
theorem State.handSettled_frame (s : State) : ∃ c, s.handSettled = { s with chassis := c } ∧
    c.pwr.inputs = { s.chassis.pwr.inputs with settled := s.chassis.pwr.inputs.settled || s.env.settled } ∧
    Alm.Touch chassisKeys chassisKeys s.chassis.alm c.alm := by
  unfold State.handSettled
  split
  · rename_i h
    simp only [Bool.and_eq_true, Bool.not_eq_true'] at h
    refine ⟨_, rfl, ?_, Chassis.handPwr_touch ..⟩
    rw [Chassis.handPwr_inputs, h.1, Bool.or_true]
  · rename_i h
    have hs : (s.chassis.pwr.inputs.settled || s.env.settled) = s.chassis.pwr.inputs.settled := by
      cases he : s.env.settled <;> cases hp : s.chassis.pwr.inputs.settled <;> simp_all
    exact ⟨s.chassis, rfl, by rw [hs], Alm.Touch.refl ..⟩

/-- R118: supply is settled once no slot is Unknown. -/
theorem Env.settled_iff (e : Env) : e.settled = true ↔ ∀ i : SlotId, e.slots[i.val].state ≠ .unknown := by
  unfold Env.settled
  rw [List.all_eq_true]
  refine ⟨fun h i => by simpa using h e.slots[i.val] (by simp), fun h r hr => ?_⟩
  obtain ⟨n, hn, rfl⟩ := Vector.getElem_of_mem (Vector.mem_toList_iff.1 hr)
  simpa using h ⟨n, hn⟩

/-- R117: a slot after a sample, by how it reads. -/
theorem SlotRec.sample_cases (r : SlotRec) (v : SlotState) :
    (v = r.state → r.sample v = ⟨r.state, none⟩) ∧
    (v ≠ r.state → r.candidate = some (v, 2) → r.sample v = ⟨v, none⟩) ∧
    (v ≠ r.state → r.candidate = some (v, 1) → r.sample v = ⟨r.state, some (v, 2)⟩) ∧
    (v ≠ r.state → (∀ n, r.candidate ≠ some (v, n)) → r.sample v = ⟨r.state, some (v, 1)⟩) := by
  refine ⟨fun h => if_pos h, fun h hc => ?_, fun h hc => ?_, fun h hc => ?_⟩ <;> unfold SlotRec.sample <;> rw [if_neg h]
  · simp [hc]
  · simp [hc]
  · cases hr : r.candidate with
    | none => simp
    | some e =>
      obtain ⟨w, n⟩ := e
      have hw : w ≠ v := fun hv => hc n (by rw [hr, hv])
      simp [hw]

/-- A slot that takes a state, in a run of samples: the alarms it leaves. -/
theorem State.sampled_alarms {a b : BitVec 4} {s : State} (hok : s.chassis.alm.Ok) (i : SlotId)
    (hne : (s.slotAfter a b i).state ≠ s.env.slots[i.val].state) :
    let u := (List.finRange 4).foldl (State.sampleSlot a b) s
    let v := (s.slotAfter a b i).state
    (v = .fault → s.chassis.alm.entries.length + 8 ≤ 64 → u.chassis.alm.Stands .supplyFault i.val) ∧
    (v ≠ .fault → u.chassis.alm.Ended .supplyFault i.val) ∧
    (v = .absent → s.chassis.alm.entries.length + 8 ≤ 64 → u.chassis.alm.Stands .supplyAbsent i.val) ∧
    (v ≠ .absent → u.chassis.alm.Ended .supplyAbsent i.val) := by
  intro u v
  obtain ⟨l, m, hlm⟩ := List.append_of_mem (List.mem_finRange i)
  have hnd : (l ++ i :: m).Nodup := hlm ▸ List.nodup_finRange 4
  have hlen : l.length ≤ 3 := by
    have := congrArg List.length hlm
    simp only [List.length_finRange, List.length_append, List.length_cons] at this
    omega
  obtain ⟨hl, him, hdis⟩ := List.nodup_append.1 hnd
  have hsl := State.foldl_sampled a b l s hl
  have hsm := State.foldl_sampled a b m ((l.foldl (State.sampleSlot a b) s).sampleSlot a b i) (List.nodup_cons.1 him).2
  obtain ⟨gl, hgl, htl⟩ := hsl.touch
  obtain ⟨gm, -, htm⟩ := hsm.touch
  have hu : u = m.foldl (State.sampleSlot a b) ((l.foldl (State.sampleSlot a b) s).sampleSlot a b i) := by
    show (List.finRange 4).foldl _ s = _
    rw [hlm, List.foldl_append, List.foldl_cons]
  generalize hw : l.foldl (State.sampleSlot a b) s = w at *
  have hslot : w.env.slots[i.val] = s.env.slots[i.val] := by
    rw [hsl.slot i, if_neg fun hi => hdis i hi i (List.mem_cons_self) rfl]
  have hafter : w.slotAfter a b i = s.slotAfter a b i := by rw [State.slotAfter, State.slotAfter, hslot]
  have hwok : w.chassis.alm.Ok := htl.ok hok
  have hstep : Alm.Touch chassisKeys chassisKeys (w.chassis.alm.slotTakes w.ctx i v) (w.sampleSlot a b i).chassis.alm := by
    rw [State.sampleSlot_of_taken (by rw [hafter, hslot]; exact hne), State.slotAlarms_eq, hafter]
    exact Chassis.handPwr_touch w.ctx (fun p => { p with slots := p.slots.set i.val (s.slotAfter a b i).state })
      { w.chassis with alm := w.chassis.alm.slotTakes w.ctx i v }
  have hrest := hstep.append htm
  rw [← hu] at hrest
  have hkey (k : AlarmKind) (hk : (k, i.val) ∉ chassisKeys) :
      (k, i.val) ∉ chassisKeys ++ (m.flatMap slotKeys ++ chassisKeys) := by
    simp only [List.mem_append, hk, List.mem_flatMap, or_false, false_or, not_exists, not_and]
    intro j hj hmem
    have hji : i.val = j.val := by
      simp only [slotKeys, List.mem_cons, Prod.mk.injEq, List.not_mem_nil, or_false] at hmem
      omega
    exact (List.nodup_cons.1 him).1 (Fin.ext hji ▸ hj)
  have hf := hkey .supplyFault (by simp [chassisKeys])
  have ha := hkey .supplyAbsent (by simp [chassisKeys])
  have hroom (h8 : s.chassis.alm.entries.length + 8 ≤ 64) : w.chassis.alm.entries.length < 64 := by
    have := htl.length_le hok
    simp only [List.length_append, chassisKeys, List.length_cons, List.length_nil] at this
    omega
  refine ⟨fun hv h8 => (hrest.stands_iff hf).2 ?_, fun hv => (hrest.ended_iff hf).2 ?_,
    fun hv h8 => (hrest.stands_iff ha).2 ?_, fun hv => (hrest.ended_iff ha).2 ?_⟩
  · exact (hwok.slotTakes_stands _ _ _ (hroom h8)).1 hv
  · exact (hwok.slotTakes_ended _ _ _).1 hv
  · exact (hwok.slotTakes_stands _ _ _ (hroom h8)).2 hv
  · exact (hwok.slotTakes_ended _ _ _).2 hv

/-- Settles O48: a run of samples over the four slots, then settlement. -/
theorem supplySampleMovesSlots : Obligations.SupplySampleMovesSlots := by
  intro s a b hr
  let s1 : State :=
    { s with clockMs := max s.clockMs s.env.sampleDue, env := { s.env with sampleDue := s.env.sampleDue + 100 } }
  let u := (List.finRange 4).foldl (State.sampleSlot a b) s1
  have hu : s1.Sampled a b (List.finRange 4) u := State.foldl_sampled a b _ s1 (List.nodup_finRange 4)
  obtain ⟨v, c, hv⟩ := hu.same
  obtain ⟨vi, hin⟩ := hu.inputs
  obtain ⟨d, hd, hdin, hdt⟩ := u.handSettled_frame
  obtain ⟨t, ht, hb⟩ := State.event_blocks (State.supplySample a b) s hr
  have hs : s.supplySample a b = { u with chassis := d } := hd
  rw [hs] at hb
  have henv : t.env = u.env := congrArg Blocks.env hb
  have hpwr : t.chassis.pwr = d.pwr := congrArg Blocks.pwr hb
  refine ⟨t, ht, ?_, ?_, ?_, fun i => ?slot, ?settled, ?_, ?_, ?_⟩
  case slot =>
    intro reads old new
    have hreads : slotReads a b i = reads := by
      simp only [slotReads, reads]
      cases a.getLsbD i.val <;> cases b.getLsbD i.val <;> rfl
    have hnew : new = old.sample reads := by
      rw [← hreads]
      show t.env.slots[i.val] = _
      rw [henv, hu.slot i, if_pos (List.mem_finRange i)]
    obtain ⟨h1, h2, h3, h4⟩ := old.sample_cases reads
    rw [hnew]
    refine ⟨h1, h2, h3, h4, ?_, fun hne hok => ?alarms⟩
    · rw [hpwr, hdin]
      refine (hu.told i).trans ?_
      have : u.env.slots[i.val] = old.sample reads := by rw [← henv]; exact hnew
      rw [this]
    case alarms =>
      have hafter : s1.slotAfter a b i = old.sample reads := by rw [← hreads]; rfl
      have hall := State.sampled_alarms (s := s1) (a := a) (b := b) (by exact hok) i (by rw [hafter]; exact hne)
      rw [hafter] at hall
      obtain ⟨hf, hfe, ha, hae⟩ := hall
      have kf : (AlarmKind.supplyFault, i.val) ∉ chassisKeys := by simp [chassisKeys]
      have ka : (AlarmKind.supplyAbsent, i.val) ∉ chassisKeys := by simp [chassisKeys]
      refine ⟨fun hv h8 => ?_, fun hv => ?_, fun hv h8 => ?_, fun hv => ?_⟩
      · exact (stands_of_blocks hb (by decide) _).1.2 ((hdt.stands_iff kf).2 (hf hv h8))
      · exact (stands_of_blocks hb (by decide) _).2.2 ((hdt.ended_iff kf).2 (hfe hv))
      · exact (stands_of_blocks hb (by decide) _).1.2 ((hdt.stands_iff ka).2 (ha hv h8))
      · exact (stands_of_blocks hb (by decide) _).2.2 ((hdt.ended_iff ka).2 (hae hv))
  case settled =>
    rw [hpwr, hdin, hin, henv, ← Env.settled_iff, Bool.or_eq_true]
  · exact (congrArg Blocks.clockMs hb).trans (congrArg State.clockMs hv)
  · exact (congrArg Env.sampleDue henv).trans (congrArg (fun x : State => x.env.sampleDue) hv)
  · have he : u.env = { s.env with slots := v, sampleDue := s.env.sampleDue + 100 } := congrArg State.env hv
    rw [henv, he]
  · have hx := congrArg State.cfg hv
    exact (congrArg Blocks.cfg hb).trans hx
  · have hx := congrArg State.fan hv
    exact (congrArg Blocks.fan hb).trans hx
  · have hx := congrArg State.zone hv
    exact (congrArg Blocks.zone hb).trans hx

end Sys2Proof.Machine

/-! # The round end: trust, readings, conditions and duty -/

namespace Sys2Proof.Machine

/-! ## Alarms by a condition -/

/-- A condition that begins has its alarm stand where there is room; one that ends has it ended. -/
def Alm.JudgedAs (b : Alm) (k : AlarmKind) (n : Nat) (room : Prop) (u v : Bool) : Prop :=
  (u = false → v = true → room → b.Stands k n) ∧ (u = true → v = false → b.Ended k n)

theorem Alm.Ok.judge_judgedAs {a : Alm} (h : a.Ok) (x : Ctx) (k : AlarmKind) (n : Nat) (u v : Bool) {room : Prop}
    (hr : room → a.entries.length < 64) : (a.judge x k n u v).JudgedAs k n room u v := by
  refine ⟨fun hu hv hroom => ?_, fun hu hv => ?_⟩
  · subst hu hv; exact Alm.raise_stands (hr hroom)
  · subst hu hv; exact h.clear_ended x k n

theorem Alm.Touch.judgedAs {ks gs : List (AlarmKind × Nat)} {a b : Alm} (h : Alm.Touch ks gs a b) {k : AlarmKind}
    {n : Nat} (hk : (k, n) ∉ ks) {room : Prop} {u v : Bool} (ha : a.JudgedAs k n room u v) : b.JudgedAs k n room u v :=
  ⟨fun hu hv hr => (h.stands_iff hk).2 (ha.1 hu hv hr), fun hu hv => (h.ended_iff hk).2 (ha.2 hu hv)⟩

theorem Alm.judgedAs_same {b : Alm} {k : AlarmKind} {n : Nat} {room : Prop} (u : Bool) : b.JudgedAs k n room u u :=
  ⟨fun hu hv => absurd (hu.symm.trans hv) (by decide), fun hu hv => absurd (hu.symm.trans hv) (by decide)⟩

/-! ## Sensor Trust Lost (R110) -/

/-- R110: what a move of the trust state asks of the alarm unit. -/
def Alm.trustTurn (x : Ctx) (old new : Trust) (a : Alm) : Alm :=
  if old = new then a
  else if new = .lost then a.raise x .sensorTrustLost 0
  else if new = .trusted ∨ old = .lost then a.clear x .sensorTrustLost 0
  else a

theorem State.trustAlarm_eq (old new : Trust) (s : State) :
    s.trustAlarm old new = { s with chassis := { s.chassis with alm := s.chassis.alm.trustTurn s.ctx old new } } := by
  unfold State.trustAlarm Alm.trustTurn
  split
  · rfl
  · cases new with
    | lost => rfl
    | trusted => rfl
    | unproven => cases old <;> rfl

theorem Alm.trustTurn_touch (x : Ctx) (old new : Trust) (a : Alm) :
    Alm.Touch [(.sensorTrustLost, 0)] [(.sensorTrustLost, 0)] a (a.trustTurn x old new) := by
  unfold Alm.trustTurn
  split
  · exact .refl ..
  split
  · exact .raise ..
  split
  · exact (Alm.Touch.clear x .sensorTrustLost 0 a).mono (List.Subset.refl _) (List.nil_subset _)
  · exact .refl ..

theorem Alm.trustTurn_lost {x : Ctx} {old : Trust} {a : Alm} (h : old ≠ .lost) (hr : a.entries.length < 64) :
    (a.trustTurn x old .lost).Stands .sensorTrustLost 0 := by
  rw [Alm.trustTurn, if_neg h, if_pos rfl]
  exact Alm.raise_stands hr

theorem Alm.Ok.trustTurn_ended {x : Ctx} {old new : Trust} {a : Alm} (ha : a.Ok) (h : old ≠ new) (hn : new ≠ .lost)
    (ho : new = .trusted ∨ old = .lost) : (a.trustTurn x old new).Ended .sensorTrustLost 0 := by
  rw [Alm.trustTurn, if_neg h, if_neg hn, if_pos ho]
  exact ha.clear_ended x _ _

theorem Alm.trustTurn_trusted_unproven (x : Ctx) (a : Alm) : a.trustTurn x .trusted .unproven = a := rfl

/-- R109, R127: the trust state with its counts, the duties where it leaves Trusted, and its alarm. -/
theorem State.setTrust_eq (d : Trust) (m n : Nat) (s : State) :
    s.setTrust d m n = { s with
      env := { s.env with trust := d, fails := m, passes := n }
      fan := if s.env.trust = .trusted ∧ d ≠ .trusted then s.fan.full else s.fan
      chassis := { s.chassis with alm := s.chassis.alm.trustTurn s.ctx s.env.trust d } } := by
  unfold State.setTrust
  dsimp only
  rw [State.trustAlarm_eq]
  rfl

/-- R106, R110, R127: the entry to Off, with its alarm. -/
theorem State.enterOff_eq (s : State) :
    s.enterOff = { s with
      env := { s.env with
        scanner := .off, turnOff := false, conv := none, readNow := none, trust := .unproven, fails := 0, passes := 0 }
      fan := if s.env.trust = .trusted then s.fan.full else s.fan
      chassis := { s.chassis with alm := s.chassis.alm.trustTurn s.ctx s.env.trust .unproven } } := by
  refine (State.setTrust_eq .unproven 0 0
    { s with env := { s.env with scanner := .off, turnOff := false, conv := none, readNow := none } }).trans ?_
  simp [State.ctx]

/-! ## Taking readings (R108 step 3) -/

section Readings

/-- The value of an enabled channel that has one. -/
def ChanCfg.reading (c : ChanCfg) (w : ChanVol) : Option Int :=
  if c.enabled then w.raw.map (judgedValue c.kind c.divider) else none

/-- R111, R112: a channel, judged by its value. -/
def ChanCfg.judged (c : ChanCfg) (w : ChanVol) : ChanVol :=
  match c.reading w with
  | none => w
  | some v => { w with hi := c.hiAfter v w.hi, lo := c.loAfter v w.lo, emergency := c.emergencyAfter v w.emergency }

/-- R108 step 3: the code a channel has after the readings of a round. -/
def Settings.rawAfter (c : Settings) (held : List (Taken × RawCode)) (i : ChanId) (w : ChanVol) : Option RawCode :=
  match held.find? (fun e => e.1.chan == i) with
  | some e => if e.1.admitted c then some e.2 else w.raw
  | none => w.raw

theorem State.reading?_eq (s : State) (i : ChanId) : s.reading? i = (s.cfg.channel i).reading (s.env.chan i) := rfl

theorem ChanCfg.judged_raw (c : ChanCfg) (w : ChanVol) : (c.judged w).raw = w.raw := by
  unfold ChanCfg.judged
  split <;> rfl

theorem ChanCfg.reading_judged (c : ChanCfg) (w : ChanVol) : c.reading (c.judged w) = c.reading w := by
  rw [ChanCfg.reading, ChanCfg.judged_raw, ChanCfg.reading]

theorem ChanCfg.judged_of_none {c : ChanCfg} {w : ChanVol} (h : c.reading w = none) : c.judged w = w := by
  rw [ChanCfg.judged, h]

theorem ChanCfg.judged_of_some {c : ChanCfg} {w : ChanVol} {v : Int} (h : c.reading w = some v) :
    c.judged w =
      { w with hi := c.hiAfter v w.hi, lo := c.loAfter v w.lo, emergency := c.emergencyAfter v w.emergency } := by
  rw [ChanCfg.judged, h]

theorem ChanCfg.hiAfter_eq (c : ChanCfg) (v : Int) (b : Bool) : c.hiAfter v b =
    (c.hiEnable && (decide (c.hiLimit < v) || (b && decide (c.hiLimit - (c.hysteresis : Int) ≤ v)))) := by
  unfold ChanCfg.hiAfter
  cases c.hiEnable
  · rfl
  · by_cases h1 : c.hiLimit < v
    · simp [h1]
    · by_cases h2 : v < c.hiLimit - (c.hysteresis : Int)
      · simp [h1, h2, Int.not_le.2 h2]
      · simp [h1, h2, Int.not_lt.1 h2]

theorem ChanCfg.loAfter_eq (c : ChanCfg) (v : Int) (b : Bool) : c.loAfter v b =
    (c.loEnable && (decide (v < c.loLimit) || (b && decide (v ≤ c.loLimit + (c.hysteresis : Int))))) := by
  unfold ChanCfg.loAfter
  cases c.loEnable
  · rfl
  · by_cases h1 : v < c.loLimit
    · simp [h1]
    · by_cases h2 : c.loLimit + (c.hysteresis : Int) < v
      · simp [h1, h2, Int.not_le.2 h2]
      · simp [h1, h2, Int.not_lt.1 h2]

theorem ChanCfg.emergencyAfter_eq (c : ChanCfg) (v : Int) (b : Bool) : c.emergencyAfter v b =
    (if c.role = .critical then decide (c.critical < v) || (b && decide (c.critical - (c.hysteresis : Int) ≤ v))
     else b) := by
  unfold ChanCfg.emergencyAfter
  by_cases h : c.role = .critical
  · by_cases h1 : c.critical < v
    · simp [h, h1]
    · by_cases h2 : v < c.critical - (c.hysteresis : Int)
      · simp [h, h1, h2, Int.not_le.2 h2]
      · simp [h, h1, h2, Int.not_lt.1 h2]
  · simp [h]

theorem Env.chan_setChan (e : Env) (i j : ChanId) (w : ChanVol) :
    (e.setChan i w).chan j = if j = i then w else e.chan j :=
  Vector.getElem_set_fin e.chans i j w

/-- R108 step 3: readings change the codes of channels alone. -/
theorem State.takeReading_frame (s : State) (e : Taken × RawCode) :
    ∃ v, s.takeReading e = { s with env := { s.env with chans := v } } := by
  unfold State.takeReading
  split
  · exact ⟨_, rfl⟩
  · exact ⟨s.env.chans, rfl⟩

theorem State.takeReading_chan (s : State) (e : Taken × RawCode) (i : ChanId) :
    (s.takeReading e).env.chan i =
      if i = e.1.chan ∧ e.1.admitted s.cfg = true then { s.env.chan i with raw := some e.2 } else s.env.chan i := by
  by_cases ha : e.1.admitted s.cfg = true
  · rw [State.takeReading, if_pos ha]
    by_cases hi : i = e.1.chan
    · subst hi; simp [Env.chan_setChan, ha]
    · simp [Env.chan_setChan, hi]
  · rw [State.takeReading, if_neg ha, if_neg fun h => ha h.2]

theorem State.foldl_takeReading_frame : ∀ (held : List (Taken × RawCode)) (s : State),
    ∃ v, held.foldl State.takeReading s = { s with env := { s.env with chans := v } }
  | [], s => ⟨s.env.chans, rfl⟩
  | e :: held, s => by
    obtain ⟨w, hw⟩ := s.takeReading_frame e
    obtain ⟨v, hv⟩ := State.foldl_takeReading_frame held (s.takeReading e)
    exact ⟨v, by rw [List.foldl_cons, hv, hw]⟩

theorem Settings.rawAfter_cons_ne {c : Settings} {e : Taken × RawCode} {held : List (Taken × RawCode)} {i : ChanId}
    (w : ChanVol) (h : i ≠ e.1.chan) : c.rawAfter (e :: held) i w = c.rawAfter held i w := by
  rw [Settings.rawAfter, List.find?_cons_of_neg (by simpa using Ne.symm h), Settings.rawAfter]

/-- R108 step 3: the readings of a round, whose channels are all different. -/
theorem State.foldl_takeReading_chan : ∀ (held : List (Taken × RawCode)) (s : State),
    (held.map (fun e => e.1.chan)).Nodup → ∀ i : ChanId,
      (held.foldl State.takeReading s).env.chan i =
        { s.env.chan i with raw := s.cfg.rawAfter held i (s.env.chan i) }
  | [], _, _, _ => rfl
  | e :: held, s, h, i => by
    rw [List.map_cons, List.nodup_cons] at h
    obtain ⟨w, hw⟩ := s.takeReading_frame e
    have hcfg : (s.takeReading e).cfg = s.cfg := by rw [hw]
    rw [List.foldl_cons, State.foldl_takeReading_chan held _ h.2 i, hcfg, s.takeReading_chan e i]
    by_cases hi : i = e.1.chan
    · subst hi
      have hlast : held.find? (fun f => f.1.chan == e.1.chan) = none :=
        List.find?_eq_none.2 fun f hf hfe => h.1 (List.mem_map.2 ⟨f, hf, by simpa using hfe⟩)
      have hfirst : (e :: held).find? (fun f => f.1.chan == e.1.chan) = some e :=
        List.find?_cons_of_pos (by simp)
      by_cases ha : e.1.admitted s.cfg = true
      · simp [Settings.rawAfter, hlast, hfirst, ha]
      · simp [Settings.rawAfter, hlast, hfirst, ha]
    · rw [if_neg fun h => hi h.1, Settings.rawAfter_cons_ne _ hi]

end Readings

/-! ## Judging the channels (R108 step 4) -/

section Judging

/-- The keys of a channel's alarms. -/
def Settings.chanKeys (c : Settings) (i : ChanId) : List (AlarmKind × Nat) :=
  [((c.channel i).kind.hiAlarm, i.val), ((c.channel i).kind.loAlarm, i.val), (.thermalEmergency, i.val)]

theorem ChanKind.hiAlarm_eq (k : ChanKind) :
    (if k = .temperature then AlarmKind.overTemperature else .overVoltage) = k.hiAlarm := by
  cases k <;> rfl

theorem ChanKind.loAlarm_eq (k : ChanKind) :
    (if k = .temperature then AlarmKind.underTemperature else .underVoltage) = k.loAlarm := by
  cases k <;> rfl

/-- What a judgement of a channel asks of the alarm unit. -/
def Alm.judgeChan (x : Ctx) (k : ChanKind) (i : ChanId) (w w' : ChanVol) (a : Alm) : Alm :=
  ((a.judge x k.hiAlarm i.val w.hi w'.hi).judge x k.loAlarm i.val w.lo w'.lo).judge x .thermalEmergency i.val
    w.emergency w'.emergency

/-- The alarms of a channel follow its conditions. -/
def Alm.ChanJudged (b : Alm) (c : Settings) (i : ChanId) (room : Prop) (w w' : ChanVol) : Prop :=
  b.JudgedAs (c.channel i).kind.hiAlarm i.val room w.hi w'.hi ∧
  b.JudgedAs (c.channel i).kind.loAlarm i.val room w.lo w'.lo ∧
  b.JudgedAs .thermalEmergency i.val room w.emergency w'.emergency

theorem Alm.judge_same (x : Ctx) (k : AlarmKind) (n : Nat) (u : Bool) (a : Alm) : a.judge x k n u u = a := by
  cases u <;> rfl

theorem Alm.judgeChan_same (x : Ctx) (k : ChanKind) (i : ChanId) (w : ChanVol) (a : Alm) :
    a.judgeChan x k i w w = a := by
  simp only [Alm.judgeChan, Alm.judge_same]

theorem Alm.chanJudged_same (b : Alm) (c : Settings) (i : ChanId) (room : Prop) (w : ChanVol) :
    b.ChanJudged c i room w w := ⟨Alm.judgedAs_same _, Alm.judgedAs_same _, Alm.judgedAs_same _⟩

theorem Alm.judgeChan_touch (x : Ctx) (c : Settings) (i : ChanId) (w w' : ChanVol) (a : Alm) :
    Alm.Touch (c.chanKeys i) (c.chanKeys i) a (a.judgeChan x (c.channel i).kind i w w') :=
  ((Alm.Touch.judge ..).append (Alm.Touch.judge ..)).append (Alm.Touch.judge ..)

theorem Alm.Touch.chanJudged {ks gs : List (AlarmKind × Nat)} {a b : Alm} (h : Alm.Touch ks gs a b) {c : Settings}
    {i : ChanId} (hk : ∀ key ∈ c.chanKeys i, key ∉ ks) {room : Prop} {w w' : ChanVol}
    (ha : a.ChanJudged c i room w w') : b.ChanJudged c i room w w' :=
  ⟨h.judgedAs (hk _ (by simp [Settings.chanKeys])) ha.1, h.judgedAs (hk _ (by simp [Settings.chanKeys])) ha.2.1,
    h.judgedAs (hk _ (by simp [Settings.chanKeys])) ha.2.2⟩

theorem Alm.Ok.judgeChan_judged {a : Alm} (ha : a.Ok) (x : Ctx) (c : Settings) (i : ChanId) (w w' : ChanVol)
    {room : Prop} (hr : room → a.entries.length + 3 ≤ 64) :
    (a.judgeChan x (c.channel i).kind i w w').ChanJudged c i room w w' := by
  have h1 := Alm.Touch.judge x (c.channel i).kind.hiAlarm i.val w.hi w'.hi a
  have h2 := Alm.Touch.judge x (c.channel i).kind.loAlarm i.val w.lo w'.lo
    (a.judge x (c.channel i).kind.hiAlarm i.val w.hi w'.hi)
  have h3 := Alm.Touch.judge x .thermalEmergency i.val w.emergency w'.emergency
    ((a.judge x (c.channel i).kind.hiAlarm i.val w.hi w'.hi).judge x (c.channel i).kind.loAlarm i.val w.lo w'.lo)
  have l1 := h1.length_le ha
  have l2 := h2.length_le (h1.ok ha)
  simp only [List.length_cons, List.length_nil] at l1 l2
  have kinds : (c.channel i).kind.hiAlarm ≠ (c.channel i).kind.loAlarm ∧
      (c.channel i).kind.hiAlarm ≠ .thermalEmergency ∧ (c.channel i).kind.loAlarm ≠ .thermalEmergency := by
    cases (c.channel i).kind <;> decide
  obtain ⟨hl, he, le⟩ := kinds
  refine ⟨h3.judgedAs (by simp [he]) (h2.judgedAs (by simp [hl]) (ha.judge_judgedAs _ _ _ _ _ fun h => ?_)),
    h3.judgedAs (by simp [le]) ((h1.ok ha).judge_judgedAs _ _ _ _ _ fun h => ?_),
    (h2.ok (h1.ok ha)).judge_judgedAs _ _ _ _ _ fun h => ?_⟩
  all_goals
    have := hr h
    omega

theorem State.judgeChannel_eq (s : State) (i : ChanId) :
    s.judgeChannel i = { s with
      env := s.env.setChan i ((s.cfg.channel i).judged (s.env.chan i))
      chassis := { s.chassis with
        alm := s.chassis.alm.judgeChan s.ctx (s.cfg.channel i).kind i (s.env.chan i)
          ((s.cfg.channel i).judged (s.env.chan i)) } } := by
  unfold State.judgeChannel
  rw [s.reading?_eq i]
  cases h : (s.cfg.channel i).reading (s.env.chan i) with
  | none =>
    have hset : s.env.setChan i (s.env.chan i) = s.env := by
      simp [Env.setChan, Env.chan, Vector.set_getElem_self]
    rw [ChanCfg.judged_of_none h, Alm.judgeChan_same, hset]
  | some v =>
    rw [ChanCfg.judged_of_some h]
    rfl

/-- A state after the channels of a list have been judged. -/
structure State.Judged (l : List ChanId) (s u : State) : Prop where
  same : ∃ v a, u = { s with env := { s.env with chans := v }, chassis := { s.chassis with alm := a } }
  chan : ∀ i : ChanId, u.env.chan i =
    if i ∈ l then (s.cfg.channel i).judged (s.env.chan i) else s.env.chan i
  touch : Alm.Touch (l.flatMap s.cfg.chanKeys) (l.flatMap s.cfg.chanKeys) s.chassis.alm u.chassis.alm

theorem State.Judged.nil (s : State) : State.Judged [] s s :=
  ⟨⟨_, _, rfl⟩, fun _ => rfl, .refl ..⟩

theorem State.judgeChannel_judged (s : State) (i : ChanId) : State.Judged [i] s (s.judgeChannel i) := by
  rw [s.judgeChannel_eq i]
  refine ⟨⟨_, _, rfl⟩, fun j => ?_, ?_⟩
  · by_cases hj : j = i
    · subst hj; simp [Env.chan_setChan]
    · simp [Env.chan_setChan, hj]
  · simpa using Alm.judgeChan_touch ..

theorem State.Judged.append {l m : List ChanId} {s u w : State} (h : State.Judged l s u) (h' : State.Judged m u w)
    (hd : ∀ i ∈ l, i ∉ m) : State.Judged (l ++ m) s w := by
  obtain ⟨v, a, hv⟩ := h.same
  obtain ⟨v', a', hv'⟩ := h'.same
  have hcfg : u.cfg = s.cfg := by rw [hv]
  refine ⟨⟨v', a', by rw [hv', hv]⟩, fun i => ?_, ?_⟩
  · rw [h'.chan i, h.chan i, hcfg]
    by_cases hl : i ∈ l
    · simp [hl, hd i hl]
    · simp [hl]
  · have ht := h'.touch
    rw [hcfg] at ht
    rw [List.flatMap_append]
    exact h.touch.append ht

theorem State.foldl_judged : ∀ (l : List ChanId) (s : State), l.Nodup →
    State.Judged l s (l.foldl State.judgeChannel s)
  | [], s, _ => .nil s
  | i :: l, s, h => by
    rw [List.nodup_cons] at h
    exact (s.judgeChannel_judged i).append (State.foldl_judged l _ h.2) (by simpa using h.1)

theorem Settings.length_flatMap_chanKeys (c : Settings) (l : List ChanId) :
    (l.flatMap c.chanKeys).length = 3 * l.length := by
  induction l with
  | nil => rfl
  | cons i l ih =>
    rw [List.flatMap_cons, List.length_append, ih, List.length_cons]
    simp only [Settings.chanKeys, List.length_cons, List.length_nil]
    omega

theorem Settings.subject_of_chanKeys {c : Settings} {i : ChanId} {key : AlarmKind × Nat} (h : key ∈ c.chanKeys i) :
    key.2 = i.val := by
  simp only [Settings.chanKeys, List.mem_cons, List.not_mem_nil, or_false] at h
  rcases h with h | h | h <;> rw [h]

/-- R111, R112: the alarms of the sixteen channels after they have been judged one after another. -/
theorem State.foldl_chanJudged {s : State} (ha : s.chassis.alm.Ok) (i : ChanId) :
    (allChans.foldl State.judgeChannel s).chassis.alm.ChanJudged s.cfg i (s.chassis.alm.entries.length + 48 ≤ 64)
      (s.env.chan i) ((s.cfg.channel i).judged (s.env.chan i)) := by
  obtain ⟨l, m, hlm⟩ := List.append_of_mem (List.mem_finRange i)
  have hnd : (l ++ i :: m).Nodup := hlm ▸ List.nodup_finRange 16
  have hlen : l.length ≤ 15 := by
    have := congrArg List.length hlm
    simp only [List.length_finRange, List.length_append, List.length_cons] at this
    omega
  obtain ⟨hl, him, hdis⟩ := List.nodup_append.1 hnd
  have hjl := State.foldl_judged l s hl
  have hfold : allChans.foldl State.judgeChannel s =
      m.foldl State.judgeChannel ((l.foldl State.judgeChannel s).judgeChannel i) := by
    show (List.finRange 16).foldl _ s = _
    rw [hlm, List.foldl_append, List.foldl_cons]
  rw [hfold]
  generalize l.foldl State.judgeChannel s = w at *
  have hjm := State.foldl_judged m (w.judgeChannel i) (List.nodup_cons.1 him).2
  have hchan : w.env.chan i = s.env.chan i := by
    rw [hjl.chan i, if_neg fun hi => hdis i hi i (List.mem_cons_self) rfl]
  obtain ⟨v, a, hv⟩ := hjl.same
  have hcfg : w.cfg = s.cfg := by rw [hv]
  have hcfg' : (w.judgeChannel i).cfg = s.cfg := by rw [w.judgeChannel_eq i]; exact hcfg
  have hroom (h : s.chassis.alm.entries.length + 48 ≤ 64) : w.chassis.alm.entries.length + 3 ≤ 64 := by
    have := hjl.touch.length_le ha
    rw [Settings.length_flatMap_chanKeys] at this
    omega
  have hnow : (w.judgeChannel i).chassis.alm.ChanJudged s.cfg i (s.chassis.alm.entries.length + 48 ≤ 64)
      (s.env.chan i) ((s.cfg.channel i).judged (s.env.chan i)) := by
    rw [w.judgeChannel_eq i, hchan, hcfg]
    exact (hjl.touch.ok ha).judgeChan_judged _ _ _ _ _ hroom
  refine hjm.touch.chanJudged (fun key hk hkm => ?_) hnow
  rw [hcfg'] at hkm
  obtain ⟨j, hj, hkj⟩ := List.mem_flatMap.1 hkm
  have hij : i = j := Fin.ext ((Settings.subject_of_chanKeys hk).symm.trans (Settings.subject_of_chanKeys hkj))
  exact (List.nodup_cons.1 him).1 (hij ▸ hj)

end Judging

/-! ## The round end, in its parts (R108) -/

section RoundEnd

theorem Env.thermalNow_iff (e : Env) : e.thermalNow = true ↔ ∃ i : ChanId, (e.chan i).emergency = true := by
  unfold Env.thermalNow
  rw [List.any_eq_true]
  constructor
  · rintro ⟨w, hw, he⟩
    obtain ⟨n, hn, rfl⟩ := Vector.getElem_of_mem (Vector.mem_toList_iff.1 hw)
    exact ⟨⟨n, hn⟩, he⟩
  · rintro ⟨i, hi⟩
    exact ⟨e.chan i, by simp [Env.chan], hi⟩

/-- The keys of the sixteen channels' alarms. -/
def Settings.allChanKeys (c : Settings) : List (AlarmKind × Nat) := allChans.flatMap c.chanKeys

/-- R108 steps 3 and 4: channels, thermal state, duties and alarms between `s` and `u`. -/
structure State.ReadingsTaken (held : List (Taken × RawCode)) (s u : State) : Prop where
  same : ∃ v th f a, u = { s with
    env := { s.env with chans := v, thermal := th }, fan := f, chassis := { s.chassis with alm := a } }
  thermal : u.env.thermal = true ↔ ∃ i : ChanId, (u.env.chan i).emergency = true
  fan : u.fan = s.fan ∨ (u.fan = s.fan.full ∧ u.env.thermal = true)
  touch : Alm.Touch s.cfg.allChanKeys s.cfg.allChanKeys s.chassis.alm u.chassis.alm
  chan : (held.map (fun e => e.1.chan)).Nodup → ∀ i : ChanId,
    u.env.chan i =
      (s.cfg.channel i).judged { s.env.chan i with raw := s.cfg.rawAfter held i (s.env.chan i) }
  alarms : (held.map (fun e => e.1.chan)).Nodup → s.chassis.alm.Ok → ∀ i : ChanId,
    u.chassis.alm.ChanJudged s.cfg i (s.chassis.alm.entries.length + 48 ≤ 64) (s.env.chan i) (u.env.chan i)

theorem State.takeReadings_taken (held : List (Taken × RawCode)) (s : State) :
    s.ReadingsTaken held (s.takeReadings held) := by
  obtain ⟨v, hv⟩ := State.foldl_takeReading_frame held s
  have hraw := State.foldl_takeReading_chan held s
  unfold State.takeReadings
  generalize held.foldl State.takeReading s = r at *
  have hj := State.foldl_judged allChans r (List.nodup_finRange 16)
  have hal := State.foldl_chanJudged (s := r)
  generalize allChans.foldl State.judgeChannel r = u at *
  obtain ⟨w, a, hw⟩ := hj.same
  have hcfg : r.cfg = s.cfg := by rw [hv]
  have halm : r.chassis.alm = s.chassis.alm := by rw [hv]
  have hfan : u.fan = s.fan := by rw [hw, hv]
  have htouch := hj.touch
  rw [hcfg, halm] at htouch hal
  have hchan (hnd : (held.map (fun e => e.1.chan)).Nodup) (i : ChanId) : u.env.chan i =
      (s.cfg.channel i).judged { s.env.chan i with raw := s.cfg.rawAfter held i (s.env.chan i) } := by
    rw [hj.chan i, if_pos (show i ∈ allChans from List.mem_finRange i), hraw hnd i, hcfg]
  refine ⟨⟨w, u.env.thermalNow, _, a, by rw [hw, hv]; rfl⟩, u.env.thermalNow_iff, ?_, htouch, hchan, fun hnd ha i => ?_⟩
  · show (if _ then _ else _) = s.fan ∨ (if _ then _ else _) = _ ∧ u.env.thermalNow = true
    rw [hfan]
    split
    · rename_i h
      exact .inr ⟨rfl, (Bool.and_eq_true_iff.1 h).1⟩
    · exact .inl rfl
  · have hold : (r.env.chan i).hi = (s.env.chan i).hi ∧ (r.env.chan i).lo = (s.env.chan i).lo ∧
        (r.env.chan i).emergency = (s.env.chan i).emergency := by rw [hraw hnd i]; exact ⟨rfl, rfl, rfl⟩
    have h := hal ha i
    rw [show (s.cfg.channel i).judged (r.env.chan i) = u.env.chan i by rw [hchan hnd i, hraw hnd i]] at h
    obtain ⟨h1, h2, h3⟩ := h
    rw [hold.1] at h1
    rw [hold.2.1] at h2
    rw [hold.2.2] at h3
    exact ⟨h1, h2, h3⟩

/-- The reading of the round end: carry, trust, the readings of a passed round, the inlet. -/
def State.roundRead (code : RawCode) (due : Nat) (r : Round) (s : State) : State :=
  let passed := refPasses s.cfg.scanner.tolerance code
  let t := moveTrust s.env.trust s.env.fails s.env.passes passed
  let u := State.setTrust t.1 t.2.1 t.2.2 { s.carry due with env := { s.env with refCode := some code } }
  State.judgeInlet (if passed && t.1 == .trusted then u.takeReadings r.held else u)

theorem State.roundEnd_of_reference {s : State} {due : Nat} {r : Round} (hc : s.env.conv = some (.reference, due))
    (hs : s.env.scanner = .converting r) (code : RawCode) : ∃ moved,
    s.roundEnd code = ((s.roundRead code due r).computeDuty.afterRound).tellPwr moved := by
  refine ⟨(moveTrust s.env.trust s.env.fails s.env.passes (refPasses s.cfg.scanner.tolerance code)).1 != s.env.trust, ?_⟩
  unfold State.roundEnd
  rw [hc, hs]
  rfl

/-- What the reading of a round end leaves, under the trust state `d` and its counts `m`, `n`. -/
structure State.RoundTaken (code : RawCode) (due : Nat) (r : Round) (d : Trust) (m n : Nat) (took : Prop)
    (s u : State) : Prop where
  same : ∃ v th il f a, u = { s with
    clockMs := max s.clockMs due
    env := { s.env with
      refCode := some code, trust := d, fails := m, passes := n, chans := v, thermal := th, inlet := il }
    fan := f
    chassis := { s.chassis with alm := a } }
  inlet : u.env.inlet = u.inletReading
  still : ¬ took → u.env.chans = s.env.chans ∧ u.env.thermal = s.env.thermal
  thermal : took → (u.env.thermal = true ↔ ∃ i : ChanId, (u.env.chan i).emergency = true)
  chan : took → (r.held.map (fun e => e.1.chan)).Nodup → ∀ i : ChanId,
    u.env.chan i =
      (s.cfg.channel i).judged { s.env.chan i with raw := s.cfg.rawAfter r.held i (s.env.chan i) }
  fan : u.fan = s.fan ∨ (u.fan = s.fan.full ∧ (d ≠ .trusted ∨ u.env.thermal = true))
  touch : Alm.Touch s.cfg.allChanKeys s.cfg.allChanKeys
    (s.chassis.alm.trustTurn (s.carry due).ctx s.env.trust d) u.chassis.alm
  alarms : (r.held.map (fun e => e.1.chan)).Nodup → s.chassis.alm.Ok → ∀ i : ChanId,
    u.chassis.alm.ChanJudged s.cfg i (s.chassis.alm.entries.length ≤ 10) (s.env.chan i) (u.env.chan i)

theorem State.roundRead_taken (code : RawCode) (due : Nat) (r : Round) (s : State) :
    let passed := refPasses s.cfg.scanner.tolerance code
    let t := moveTrust s.env.trust s.env.fails s.env.passes passed
    State.RoundTaken code due r t.1 t.2.1 t.2.2 (passed = true ∧ t.1 = .trusted) s (s.roundRead code due r) := by
  intro passed t
  let u := State.setTrust t.1 t.2.1 t.2.2 { s.carry due with env := { s.env with refCode := some code } }
  have hu : u = { s with
      clockMs := max s.clockMs due
      env := { s.env with refCode := some code, trust := t.1, fails := t.2.1, passes := t.2.2 }
      fan := if s.env.trust = .trusted ∧ t.1 ≠ .trusted then s.fan.full else s.fan
      chassis := { s.chassis with alm := s.chassis.alm.trustTurn (s.carry due).ctx s.env.trust t.1 } } :=
    State.setTrust_eq ..
  have hr : s.roundRead code due r =
      State.judgeInlet (if passed && t.1 == .trusted then u.takeReadings r.held else u) := rfl
  have hfan : u.fan = s.fan ∨ (u.fan = s.fan.full ∧ t.1 ≠ .trusted) := by
    rw [hu]
    dsimp only
    split
    · rename_i h; exact .inr ⟨rfl, h.2⟩
    · exact .inl rfl
  have hcfg : u.cfg = s.cfg := by rw [hu]
  have hchan (i : ChanId) : u.env.chan i = s.env.chan i := by rw [hu]; rfl
  have halm : u.chassis.alm = s.chassis.alm.trustTurn (s.carry due).ctx s.env.trust t.1 := by rw [hu]
  have hturn := s.chassis.alm.trustTurn_touch (s.carry due).ctx s.env.trust t.1
  rw [hr]
  clear_value u
  by_cases htook : passed = true ∧ t.1 = .trusted
  · have hb : (passed && t.1 == .trusted) = true := by simp [htook]
    rw [if_pos hb]
    have hT := u.takeReadings_taken r.held
    generalize u.takeReadings r.held = w at *
    obtain ⟨v, th, f, a, hw⟩ := hT.same
    refine ⟨⟨v, th, w.inletReading, f, a, ?_⟩, rfl, fun h => absurd htook h, fun _ => hT.thermal, fun _ hnd i => ?_, ?_, ?_, fun hnd ha i => ?_⟩
    · rw [hw, hu]; rfl
    · have h := hT.chan hnd i
      rw [hcfg, hchan i] at h
      exact h
    · rcases hfan with hf | ⟨-, hf⟩
      · rcases hT.fan with h | ⟨h, hth⟩
        · exact .inl (h.trans hf)
        · exact .inr ⟨by rw [← hf]; exact h, .inr hth⟩
      · exact absurd htook.2 hf
    · rw [← halm, ← hcfg]; exact hT.touch
    · have hlen := hturn.length_le ha
      rw [← halm] at hlen
      have hok : u.chassis.alm.Ok := by rw [halm]; exact hturn.ok ha
      have hal := hT.alarms hnd hok i
      rw [hcfg, hchan i] at hal
      have hroom (h : s.chassis.alm.entries.length ≤ 10) : u.chassis.alm.entries.length + 48 ≤ 64 := by
        simp only [List.length_cons, List.length_nil] at hlen
        omega
      exact ⟨⟨fun h1 h2 h3 => hal.1.1 h1 h2 (hroom h3), hal.1.2⟩,
        ⟨fun h1 h2 h3 => hal.2.1.1 h1 h2 (hroom h3), hal.2.1.2⟩,
        ⟨fun h1 h2 h3 => hal.2.2.1 h1 h2 (hroom h3), hal.2.2.2⟩⟩
  · have hb : ¬ (passed && t.1 == .trusted) = true := by simpa using htook
    rw [if_neg hb]
    refine ⟨⟨s.env.chans, s.env.thermal, u.inletReading, u.fan, u.chassis.alm, ?_⟩, rfl, fun _ => ?_, fun h => absurd h htook,
      fun h => absurd h htook, ?_, ?_, fun _ _ i => ?_⟩
    · rw [hu]; rfl
    · rw [hu]; exact ⟨rfl, rfl⟩
    · rcases hfan with hf | ⟨hf, ht⟩
      · exact .inl hf
      · exact .inr ⟨hf, .inl ht⟩
    · rw [← halm]; exact .refl ..
    · have : u.judgeInlet.env.chan i = s.env.chan i := hchan i
      rw [this]
      exact Alm.chanJudged_same ..

/-- R106: after a round end the scanner goes on where no turn-off waits. -/
theorem State.afterRound_of_on {s : State} (h : s.env.turnOff = false) : ∃ sc cv,
    s.afterRound = { s with env := { s.env with scanner := sc, conv := cv, readNow := none } } ∧
    (0 < s.cfg.scanner.restMs → sc = .resting (some (s.clockMs + s.cfg.scanner.restMs)) ∧
      cv = s.env.readNow.map (fun i => (.readNow (s.cfg.take i), s.clockMs + 10))) ∧
    (s.cfg.scanner.restMs = 0 → sc = .converting ⟨s.cfg.roundList, []⟩ ∧
      cv = some (match s.env.readNow with
        | some i => .readNow (s.cfg.take i)
        | none => if s.cfg.roundList = [] then .reference else .channel, s.clockMs + 10)) := by
  unfold State.afterRound
  rw [h, if_neg Bool.false_ne_true]
  by_cases hr : s.cfg.scanner.restMs = 0
  · rw [if_pos hr]
    cases hn : s.env.readNow with
    | none =>
      refine ⟨.converting ⟨s.cfg.roundList, []⟩,
        some (if s.cfg.roundList = [] then .reference else .channel, s.clockMs + 10), (s.startRound_of_none hn).trans ?_,
        fun h => absurd hr (Nat.ne_of_gt h), fun _ => ⟨rfl, rfl⟩⟩
      exact congrArg (fun o => { s with env := { s.env with
        scanner := .converting ⟨s.cfg.roundList, []⟩
        conv := some (if s.cfg.roundList = [] then .reference else .channel, s.clockMs + 10)
        readNow := o } }) hn
    | some i =>
      refine ⟨.converting ⟨s.cfg.roundList, []⟩, some (.readNow (s.cfg.take i), s.clockMs + 10), ?_,
        fun h => absurd hr (Nat.ne_of_gt h), fun _ => ⟨rfl, rfl⟩⟩
      exact State.nextConversion_of_readNow hn
  · rw [if_neg hr]
    cases hn : s.env.readNow with
    | none =>
      refine ⟨_, none, (State.nextConversion_of_still (by exact hn) (fun r hs => by cases hs)).trans ?_,
        fun _ => ⟨rfl, rfl⟩, fun h => absurd h hr⟩
      exact congrArg (fun o => { s with env := { s.env with
        scanner := .resting (some (s.clockMs + s.cfg.scanner.restMs)), conv := none, readNow := o } }) hn
    | some i =>
      refine ⟨_, _, ?_, fun _ => ⟨rfl, rfl⟩, fun h => absurd h hr⟩
      exact State.nextConversion_of_readNow hn

/-- R133: what PWR is told, with what the evaluation may ask of the alarm unit. -/
theorem State.tellPwr_told (moved : Bool) (s : State) : ∃ c,
    s.tellPwr moved = { s with chassis := c } ∧
      c.pwr.inputs =
        { s.chassis.pwr.inputs with trust := s.env.trust, thermal := s.env.thermal, inlet := s.env.inlet } ∧
      Alm.Touch chassisKeys chassisKeys s.chassis.alm c.alm := by
  unfold State.tellPwr
  dsimp only
  split
  · rename_i h
    simp only [Bool.and_eq_true, decide_eq_true_eq] at h
    exact ⟨s.chassis, rfl, h.1.symm, .refl ..⟩
  · exact ⟨_, rfl, Chassis.handPwr_inputs .., Chassis.handPwr_touch ..⟩

/-- What follows the duty computation at a round end. -/
structure State.RoundClosed (u w : State) : Prop where
  same : ∃ sc cv rn d m n o f c, w = { u with
    env := { u.env with
      scanner := sc, conv := cv, readNow := rn, trust := d, fails := m, passes := n, turnOff := o }
    fan := f
    chassis := c }
  told : w.chassis.pwr.inputs.trust = w.env.trust ∧ w.chassis.pwr.inputs.thermal = w.env.thermal ∧
    w.chassis.pwr.inputs.inlet = w.env.inlet
  off : u.env.turnOff = true → (w.env.scanner = .off ∧ w.env.conv = none ∧ w.env.trust = .unproven ∧
    w.env.fails = 0 ∧ w.env.passes = 0) ∧
    w.fan = (if u.env.trust = .trusted then u.computeDuty.fan.full else u.computeDuty.fan) ∧
    Alm.Touch chassisKeys chassisKeys (u.chassis.alm.trustTurn u.ctx u.env.trust .unproven) w.chassis.alm
  on : u.env.turnOff = false → (w.env.trust = u.env.trust ∧ w.env.fails = u.env.fails ∧ w.env.passes = u.env.passes ∧
    w.env.readNow = none) ∧
    w.fan = u.computeDuty.fan ∧ Alm.Touch chassisKeys chassisKeys u.chassis.alm w.chassis.alm ∧
    (0 < u.cfg.scanner.restMs → w.env.scanner = .resting (some (u.clockMs + u.cfg.scanner.restMs)) ∧
      w.env.conv = u.env.readNow.map (fun i => (.readNow (u.cfg.take i), u.clockMs + 10))) ∧
    (u.cfg.scanner.restMs = 0 → w.env.scanner = .converting ⟨u.cfg.roundList, []⟩ ∧
      w.env.conv = some (match u.env.readNow with
        | some i => .readNow (u.cfg.take i)
        | none => if u.cfg.roundList = [] then .reference else .channel, u.clockMs + 10))

theorem State.roundClosed (moved : Bool) (u : State) :
    State.RoundClosed u ((u.computeDuty.afterRound).tellPwr moved) := by
  cases ho : u.env.turnOff with
  | true =>
    have ha : u.computeDuty.afterRound = u.computeDuty.enterOff := if_pos ho
    rw [ha]
    obtain ⟨c, hc, hin, ht⟩ := u.computeDuty.enterOff.tellPwr_told moved
    have hoff := u.computeDuty.enterOff_eq
    rw [hc]
    rw [hoff] at hin ht ⊢
    refine ⟨⟨_, _, _, _, _, _, _, _, _, rfl⟩, ?_, fun _ => ⟨⟨rfl, rfl, rfl, rfl, rfl⟩, rfl, ht⟩,
      fun h => absurd h (by rw [ho]; decide)⟩
    rw [hin]
    exact ⟨rfl, rfl, rfl⟩
  | false =>
    obtain ⟨sc, cv, ha, hrest, hnow⟩ := State.afterRound_of_on (s := u.computeDuty) ho
    obtain ⟨c, hc, hin, ht⟩ := u.computeDuty.afterRound.tellPwr_told moved
    rw [hc]
    rw [ha] at hin ht ⊢
    refine ⟨⟨_, _, _, _, _, _, _, _, _, rfl⟩, ?_, fun h => absurd h (by rw [ho]; decide),
      fun _ => ⟨⟨rfl, rfl, rfl, rfl⟩, rfl, ht, hrest, hnow⟩⟩
    rw [hin]
    exact ⟨rfl, rfl, rfl⟩

theorem refPasses_iff (tol : Nat) (code : RawCode) :
    refPasses tol code = true ↔ 512 ≤ code.toNat + tol ∧ code.toNat ≤ 512 + tol := by
  simp [refPasses]

/-- R109: one failed round is counted, a second is the loss of trust. -/
theorem moveTrust_fail {o d : Trust} {f p m n : Nat} (ho : o ≠ .lost) (h : moveTrust o f p false = (d, m, n)) :
    if f = 0 then d = o ∧ m = 1 ∧ n = p else d = .lost ∧ m = 0 ∧ n = 0 := by
  by_cases hf : f = 0
  · rw [if_pos hf]
    cases o
    · simpa [moveTrust, hf, eq_comm] using h
    · simpa [moveTrust, hf, eq_comm] using h
    · exact absurd rfl ho
  · rw [if_neg hf]
    have h2 : 2 ≤ f + 1 := by omega
    cases o
    · simpa [moveTrust, h2, eq_comm] using h
    · simpa [moveTrust, h2, eq_comm] using h
    · exact absurd rfl ho

/-- R109: four rounds that pass in a row bring trust back. -/
theorem moveTrust_lost_pass {d : Trust} {f p m n : Nat} (h : moveTrust .lost f p true = (d, m, n)) :
    if p ≤ 2 then d = .lost ∧ m = f ∧ n = p + 1 else d = .trusted ∧ m = 0 ∧ n = 0 := by
  by_cases hp : p ≤ 2
  · have h4 : ¬ 4 ≤ p + 1 := by omega
    simpa [moveTrust, hp, h4, eq_comm] using h
  · have h4 : 4 ≤ p + 1 := by omega
    simpa [moveTrust, hp, h4, eq_comm] using h

theorem moveTrust_of_lost {m n : Nat} {b : Bool} :
    (moveTrust .lost m n b).1 = .lost ∨ (moveTrust .lost m n b).1 = .trusted := by
  cases b
  · exact .inl rfl
  · by_cases h : 4 ≤ n + 1
    · exact .inr (by simp [moveTrust, h])
    · exact .inl (by simp [moveTrust, h])

end RoundEnd

/-! ## The duty (R126 to R128) -/

section Duty

theorem mem_of_highest : ∀ {l : List Int} {e : Int}, highest l = some e → e ∈ l ∧ ∀ d ∈ l, d ≤ e
  | [], _, h => by cases h
  | a :: l, e, h => by
    unfold highest at h
    cases hl : highest l with
    | none =>
      rw [hl] at h
      obtain rfl : a = e := Option.some.inj h
      have hnil : l = [] := by
        cases l with
        | nil => rfl
        | cons b l =>
          exfalso
          unfold highest at hl
          split at hl <;> cases hl
      subst hnil
      simp
    | some b =>
      rw [hl] at h
      obtain rfl : max a b = e := Option.some.inj h
      obtain ⟨hb, hle⟩ := mem_of_highest hl
      refine ⟨?_, fun d hd => ?_⟩
      · rcases max_choice a b with h | h
        · rw [h]; exact List.mem_cons_self
        · rw [h]; exact List.mem_cons_of_mem _ hb
      · rcases List.mem_cons.1 hd with rfl | hd
        · exact le_max_left ..
        · exact (hle d hd).trans (le_max_right ..)

theorem highest_eq_some {l : List Int} {e : Int} (he : e ∈ l) (hle : ∀ d ∈ l, d ≤ e) : highest l = some e := by
  cases h : highest l with
  | none =>
    cases l with
    | nil => cases he
    | cons a l => unfold highest at h; split at h <;> cases h
  | some b =>
    obtain ⟨hb, hbl⟩ := mem_of_highest h
    rw [le_antisymm (hle b hb) (hbl e he)]

theorem State.mem_excesses {s : State} {e : Int} : e ∈ s.excesses ↔ ∃ i : ChanId,
    (s.cfg.channel i).role = .cooling ∧ ∃ v, s.reading? i = some v ∧ e = v - (s.cfg.channel i).target := by
  unfold State.excesses
  rw [List.mem_filterMap]
  constructor
  · rintro ⟨i, -, h⟩
    dsimp only at h
    split at h
    · rename_i hr
      obtain ⟨v, hv, rfl⟩ := Option.map_eq_some_iff.1 h
      exact ⟨i, hr, v, hv, rfl⟩
    · cases h
  · rintro ⟨i, hr, v, hv, rfl⟩
    exact ⟨i, List.mem_finRange i, by simp [hr, hv]⟩

theorem State.overridden_iff (s : State) : s.overridden = true ↔
    (∃ k : TrayId, (s.fan.tray k).state = .failed) ∨ s.env.trust ≠ .trusted ∨ s.env.thermal = true := by
  unfold State.overridden
  simp only [Bool.or_eq_true, List.any_eq_true, beq_iff_eq, bne_iff_ne, or_assoc]
  refine or_congr_left ⟨?_, ?_⟩
  · rintro ⟨x, hx, h⟩
    obtain ⟨n, hn, rfl⟩ := Vector.getElem_of_mem (Vector.mem_toList_iff.1 hx)
    exact ⟨⟨n, hn⟩, h⟩
  · rintro ⟨k, hk⟩
    exact ⟨s.fan.tray k, by simp [Fan.tray], hk⟩

theorem computedDuty_of_overridden (c : CoolingCfg) (e : Option Int) : computedDuty c true e = 100 := by
  cases e <;> rfl

end Duty

/-! ## The two statements -/

/-- Settles O46: an override makes the computed duty 100, so that a duty forced to 100 meets the slew's own. -/
theorem roundEndFormsDuty : Obligations.RoundEndFormsDuty := by
  intro s code due r hr hc hs hduty
  obtain ⟨-, -, -, -, hle, -⟩ := hduty
  have hU := State.roundRead_taken code due r s
  obtain ⟨moved, hend⟩ := State.roundEnd_of_reference hc hs code
  have hW := State.roundClosed moved (s.roundRead code due r)
  rw [← hend] at hW
  obtain ⟨t, ht, hb⟩ := State.event_blocks (State.roundEnd code) s hr
  dsimp only at hU
  generalize moveTrust s.env.trust s.env.fails s.env.passes (refPasses s.cfg.scanner.tolerance code) = T at hU
  generalize s.roundRead code due r = u at *
  generalize s.roundEnd code = w at *
  obtain ⟨v, th, il, f, a, hu⟩ := hU.same
  obtain ⟨sc, cv, rn, d', m', n', o, f', c, hw⟩ := hW.same
  have henv : t.env = w.env := congrArg Blocks.env hb
  have hfan : t.fan = w.fan := congrArg Blocks.fan hb
  have hwcfg : w.cfg = u.cfg := by rw [hw]
  have hucfg : u.cfg = s.cfg := by rw [hu]
  have htcfg : t.cfg = w.cfg := congrArg Blocks.cfg hb
  have hutr : u.env.trust = T.1 := by rw [hu]
  have hoffu : u.env.turnOff = s.env.turnOff := by rw [hu]
  have htrays : u.fan.trays = s.fan.trays := by
    rcases hU.fan with h | ⟨h, -⟩
    · rw [h]
    · rw [h]; rfl
  have hcur : u.fan.current ≤ 100 := by
    rcases hU.fan with h | ⟨h, -⟩ <;> rw [h]
    · exact hle
    · exact Nat.le_refl _
  have hread : t.reading? = u.reading? := funext fun i => by
    rw [State.reading?_eq, State.reading?_eq, htcfg, hwcfg, henv, hw]; rfl
  have hover (h : u.overridden = true) : u.computeDuty.fan.computed = 100 := by
    show computedDuty u.cfg.cooling u.overridden _ = 100
    rw [h, computedDuty_of_overridden]
  have hslew : u.computeDuty.fan.current = slew u.fan.current u.computeDuty.fan.computed := rfl
  refine ⟨t, ht, fun ho => ?_, fun ho => ?on, ?_⟩
  · rw [hfan, (hW.off (hoffu.trans ho)).2.1]
    split
    · exact ⟨rfl, rfl⟩
    · rename_i htr
      have h100 := hover (u.overridden_iff.2 (.inr (.inl htr)))
      rw [hslew, h100]
      exact ⟨if_pos hcur, rfl⟩
  case on =>
    obtain ⟨⟨htr, -, -, -⟩, hf, -⟩ := hW.on (hoffu.trans ho)
    intro counts full
    have hcount (e : Int) : e ∈ u.excesses ↔ ∃ i, counts i e := by
      rw [State.mem_excesses, hucfg, ← hread]
    have hth : w.env.thermal = u.env.thermal := by rw [hw]
    have hfull : full ↔ u.overridden = true := by
      have htray (k : TrayId) : s.fan.tray k = u.fan.tray k := by rw [Fan.tray, Fan.tray, htrays]
      simp only [full, u.overridden_iff, henv, htr, hth, htray]
    have hexc : t.fan.excess = highest u.excesses := by rw [hfan, hf]; rfl
    have hcomp : t.fan.computed = computedDuty s.cfg.cooling u.overridden (highest u.excesses) := by
      rw [hfan, hf, ← hucfg]; rfl
    refine ⟨fun hno => ?_, fun h => ?_, fun i e hi hmax => ?_, ?_⟩
    · have hnil : u.excesses = [] := List.eq_nil_iff_forall_not_mem.2 fun e he => by
        obtain ⟨i, hi⟩ := (hcount e).1 he
        exact hno i e hi
      rw [hexc, hcomp, hnil]
      exact ⟨rfl, rfl⟩
    · rw [hcomp, hfull.1 h, computedDuty_of_overridden]
    · have hhigh : highest u.excesses = some e := highest_eq_some ((hcount e).2 ⟨i, hi⟩) fun d hd => by
        obtain ⟨j, hj⟩ := (hcount d).1 hd
        exact hmax j d hj
      refine ⟨hexc.trans hhigh, fun hn => ?_⟩
      have hno : u.overridden = false := Bool.eq_false_iff.2 fun h => hn (hfull.2 h)
      rw [hcomp, hhigh, hno]
      rfl
    · have ht' : t.fan.current = slew u.fan.current t.fan.computed := by rw [hfan, hf]; rfl
      rw [ht']
      rcases hU.fan with h | ⟨h, hor⟩
      · rw [h]; rfl
      · have ho : u.overridden = true := u.overridden_iff.2 (.inr (by rw [hutr]; exact hor))
        have h100 : t.fan.computed = 100 := by rw [hfan, hf]; exact hover ho
        rw [h, h100, if_pos hle]
        rfl
  · rw [hfan]
    cases ho : s.env.turnOff with
    | true =>
      rw [(hW.off (hoffu.trans ho)).2.1]
      split <;> exact htrays
    | false =>
      rw [(hW.on (hoffu.trans ho)).2.1]
      exact htrays

/-- Settles O45: the parts of the round end, and what the later ones leave of the earlier ones. -/
theorem roundEndMovesTrustAndTakesReadings : Obligations.RoundEndMovesTrustAndTakesReadings := by
  intro s code due r hr hc hs hnd tol passed now
  have hU := State.roundRead_taken code due r s
  obtain ⟨moved, hend⟩ := State.roundEnd_of_reference hc hs code
  have hW := State.roundClosed moved (s.roundRead code due r)
  rw [← hend] at hW
  obtain ⟨t, ht, hb⟩ := State.event_blocks (State.roundEnd code) s hr
  have hpass := refPasses_iff tol code
  dsimp only at hU
  generalize hp : refPasses s.cfg.scanner.tolerance code = p at *
  generalize hT : moveTrust s.env.trust s.env.fails s.env.passes p = T at *
  obtain ⟨d, m, n⟩ := T
  generalize s.roundRead code due r = u at *
  generalize s.roundEnd code = w at *
  obtain ⟨v, th, il, f, a, hu⟩ := hU.same
  obtain ⟨sc, cv, rn, d', m', n', o, f', c, hw⟩ := hW.same
  have hucfg : u.cfg = s.cfg := by rw [hu]
  have hwcfg : w.cfg = u.cfg := by rw [hw]
  have htook : (p = true ∧ d = .trusted) ↔ (passed ∧ d = .trusted) := by rw [hpass]
  have henv : t.env = w.env := congrArg Blocks.env hb
  have hcfg : t.cfg = s.cfg := (congrArg Blocks.cfg hb).trans (hwcfg.trans hucfg)
  have hinp : t.chassis.pwr.inputs = w.chassis.pwr.inputs := congrArg (fun b => b.pwr.inputs) hb
  have hread (i : ChanId) : t.reading? i = (s.cfg.channel i).reading (u.env.chan i) := by
    rw [State.reading?_eq, hcfg, henv, hw]; rfl
  have hchan (i : ChanId) : t.env.chan i = u.env.chan i := by rw [henv, hw]; rfl
  have href : w.env.refCode = some code := by rw [hw]; exact congrArg (fun x : State => x.env.refCode) hu
  have huzone : u.zone = s.zone := by rw [hu]
  have hzone : w.zone = u.zone := by rw [hw]
  have hchans : t.env.chans = u.env.chans := by rw [henv, hw]
  have hth : t.env.thermal = u.env.thermal := by rw [henv, hw]
  have hoffu : u.env.turnOff = s.env.turnOff := by rw [hu]
  have huclk : u.clockMs = now := by rw [hu]
  have hurn : u.env.readNow = s.env.readNow := by rw [hu]
  have hutr : u.env.trust = d ∧ u.env.fails = m ∧ u.env.passes = n := by rw [hu]; exact ⟨rfl, rfl, rfl⟩
  refine ⟨t, d, m, n, ht, ?table, (congrArg Blocks.clockMs hb).trans ((congrArg State.clockMs hw).trans huclk), (congrArg Env.refCode henv).trans href, hcfg,
    (congrArg Blocks.zone hb).trans (hzone.trans huzone), fun ho => ?_, fun ho => ?on,
    fun hn => ?_, fun hps hd => ?taken, ?inl, ?_, ?_, ?_, fun hok => ?alarms⟩
  case table =>
    have key (hb : Bool) (hpb : p = hb) : moveTrust s.env.trust s.env.fails s.env.passes hb = (d, m, n) := hpb ▸ hT
    have pass (h : passed) := key true (hpass.2 h)
    have fail (h : ¬ passed) := key false (Bool.eq_false_iff.2 fun hp => h (hpass.1 hp))
    cases hst : s.env.trust <;> rw [hst] at pass fail
    case unproven => exact ⟨fun h => by simpa [moveTrust, eq_comm] using pass h, fun h => moveTrust_fail (by decide) (fail h)⟩
    case trusted => exact ⟨fun h => by simpa [moveTrust, eq_comm] using pass h, fun h => moveTrust_fail (by decide) (fail h)⟩
    case lost => exact ⟨fun h => moveTrust_lost_pass (pass h), fun h => by simpa [moveTrust, eq_comm] using fail h⟩
  · obtain ⟨hsc, -⟩ := hW.off (hoffu.trans ho)
    rw [henv]; exact hsc
  case on =>
    obtain ⟨⟨h1, h2, h3, h4⟩, -, -, hrest, hnow⟩ := hW.on (hoffu.trans ho)
    rw [hucfg, huclk, hurn] at hrest hnow
    rw [henv]
    exact ⟨h1.trans hutr.1, h2.trans hutr.2.1, h3.trans hutr.2.2, hrest, hnow, h4⟩
  · rw [hchans, hth]
    exact hU.still fun h => hn (htook.1 h)
  case taken =>
    have hk : p = true ∧ d = .trusted := htook.2 ⟨hps, hd⟩
    refine ⟨fun i => ?_, ?_⟩
    · have hi := hU.chan hk hnd i
      rw [hchan i, hread i, hi, ChanCfg.reading_judged, ChanCfg.judged_raw]
      refine ⟨?_, fun hno => ?_, fun v hv => ?_⟩
      · rfl
      · rw [ChanCfg.judged_of_none hno]; exact ⟨rfl, rfl, rfl⟩
      · rw [ChanCfg.judged_of_some hv]
        exact ⟨ChanCfg.hiAfter_eq .., ChanCfg.loAfter_eq .., ChanCfg.emergencyAfter_eq ..⟩
    · rw [hth, hU.thermal hk]
      exact exists_congr fun i => by rw [hchan i]
  case inl =>
    have : t.inletReading = u.inletReading := by
      have hr : t.reading? = u.reading? := funext fun i => by rw [hread i, State.reading?_eq, hucfg]
      rw [State.inletReading, State.inletReading, hr, hcfg, hucfg]
    rw [this, ← hU.inlet, henv, hw]
  · rw [hinp, henv]; exact hW.told.1
  · rw [hinp, henv]; exact hW.told.2.1
  · rw [hinp, henv]; exact hW.told.2.2
  case alarms =>
    intro stands ended judged
    have hA := s.chassis.alm.trustTurn_touch (s.carry due).ctx s.env.trust d
    have huw : Alm.Touch ((.sensorTrustLost, 0) :: chassisKeys) ((.sensorTrustLost, 0) :: chassisKeys) u.chassis.alm
        w.chassis.alm := by
      cases ho : s.env.turnOff with
      | true => exact (Alm.trustTurn_touch ..).append (hW.off (hoffu.trans ho)).2.2
      | false => exact (hW.on (hoffu.trans ho)).2.2.1.mono (List.subset_cons_self ..) (List.subset_cons_self ..)
    have hstl : (AlarmKind.sensorTrustLost, 0) ∉ s.cfg.allChanKeys := by
      intro h
      obtain ⟨i, -, hi⟩ := List.mem_flatMap.1 h
      cases hk : (s.cfg.channel i).kind <;>
        simp [Settings.chanKeys, hk, ChanKind.hiAlarm, ChanKind.loAlarm] at hi
    have hstc : (AlarmKind.sensorTrustLost, 0) ∉ chassisKeys := by decide
    refine ⟨fun i => ?chan, fun ho hd hne hlen => ?_, fun h => ?_⟩
    case chan =>
      intro temp
      have hkeys : ∀ key ∈ s.cfg.chanKeys i, key ∉ (AlarmKind.sensorTrustLost, 0) :: chassisKeys := by
        intro key hkey
        simp only [Settings.chanKeys, List.mem_cons, List.not_mem_nil, or_false] at hkey
        rcases hkey with h | h | h <;> subst h <;>
          cases (s.cfg.channel i).kind <;> simp [chassisKeys, ChanKind.hiAlarm, ChanKind.loAlarm]
      obtain ⟨h1, h2, h3⟩ := huw.chanJudged hkeys (hU.alarms hnd hok i)
      rw [hchan i]
      have back {k : AlarmKind} (hk : k ≠ .graceRunning) {x y : Bool}
          (h : w.chassis.alm.JudgedAs k i.val (s.chassis.alm.entries.length ≤ 10) x y) : judged k i.val x y :=
        ⟨fun hx hy hr => (stands_of_blocks hb hk _).1.2 (h.1 hx hy hr),
          fun hx hy => (stands_of_blocks hb hk _).2.2 (h.2 hx hy)⟩
      refine ⟨?_, ?_, back (by decide) h3⟩
      · exact (congrArg (fun k => judged k i.val _ _) (ChanKind.hiAlarm_eq _)).mpr
          (back (by cases (s.cfg.channel i).kind <;> decide) h1)
      · exact (congrArg (fun k => judged k i.val _ _) (ChanKind.loAlarm_eq _)).mpr
          (back (by cases (s.cfg.channel i).kind <;> decide) h2)
    · subst hd
      exact (stands_of_blocks hb (by decide) _).1.2 (((hW.on (hoffu.trans ho)).2.2.1.stands_iff hstc).2
        ((hU.touch.stands_iff hstl).2 (Alm.trustTurn_lost hne (by omega))))
    · refine (stands_of_blocks hb (by decide) _).2.2 ?_
      have early (hne : s.env.trust ≠ d) (hd : d = .trusted) : w.chassis.alm.Ended .sensorTrustLost 0 := by
        have hu : u.chassis.alm.Ended .sensorTrustLost 0 :=
          (hU.touch.ended_iff hstl).2 (hok.trustTurn_ended hne (fun h => absurd (hd.symm.trans h) (by decide)) (.inl hd))
        cases ho : s.env.turnOff with
        | true =>
          have h2 := (hW.off (hoffu.trans ho)).2.2
          rw [hutr.1, hd, Alm.trustTurn_trusted_unproven] at h2
          exact (h2.ended_iff hstc).2 hu
        | false => exact ((hW.on (hoffu.trans ho)).2.2.1.ended_iff hstc).2 hu
      rcases h with ⟨hl, hne⟩ | ⟨hne, hd⟩
      · have hdl : d = .lost ∨ d = .trusted := by
          rw [hl] at hT
          have := @moveTrust_of_lost s.env.fails s.env.passes p
          rwa [hT] at this
        rcases hdl with hd | hd
        · cases ho : s.env.turnOff with
          | true =>
            have h2 := (hW.off (hoffu.trans ho)).2.2
            rw [hutr.1, hd] at h2
            exact (h2.ended_iff hstc).2
              ((hU.touch.ok (hA.ok hok)).trustTurn_ended (by decide) (by decide) (.inr rfl))
          | false =>
            refine absurd ?_ hne
            rw [henv, (hW.on (hoffu.trans ho)).1.1, hutr.1, hd]
        · exact early (by rw [hl, hd]; decide) hd
      · exact early (by rw [hd]; exact hne) hd

end Sys2Proof.Machine

/-! # Resets -/

namespace Sys2Proof.Machine

/-! ## The end of a reset's event -/

section Boot

variable (st : Store) (alm : Ctx → Alm) (n d a b : Nat) (tr : Vector Bool 8) (h : Bool) (q : List Instr)

/-- R90: no port holds a binding after a reset. -/
theorem boot_graceAgrees : (boot st alm n d a b tr h q).GraceAgrees := by
  refine ⟨(fun hg => by cases hg), fun ⟨p, hp⟩ => ?_⟩
  have hport : (boot st alm n d a b tr h q).chassis.port p = PortRec.reset := by
    simp [Chassis.port, boot]
  rw [hport] at hp
  cases hp

/-- R191, R192: the end of a reset's event is the writer and the lines. -/
theorem boot_settle : (boot st alm n d a b tr h q).settle = (boot st alm n d a b tr h q).runWriter.driveLines := by
  unfold State.settle
  rw [State.judgeGrace_of_agrees (boot_graceAgrees ..)]
  have hstart : (boot st alm n d a b tr h q).endStartUp = boot st alm n d a b tr h q := by
    unfold State.endStartUp
    exact if_neg (by simp [boot, Link.reset])
  rw [hstart]
  obtain ⟨l, z, c, w, hw⟩ := (boot st alm n d a b tr h q).runWriter_frame
  have hstill : (boot st alm n d a b tr h q).runWriter.arbitrate = (boot st alm n d a b tr h q).runWriter := by
    unfold State.arbitrate
    exact if_neg (by rw [hw]; simp [boot, Link.reset])
  rw [hstill]

/-- What a reset's event leaves, but for the writer's marks and the lines. -/
theorem boot_settle_frame : ∃ l z c w v, (boot st alm n d a b tr h q).settle =
    { boot st alm n d a b tr h q with
      chassis := { (boot st alm n d a b tr h q).chassis with licencesDirty := l }
      store := { (boot st alm n d a b tr h q).store with zonesDirty := z, settingsDirty := c, writer := w }
      lines := v } := by
  obtain ⟨l, z, c, w, hw⟩ := (boot st alm n d a b tr h q).runWriter_frame
  refine ⟨l, z, c, w, (boot st alm n d a b tr h q).runWriter.linesNow, ?_⟩
  rw [boot_settle, State.driveLines, hw]

end Boot

/-! ## The alarms of a reset (R131, R168, R185) -/

/-- New entries join the end of the table, and nothing else happens but notices. -/
structure Alm.Grown (x : Ctx) (l : List AlarmEntry) (a b : Alm) : Prop where
  entries : b.entries = a.entries ++ l
  full : b.full = a.full
  dip : b.dip = a.dip
  notices : x.cfg.noticeOrigin = 0#16 → b.notices = a.notices

namespace Alm.Grown

variable {x : Ctx} {a b c : Alm}

theorem refl (x : Ctx) (a : Alm) : Alm.Grown x [] a a := ⟨(List.append_nil _).symm, rfl, rfl, fun _ => rfl⟩

theorem trans {l m : List AlarmEntry} (h : Alm.Grown x l a b) (h' : Alm.Grown x m b c) : Alm.Grown x (l ++ m) a c :=
  ⟨by rw [h'.entries, h.entries, List.append_assoc], h'.full.trans h.full, h'.dip.trans h.dip,
    fun hx => (h'.notices hx).trans (h.notices hx)⟩

theorem raise {k : AlarmKind} {n : Nat} (hk : ∀ e ∈ a.entries, e.keyOf ≠ (k, n)) (hl : a.entries.length < 64) :
    Alm.Grown x [AlarmEntry.new x k n] a (a.raise x k n) := by
  have hno : ¬ ∃ e ∈ a.entries, e.kind = k ∧ e.subject = n := fun ⟨e, he, hek, hen⟩ =>
    hk e he (by rw [AlarmEntry.keyOf, hek, hen])
  rw [Alm.raise_of_room hno hl]
  exact ⟨by simp, by simp, by simp, fun hx => by rw [Alm.notifyAlarm_notices, if_pos hx]⟩

end Alm.Grown

theorem Alm.clear_of_no_key {x : Ctx} {a : Alm} {k : AlarmKind} {n : Nat} (hk : ∀ e ∈ a.entries, e.keyOf ≠ (k, n)) :
    a.clear x k n = a :=
  Alm.clear_of_not_stands fun e he h => hk e he (by rw [AlarmEntry.keyOf, h.1, h.2])

/-- R185: Store Fault for a section that is not valid. -/
def sectionEntries (x : Ctx) (code : Nat) (valid : Bool) : List AlarmEntry :=
  if valid then [] else [AlarmEntry.new x .storeFault code]

/-- R131: Fan Tray Absent for the trays of a list that show absent. -/
def trayEntries (x : Ctx) (tr : Vector Bool 8) (l : List TrayId) : List AlarmEntry :=
  (l.filter (fun i => !tr[i.val])).map (fun i => AlarmEntry.new x .fanTrayAbsent i.val)

theorem Alm.judgeSection_grown {x : Ctx} {a : Alm} {code : Nat} (valid : Bool)
    (hk : ∀ e ∈ a.entries, e.keyOf ≠ (.storeFault, code)) (hl : a.entries.length < 64) :
    Alm.Grown x (sectionEntries x code valid) a (a.judgeSection x code valid) := by
  unfold Alm.judgeSection sectionEntries
  cases valid
  · exact .raise hk hl
  · rw [if_pos rfl, if_pos rfl, Alm.clear_of_no_key hk]
    exact .refl ..

theorem Alm.judgeTray_grown {x : Ctx} {a : Alm} {tr : Vector Bool 8} {i : TrayId}
    (ha : ∀ e ∈ a.entries, e.keyOf ≠ (.fanTrayAbsent, i.val)) (hf : ∀ e ∈ a.entries, e.keyOf ≠ (.fanTrayFailed, i.val))
    (hl : a.entries.length < 64) : Alm.Grown x (trayEntries x tr [i]) a (a.judgeTray x i tr[i.val]) := by
  unfold Alm.judgeTray trayEntries
  cases htr : tr[i.val] with
  | true =>
    rw [if_pos rfl, List.filter_cons_of_neg (by simp [htr])]
    exact .refl ..
  | false =>
    have hg : Alm.Grown x [AlarmEntry.new x .fanTrayAbsent i.val] a (a.raise x .fanTrayAbsent i.val) := .raise ha hl
    rw [if_neg Bool.false_ne_true, List.filter_cons_of_pos (by simp [htr]), Alm.clear_of_no_key]
    · exact hg
    · rw [hg.entries]
      intro e he
      rcases List.mem_append.1 he with he | he
      · exact hf e he
      · rw [List.mem_singleton.1 he]
        intro h
        cases h

theorem Alm.foldl_judgeTray_grown {x : Ctx} {tr : Vector Bool 8} : ∀ (l : List TrayId) (a : Alm), l.Nodup →
    (∀ e ∈ a.entries, ∀ i ∈ l, e.keyOf ≠ (.fanTrayAbsent, i.val)) → (∀ e ∈ a.entries, e.kind ≠ .fanTrayFailed) →
    a.entries.length + l.length ≤ 64 →
    Alm.Grown x (trayEntries x tr l) a (l.foldl (fun a i => a.judgeTray x i tr[i.val]) a)
  | [], a, _, _, _, _ => .refl x a
  | i :: l, a, hnd, ha, hf, hl => by
    rw [List.nodup_cons] at hnd
    rw [List.length_cons] at hl
    have h1 : Alm.Grown x (trayEntries x tr [i]) a (a.judgeTray x i tr[i.val]) :=
      Alm.judgeTray_grown (fun e he => ha e he i List.mem_cons_self)
        (fun e he h => hf e he (congrArg Prod.fst h)) (by omega)
    have hnew {e : AlarmEntry} (he : e ∈ trayEntries x tr [i]) : e.keyOf = (.fanTrayAbsent, i.val) := by
      obtain ⟨j, hj, rfl⟩ := List.mem_map.1 he
      rw [List.mem_singleton.1 (List.mem_filter.1 hj).1]
      rfl
    have hlen : (trayEntries x tr [i]).length ≤ 1 := by
      rw [trayEntries, List.length_map]
      exact List.length_filter_le ..
    have h2 := Alm.foldl_judgeTray_grown (x := x) (tr := tr) l (a.judgeTray x i tr[i.val]) hnd.2
      (by
        rw [h1.entries]
        intro e he j hj
        rcases List.mem_append.1 he with he | he
        · exact ha e he j (List.mem_cons_of_mem _ hj)
        · rw [hnew he]
          intro h
          exact hnd.1 (Fin.ext (congrArg Prod.snd h) ▸ hj))
      (by
        rw [h1.entries]
        intro e he
        rcases List.mem_append.1 he with he | he
        · exact hf e he
        · intro h
          have := (congrArg Prod.fst (hnew he)).symm.trans h
          cases this)
      (by rw [h1.entries, List.length_append]; omega)
    have h3 := h1.trans h2
    have happ : trayEntries x tr [i] ++ trayEntries x tr l = trayEntries x tr (i :: l) := by
      rw [trayEntries, trayEntries, trayEntries, ← List.map_append, ← List.filter_append]
      rfl
    rwa [happ] at h3

/-- R168: Supply Dip, cleared where the rail is at its warning level. -/
def dipEntry (x : Ctx) (normal : Bool) : AlarmEntry :=
  { AlarmEntry.new x .supplyDip 0 with state := if normal then .clearedUnack else .raised }

theorem Alm.coldStart_eq (x : Ctx) (normal : Bool) : (Alm.coldStart x normal).entries = [dipEntry x normal] ∧
    (Alm.coldStart x normal).full = none ∧ (Alm.coldStart x normal).dip = !normal ∧
    (x.cfg.noticeOrigin = 0#16 → (Alm.coldStart x normal).notices = []) := by
  have h0 : Alm.Grown x [AlarmEntry.new x .supplyDip 0] ⟨[], none, false, []⟩
      (Alm.raise x .supplyDip 0 ⟨[], none, false, []⟩) := .raise nofun (by decide)
  have hentries := h0.entries
  unfold Alm.coldStart Alm.dipRaise
  dsimp only
  cases normal with
  | false => exact ⟨h0.entries, h0.full, rfl, h0.notices⟩
  | true =>
    rw [if_pos rfl, Alm.dipClear, Alm.clear_of_latched (k := .supplyDip) (n := 0) (e := AlarmEntry.new x .supplyDip 0)
      ((Alm.empty_ok.raise x .supplyDip 0).setDip true) (by simp [hentries]) rfl rfl rfl rfl]
    refine ⟨?_, ?_, rfl, fun hx => ?_⟩
    · simp [Alm.setState, hentries, dipEntry, AlarmEntry.new, AlarmEntry.hasKey]
    · simp [Alm.setState, h0.full]
    · show (Alm.notifyAlarm _ _ _ _ _).notices = _
      rw [Alm.notifyAlarm_notices, if_pos hx]
      exact h0.notices hx

/-- The alarms of a Cold Start: Supply Dip, the sections that are not valid, the trays that show absent. -/
theorem boot_coldStart_alm (st : Store) (normal : Bool) (tr : Vector Bool 8) (h : Bool) (q : List Instr) :
    let x : Ctx := ⟨st.settings.getD Settings.factory, 0, 0, false⟩
    let b := (boot st (fun x => Alm.coldStart x normal) 0 1000 0 0 tr h q).chassis.alm
    b.entries = dipEntry x normal :: (sectionEntries x 0 st.settings.isSome ++ sectionEntries x 1 st.zones.isSome ++
        sectionEntries x 2 st.licences.isSome ++ trayEntries x tr (List.finRange 8)) ∧
      b.full = none ∧ b.dip = !normal ∧ (x.cfg.noticeOrigin = 0#16 → b.notices = []) := by
  intro x b
  obtain ⟨he, hf, hd, hn⟩ := Alm.coldStart_eq x normal
  have hsec (k : Nat) (v : Bool) {e : AlarmEntry} (h : e ∈ sectionEntries x k v) : e.keyOf = (.storeFault, k) := by
    cases v
    · rw [List.mem_singleton.1 h]; rfl
    · cases h
  have hlen (k : Nat) (v : Bool) : (sectionEntries x k v).length ≤ 1 := by
    cases v
    · exact Nat.le_refl 1
    · exact Nat.zero_le 1
  have h1 : Alm.Grown x (sectionEntries x 0 st.settings.isSome) (Alm.coldStart x normal) _ :=
    Alm.judgeSection_grown st.settings.isSome (fun e hm => by
      rw [he] at hm; rw [List.mem_singleton.1 hm]; intro h; cases h) (by rw [he, List.length_singleton]; omega)
  have l1 := hlen 0 st.settings.isSome
  have h2 : Alm.Grown x (sectionEntries x 1 st.zones.isSome) (Alm.judgeSection x 0 st.settings.isSome _) _ :=
    Alm.judgeSection_grown st.zones.isSome (fun e hm => by
      rw [h1.entries, he] at hm
      rcases List.mem_append.1 hm with hm | hm
      · rw [List.mem_singleton.1 hm]; intro h; cases h
      · rw [hsec _ _ hm]; decide) (by rw [h1.entries, he, List.length_append, List.length_singleton]; omega)
  have l2 := hlen 1 st.zones.isSome
  have h12 := h1.trans h2
  have h3 : Alm.Grown x (sectionEntries x 2 st.licences.isSome) (Alm.judgeSection x 1 st.zones.isSome _) _ :=
    Alm.judgeSection_grown st.licences.isSome (fun e hm => by
      rw [h12.entries, he] at hm
      rcases List.mem_append.1 hm with hm | hm
      · rw [List.mem_singleton.1 hm]; intro h; cases h
      · rcases List.mem_append.1 hm with hm | hm <;> rw [hsec _ _ hm] <;> decide)
      (by rw [h12.entries, he]; simp only [List.length_append, List.length_singleton]; omega)
  have l3 := hlen 2 st.licences.isSome
  have h123 := h12.trans h3
  have kinds {e : AlarmEntry} (hm : e ∈ (Alm.judgeSection x 2 st.licences.isSome (Alm.judgeSection x 1 st.zones.isSome
      (Alm.judgeSection x 0 st.settings.isSome (Alm.coldStart x normal)))).entries) :
      e.kind = .supplyDip ∨ e.kind = .storeFault := by
    rw [h123.entries, he] at hm
    simp only [List.mem_append, List.mem_singleton, or_assoc] at hm
    rcases hm with hm | hm | hm | hm
    · rw [hm]; exact .inl rfl
    all_goals exact .inr (congrArg Prod.fst (hsec _ _ hm))
  have h4 := Alm.foldl_judgeTray_grown (x := x) (tr := tr) (List.finRange 8) _ (List.nodup_finRange 8)
    (fun e hm i _ hkey => by
      have := congrArg Prod.fst hkey
      rcases kinds hm with h | h <;> rw [AlarmEntry.keyOf, h] at this <;> cases this)
    (fun e hm h => by rcases kinds hm with h' | h' <;> rw [h] at h' <;> cases h')
    (by rw [h123.entries, he]; simp only [List.length_append, List.length_singleton, List.length_finRange]; omega)
  have hall := h123.trans h4
  refine ⟨?_, hall.full.trans hf, hall.dip.trans hd, fun hx => (hall.notices hx).trans (hn hx)⟩
  refine hall.entries.trans ?_
  rw [he, List.singleton_append]

/-! ## The Cold Start -/

/-- STORE as the Cold Start of a part without sections finds it. -/
def Store.blank (st : Store) : Store :=
  { st with
    settings := none, zones := none, licences := none
    monitor := .normal, railLow := none, marker := false, cause := .powerOn }

theorem boot_blank_alm (st : Store) (q : List Instr) :
    (boot st.blank (fun x => Alm.coldStart x true) 0 1000 0 0 (Vector.replicate 8 false) false q).chassis.alm =
      Alm.reset := by
  obtain ⟨he, hf, hd, hn⟩ := boot_coldStart_alm st.blank true (Vector.replicate 8 false) false q
  have hn := hn rfl
  generalize (boot st.blank (fun x => Alm.coldStart x true) 0 1000 0 0 (Vector.replicate 8 false) false q).chassis.alm = a
    at *
  obtain ⟨e, f, d, n⟩ := a
  subst hf hd hn
  exact congrArg (fun l => (⟨l, none, !true, []⟩ : Alm)) (he.trans rfl)

/-- R185: a part without sections, before the writer and the lines. -/
theorem boot_blank (st : Store) (q : List Instr) :
    boot st.blank (fun x => Alm.coldStart x true) 0 1000 0 0 (Vector.replicate 8 false) false q =
      { State.reset with
        chassis := { State.reset.chassis with licencesDirty := true }
        store := { State.reset.store with writer := .idle }
        lines := ⟨false, false, false, Vector.replicate 8 none⟩
        pending := q } := by
  have halm := boot_blank_alm st q
  unfold boot at halm ⊢
  dsimp only at halm ⊢
  rw [halm]
  rfl

/-- Settles O4: the factory values of each block, and the writer at Licences. -/
theorem factoryColdStartGivesReset : Obligations.FactoryColdStartGivesReset := by
  intro s hm h0 h1 h2 h3 h4 h5
  have hstore : { s.store with monitor := .normal, railLow := none, marker := false, cause := .powerOn } =
      s.store.blank := by
    rw [Store.blank, ← h0, ← h1, ← h2]
  rw [exec_coldStart_of_lost hm]
  refine congrArg Host.Outcome.next ?_
  have hcold : s.coldStartNow true =
      boot s.store.blank (fun x => Alm.coldStart x true) 0 1000 0 0 (Vector.replicate 8 false) false s.pending := by
    rw [State.coldStartNow, h3, h4, h5, ← hstore]
    rfl
  rw [hcold, boot_settle, boot_blank]
  rfl

theorem boot_port (st : Store) (alm : Ctx → Alm) (n d a b : Nat) (tr : Vector Bool 8) (h : Bool) (q : List Instr)
    (p : PortId) : (boot st alm n d a b tr h q).chassis.port p = ⟨.absent, none, .none, none, none, none⟩ := by
  simp [Chassis.port, boot, PortRec.reset]

theorem boot_blade (st : Store) (alm : Ctx → Alm) (n d a b : Nat) (tr : Vector Bool 8) (h : Bool) (q : List Instr)
    (k : BladeId) : (boot st alm n d a b tr h q).chassis.blade k = false := by
  simp [Chassis.blade, boot]

theorem map8_get {α β : Type} (f : α → β) (v : Vector α 8) (i : Fin 8) : (map8 f v)[i.val] = f v[i.val] := by
  unfold map8
  obtain ⟨i, hi⟩ := i
  interval_cases i <;> rfl

theorem boot_tray (st : Store) (alm : Ctx → Alm) (n d a b : Nat) (tr : Vector Bool 8) (h : Bool) (q : List Instr)
    (k : TrayId) : (boot st alm n d a b tr h q).fan.tray k = ⟨if tr[k.val] then .good else .absent, 0, 0⟩ :=
  map8_get ..

/-- Settles O5: the reset's values of each block, its alarms, and what it depends on. -/
theorem coldStartTakesStoredValues : Obligations.ColdStartTakesStoredValues := by
  refine ⟨fun s normal hm => ?_, fun s u normal hs hu h0 h1 h2 h3 h4 h5 h6 => ?_⟩
  · let st : Store := { s.store with
      monitor := if normal then .normal else .low
      railLow := none
      marker := false
      cause := if s.store.marker then .lossOfRetention else .powerOn }
    obtain ⟨he, -, hd, -⟩ := boot_coldStart_alm st normal s.trayPresent s.resetHeld s.pending
    obtain ⟨l, z, c, w, v, ht⟩ :=
      boot_settle_frame st (fun x => Alm.coldStart x normal) 0 1000 0 0 s.trayPresent s.resetHeld s.pending
    have hcold : s.coldStartNow normal =
        boot st (fun x => Alm.coldStart x normal) 0 1000 0 0 s.trayPresent s.resetHeld s.pending := rfl
    refine ⟨_, exec_coldStart_of_lost hm normal, ?_⟩
    rw [hcold, ht]
    refine ⟨rfl, ⟨rfl, rfl, rfl⟩, rfl, ⟨rfl, rfl⟩, boot_port st (fun x => Alm.coldStart x normal) 0 1000 0 0 s.trayPresent s.resetHeld s.pending,
      boot_blade st (fun x => Alm.coldStart x normal) 0 1000 0 0 s.trayPresent s.resetHeld s.pending, rfl, rfl, rfl, rfl,
      ⟨rfl, rfl, rfl, rfl, rfl, rfl, rfl, rfl, rfl⟩, ⟨rfl, rfl, rfl⟩, ⟨rfl, rfl, rfl, rfl, rfl, ?scan⟩,
      ⟨rfl, rfl, boot_tray st (fun x => Alm.coldStart x normal) 0 1000 0 0 s.trayPresent s.resetHeld s.pending⟩, ⟨rfl, rfl, rfl, rfl, rfl, rfl, rfl, rfl, rfl⟩, ⟨rfl, rfl, rfl, rfl⟩, hd,
      (congrArg (List.map fun e => (e.kind, e.subject)) he).trans ?keys, fun e hm => ?_⟩
    case scan => rfl
    case keys =>
      have hsec (x : Ctx) (k : Nat) (b : Bool) : (sectionEntries x k b).map (fun e => (e.kind, e.subject)) =
          if b then [] else [(.storeFault, k)] := by cases b <;> rfl
      simp only [List.map_cons, List.map_append, hsec, trayEntries, List.map_map]
      rfl
    · have hm : e ∈ (boot st (fun x => Alm.coldStart x normal) 0 1000 0 0 s.trayPresent s.resetHeld
        s.pending).chassis.alm.entries := hm
      rw [he] at hm
      have hsec (x : Ctx) (k : Nat) (b : Bool) (h : e ∈ sectionEntries x k b) : e = AlarmEntry.new x .storeFault k := by
        cases b
        · exact List.mem_singleton.1 h
        · cases h
      have hnew : e = dipEntry ⟨st.settings.getD Settings.factory, 0, 0, false⟩ normal ∨
          ∃ k n, k ≠ .supplyDip ∧ e = AlarmEntry.new ⟨st.settings.getD Settings.factory, 0, 0, false⟩ k n := by
        simp only [List.mem_cons, List.mem_append, or_assoc] at hm
        rcases hm with hm | hm | hm | hm | hm
        · exact .inl hm
        · exact .inr ⟨_, _, by decide, hsec _ _ _ hm⟩
        · exact .inr ⟨_, _, by decide, hsec _ _ _ hm⟩
        · exact .inr ⟨_, _, by decide, hsec _ _ _ hm⟩
        · obtain ⟨i, -, hi⟩ := List.mem_map.1 hm
          exact .inr ⟨_, _, by decide, hi.symm⟩
      rcases hnew with rfl | ⟨k, n, hk, rfl⟩
      · exact ⟨rfl, by cases normal <;> rfl⟩
      · exact ⟨rfl, (if_neg fun h => hk h.1).symm⟩
  · rw [exec_coldStart_of_lost hs, exec_coldStart_of_lost hu]
    refine congrArg (fun s : State => Host.Outcome.next s.settle) ?_
    unfold State.coldStartNow boot
    rw [h0, h1, h2, h3, h4, h5, h6]

/-! ## The Restart (R181, R191) -/

theorem Alm.judgeSection_dip (x : Ctx) (k : Nat) (v : Bool) (a : Alm) : (a.judgeSection x k v).dip = a.dip := by
  cases v
  · exact Alm.raise_dip ..
  · exact Alm.clear_dip ..

theorem Alm.judgeTray_dip (x : Ctx) (k : TrayId) (v : Bool) (a : Alm) : (a.judgeTray x k v).dip = a.dip := by
  cases v
  · exact (Alm.clear_dip ..).trans (Alm.raise_dip ..)
  · rfl

theorem boot_dip (st : Store) (alm : Ctx → Alm) (n d a b : Nat) (tr : Vector Bool 8) (h : Bool) (q : List Instr) :
    (boot st alm n d a b tr h q).chassis.alm.dip = (alm ⟨st.settings.getD Settings.factory, n, a, false⟩).dip := by
  unfold boot
  dsimp only
  refine List.foldlRecOn
    (motive := fun a' : Alm => a'.dip = (alm ⟨st.settings.getD Settings.factory, n, a, false⟩).dip) _ _ ?_
    fun a' h k _ => (Alm.judgeTray_dip ..).trans h
  rw [Alm.judgeSection_dip, Alm.judgeSection_dip, Alm.judgeSection_dip]

/-- What a Restart's event leaves, but for the writer's marks and the lines. -/
theorem State.restartBy_settle (cause : ResetCause) (s : State) : ∃ l z c w v, (s.restartBy cause).settle =
    { s.restartBy cause with
      chassis := { (s.restartBy cause).chassis with licencesDirty := l }
      store := { (s.restartBy cause).store with zonesDirty := z, settingsDirty := c, writer := w }
      lines := v } :=
  boot_settle_frame ..

theorem State.restartBy_dip (cause : ResetCause) (s : State) :
    (s.restartBy cause).chassis.alm.dip = s.chassis.alm.dip := boot_dip ..

theorem State.restartBy_port (cause : ResetCause) (s : State) (p : PortId) :
    (s.restartBy cause).chassis.port p = ⟨.absent, none, .none, none, none, none⟩ := boot_port ..

theorem State.restartBy_marker (cause : ResetCause) (s : State) : (s.restartBy cause).store.marker = s.store.marker := by
  show s.store.cutOff.marker = _
  rw [Store.cutOff_eq]

theorem State.restartBy_monitor (cause : ResetCause) (s : State) :
    (s.restartBy cause).store.monitor = s.store.monitor := by
  show s.store.cutOff.monitor = _
  rw [Store.cutOff_eq]

theorem State.frameEnd_of_restart {s : State} {f : OutFrame} (h : s.link.frame = some f) (hr : f.restarts = true) :
    s.frameEnd = State.restartBy .command { s with link := { s.link with frame := none } } := by
  unfold State.frameEnd
  rw [h]
  exact if_pos hr

/-- Settles O21: the Restart's values, and what a Restart keeps. -/
theorem restartActsAfterResponse : Obligations.RestartActsAfterResponse := by
  intro s r hr hf hrs
  let u : State := { s with link := { s.link with frame := none } }
  obtain ⟨l, z, c, w, v, ht⟩ := State.restartBy_settle .command u
  have hend := State.frameEnd_of_restart hf hrs
  refine ⟨_, State.event_of_runs hr _, ?_⟩
  rw [hend, ht]
  exact ⟨rfl, rfl, rfl, rfl, rfl, State.restartBy_dip .command u, State.restartBy_marker .command u, rfl, rfl, rfl, rfl, rfl,
    rfl, rfl, State.restartBy_port .command u, rfl, rfl, rfl, rfl⟩

/-! ## The RESET line (R191) -/

/-- The keys of a reset's own raises and clears. -/
def bootKeys : List (AlarmKind × Nat) :=
  [(.storeFault, 0), (.storeFault, 1), (.storeFault, 2)] ++
    (List.finRange 8).flatMap fun i => [(.fanTrayAbsent, i.val), (.fanTrayFailed, i.val)]

theorem boot_touch (st : Store) (alm : Ctx → Alm) (n d a b : Nat) (tr : Vector Bool 8) (h : Bool) (q : List Instr) :
    Alm.Touch bootKeys bootKeys (alm ⟨st.settings.getD Settings.factory, n, a, false⟩)
      (boot st alm n d a b tr h q).chassis.alm := by
  have sect (x : Ctx) (k : Nat) (v : Bool) (a : Alm) (hk : (.storeFault, k) ∈ bootKeys) :
      Alm.Touch bootKeys bootKeys a (a.judgeSection x k v) := by
    cases v
    · exact (Alm.Touch.raise x .storeFault k a).mono (by simpa using hk) (by simpa using hk)
    · exact (Alm.Touch.clear x .storeFault k a).mono (by simpa using hk) (List.nil_subset _)
  have tray (x : Ctx) (k : TrayId) (v : Bool) (a : Alm) : Alm.Touch bootKeys bootKeys a (a.judgeTray x k v) := by
    have hmem (kind : AlarmKind) (h : kind = .fanTrayAbsent ∨ kind = .fanTrayFailed) : (kind, k.val) ∈ bootKeys :=
      List.mem_append_right _ (List.mem_flatMap.2 ⟨k, List.mem_finRange k, by rcases h with h | h <;> simp [h]⟩)
    cases v
    · exact ((Alm.Touch.raise x .fanTrayAbsent k.val a).mono (by simpa using hmem _ (.inl rfl))
        (by simpa using hmem _ (.inl rfl))).trans
        ((Alm.Touch.clear x .fanTrayFailed k.val _).mono (by simpa using hmem _ (.inr rfl)) (List.nil_subset _))
    · exact .refl ..
  unfold boot
  dsimp only
  exact List.foldlRecOn (motive := Alm.Touch bootKeys bootKeys (alm ⟨st.settings.getD Settings.factory, n, a, false⟩))
    _ _ (((sect _ _ _ _ (by decide)).trans (sect _ _ _ _ (by decide))).trans (sect _ _ _ _ (by decide)))
    fun _ h k _ => h.trans (tray _ k _ _)

theorem kind_of_bootKeys {key : AlarmKind × Nat} (h : key ∈ bootKeys) :
    key.1 = .storeFault ∨ key.1 = .fanTrayAbsent ∨ key.1 = .fanTrayFailed := by
  simp only [bootKeys, List.cons_append, List.nil_append, List.mem_cons, List.mem_flatMap, List.not_mem_nil,
    or_false] at h
  rcases h with h | h | h | ⟨i, -, h | h⟩ <;> simp [h]

/-- R169: the alarms of a Restart of another kind than the reset's own are the latched ones. -/
theorem State.mem_restartBy_alarms {cause : ResetCause} {s : State} {e : AlarmEntry} (h1 : e.kind ≠ .storeFault)
    (h2 : e.kind ≠ .fanTrayAbsent) (h3 : e.kind ≠ .fanTrayFailed) :
    e ∈ (s.restartBy cause).chassis.alm.entries ↔ e ∈ s.chassis.alm.restart.entries :=
  Alm.Touch.mem_iff (boot_touch ..) (k := e.kind) (n := e.subject)
    (fun h => (kind_of_bootKeys h).elim h1 fun h => h.elim h2 h3) rfl rfl

theorem State.exec_resetLineRelease {s : State} (hm : s.store.monitor ≠ .lost) (hr : s.resetHeld = true) :
    exec .resetLineRelease s = .next (State.release { s with resetHeld := false }).settle := by
  have h : exec .resetLineRelease s =
      State.event (fun t => if s.resetHeld then t.release else t) { s with resetHeld := false } := rfl
  have hruns : State.Runs { s with resetHeld := false } := ⟨hm, rfl⟩
  rw [h, State.event_of_runs hruns, hr]
  rfl

theorem State.takePresence_of_agrees {s : State} {k : TrayId}
    (h : s.trayPresent[k.val] = true ↔ (s.fan.tray k).state ≠ .absent) : s.takePresence k = s := by
  unfold State.takePresence
  split
  · rename_i hp
    exact if_neg (h.1 hp)
  · rename_i hp
    exact if_pos (not_not.1 fun hn => hp (h.2 hn))

/-- Settles O6: the Restart by the line, and the presence changes at the release. -/
theorem resetLineRestartsAndHolds : Obligations.ResetLineRestartsAndHolds := by
  refine ⟨fun s hr => ?_, fun s hm hh => ?_, fun s hm hh hag => ?_⟩
  · let u : State := { s with resetHeld := true }
    obtain ⟨l, z, c, w, v, ht⟩ := State.restartBy_settle .line u
    refine ⟨_, exec_resetLineAssert_of_runs hr, ?_⟩
    rw [ht]
    have hcut := s.store.cutOff_eq
    refine ⟨rfl, ⟨rfl, rfl, rfl, rfl⟩, ⟨State.restartBy_monitor .line u, State.restartBy_marker .line u, rfl, rfl,
      State.restartBy_dip .line u, rfl⟩, State.restartBy_port .line u, ⟨rfl, rfl, rfl, rfl⟩, ⟨rfl, rfl, rfl, rfl, rfl⟩,
      ?_, ⟨rfl, rfl, rfl, ?_⟩, ?_, fun e he hl h1 h3 => ?kept, fun e he hl => ?gone⟩
    · exact congrArg (fun st : Store => st.settings.getD Settings.factory) hcut
    · exact congrArg (fun st : Store => (st.zones.getD ⟨ZoneSet.factory, 0⟩).set) hcut
    · exact congrArg (fun st : Store => (st.licences.getD ⟨[], Vector.replicate 256 0⟩).records.map
        (fun r => (⟨r, []⟩ : Licence))) hcut
    case kept =>
      have h2 : e.kind ≠ .fanTrayAbsent := fun h => by rw [h] at hl; cases hl
      refine (State.mem_restartBy_alarms (e := { e with pulse := none }) h1 h2 h3).2 ?_
      exact List.mem_map.2 ⟨e, List.mem_filter.2 ⟨he, hl⟩, rfl⟩
    case gone =>
      by_contra h2
      have h1 : e.kind ≠ .storeFault := fun h => by rw [h] at hl; cases hl
      have h3 : e.kind ≠ .fanTrayFailed := fun h => by rw [h] at hl; cases hl
      obtain ⟨f, hf, rfl⟩ := List.mem_map.1 ((State.mem_restartBy_alarms h1 h2 h3).1 he)
      exact absurd ((List.mem_filter.1 hf).2.symm.trans hl) (by decide)
  · exact ⟨_, State.exec_resetLineRelease hm hh, State.settle_blocks _⟩
  · refine ⟨_, State.exec_resetLineRelease hm hh, (State.settle_blocks _).trans (congrArg State.blocks ?_)⟩
    exact List.foldlRecOn (motive := fun u => u = { s with resetHeld := false }) _ _ rfl
      fun u hu k _ => by rw [hu]; exact State.takePresence_of_agrees (hag k)

end Sys2Proof.Machine

/-! # The state after reset -/

namespace Sys2Proof.Machine

theorem State.reset_port (p : PortId) : State.reset.chassis.port p = PortRec.reset := by
  simp [Chassis.port, State.reset]

theorem State.reset_blade (b : BladeId) : State.reset.chassis.blade b = false := by
  simp [Chassis.blade, State.reset]

theorem State.reset_atRest : State.reset.AtRest := by
  let s : State := { State.reset with store :=
    { State.reset.store with monitor := .lost } }
  have h := factoryColdStartGivesReset s rfl rfl rfl rfl rfl rfl rfl
  rw [exec_coldStart_of_lost rfl] at h
  have hs : State.reset = (s.coldStartNow true).settle := (Host.Outcome.next.inj h).symm
  rw [hs]
  exact State.settle_atRest _

theorem State.reset_portsOk : State.reset.PortsOk := by
  refine ⟨fun p => ?_, List.nodup_nil, fun p => ?_⟩
  · unfold Chassis.RowOk
    rw [State.reset_port, State.reset_blade]
    exact ⟨by decide, rfl, rfl, ⟨nofun, nofun⟩, rfl, ⟨fun _ => rfl, fun _ => rfl⟩⟩
  · unfold State.CeilingOk
    rw [State.reset_port]
    exact ⟨rfl, nofun⟩

/-- Settles O60: each invariant by the reset values of its blocks. -/
theorem resetMeetsInvariants : Obligations.ResetMeetsInvariants := by
  have hset := ZoneSet.factory_ok
  have hport := State.reset_port
  refine ⟨State.reset_atRest, ⟨List.nodup_nil, Nat.zero_le _, fun _ => Nat.zero_le _⟩,
    ⟨by decide, by decide, nofun, Nat.zero_le _⟩,
    ⟨Nat.zero_le _, Nat.zero_le _, nofun, fun _ => ⟨rfl, rfl, rfl, rfl, rfl⟩, fun _ => rfl⟩, ?counters,
    ⟨hset.1, hset.2, hset.1, nofun, nofun⟩, ⟨⟨fun _ => ⟨rfl, rfl, rfl⟩, fun h => absurd rfl h⟩, nofun⟩,
    ⟨⟨Nat.zero_le _, List.nodup_nil, nofun⟩, nofun, ?recs⟩,
    ⟨show 30 ≤ 100 by decide, nofun, nofun, show 30 ≤ 100 by decide, Nat.le_refl _, fun _ => rfl⟩,
    State.reset_portsOk, ⟨nofun, fun p h => ?drain, List.nodup_nil⟩, ⟨fun p id => ⟨fun h => ?bind, nofun⟩, nofun⟩,
    fun p => ?demand⟩
  case counters =>
    refine ⟨Nat.zero_le _, Nat.zero_le _, Nat.zero_le _, Nat.zero_le _, by decide, fun t g hg => ?_, fun i e he => ?_,
      nofun⟩
    · simp [State.reset] at hg
    · simp [State.reset] at he
  case recs =>
    intro rs hrs
    cases hrs
    exact ⟨Nat.zero_le _, List.nodup_nil⟩
  case drain => rw [hport] at h; cases h
  case bind => rw [hport] at h; cases h
  case demand => rw [hport]; rfl

end Sys2Proof.Machine

/-! # The outbound arbiter and the resync (R172, R176, R177, R192) -/

namespace Sys2Proof.Machine

/-! ## The arbiter's choice (R176) -/

/-- R176: the next frame is the first item of the first source that holds one. -/
theorem State.takeItem_nextItem {s : State} (h : s.link.frame = none) : s.takeItem.link.frame = s.nextItem := by
  unfold State.takeItem State.nextItem
  cases hv : s.link.verdicts with
  | cons i rest => cases i <;> rfl
  | nil =>
    cases ha : s.link.answers with
    | cons i rest => cases i <;> rfl
    | nil =>
      cases hs : s.chassis.slots with
      | cons e rest => rfl
      | nil =>
        cases hr : s.link.responses with
        | cons r rest => rfl
        | nil =>
          cases ho : s.link.overload with
          | some r => rfl
          | none =>
            cases hn : s.chassis.alm.notices with
            | cons n rest => rfl
            | nil => exact h

theorem State.takeItem_of_verdict {s : State} {v : Verdict} {rest : List VerdictItem}
    (h : s.link.verdicts = .verdict v :: rest) :
    s.takeItem = State.startFrame (.verdict v)
      { s with link := { s.link with verdicts := rest, queryCredits := s.link.queryCredits + 1 } } := by
  unfold State.takeItem
  rw [h]

theorem State.takeItem_of_response {s : State} {r : Response} {rest : List Response} (hv : s.link.verdicts = [])
    (ha : s.link.answers = []) (hs : s.chassis.slots = []) (h : s.link.responses = r :: rest) :
    s.takeItem = State.startFrame (.response r)
      { s with link := { s.link with responses := rest, requestCredits := s.link.requestCredits + 1 } } := by
  unfold State.takeItem
  rw [hv, ha, hs, h]

/-! ## The end of an event, where nothing but the arbiter acts -/

theorem State.runWriter_of_rests {s : State} (h : s.WriterRests) : s.runWriter = s := by
  unfold State.runWriter
  cases hw : s.store.writer with
  | idle => simp only [h.1 hw, Bool.false_eq_true, if_false]
  | held => simp only [h.2 hw, if_true]
  | writing i => rfl

theorem State.settle_of_rests {s : State} (hg : s.EndAgrees) (hw : s.WriterRests) :
    s.settle = s.arbitrate.driveLines := by
  unfold State.settle
  rw [State.judgeGrace_of_agrees hg.1, State.endStartUp_of_agrees hg.2, State.runWriter_of_rests hw]

/-- While a frame is being sent the end of an event leaves LINK and the slots. -/
theorem State.settle_link_of_some {s : State} {f : OutFrame} (h : s.link.frame = some f) :
    s.settle.link = s.link ∧ s.settle.chassis.slots = s.chassis.slots := by
  obtain ⟨ns, b, he⟩ := (s.onChassis Chassis.judgeGrace).endStartUp_frame
  obtain ⟨l, z, c, w, hw⟩ := (s.onChassis Chassis.judgeGrace).endStartUp.runWriter_frame
  have hf : (s.onChassis Chassis.judgeGrace).endStartUp.runWriter.link.frame = some f := by
    rw [hw, he]; exact h
  have harb : (s.onChassis Chassis.judgeGrace).endStartUp.runWriter.arbitrate =
      (s.onChassis Chassis.judgeGrace).endStartUp.runWriter := if_neg (by rw [hf]; simp)
  rw [State.settle, harb, hw, he]
  exact ⟨rfl, rfl⟩

theorem State.arbitrate_store (s : State) : s.arbitrate.store = s.store := by
  unfold State.arbitrate
  split
  · unfold State.takeItem
    repeat' split
    all_goals rfl
  · rfl

/-! ## Restart Complete (R192) -/

theorem length_enqueueNotice_le (n : Notice) (q : List Notice) : (enqueueNotice n q).length ≤ q.length + 1 := by
  unfold enqueueNotice
  split
  · simp
  · split
    · rename_i h
      obtain ⟨m, hm, hlt⟩ := List.any_eq_true.1 h
      have := List.length_eraseP_of_mem (p := fun m => decide (m.severity.code < n.severity.code)) (List.mem_reverse.2 hm) hlt
      simp only [List.length_append, List.length_reverse, List.length_singleton] at this ⊢
      omega
    · split
      · exact Nat.zero_le _
      · rename_i m r hr
        have : q.length = r.length + 1 := by rw [← List.length_reverse, hr, List.length_cons]
        simp only [List.length_reverse, List.length_cons]
        omega

namespace Alm

theorem notifyAlarm_length_le (x : Ctx) (k : AlarmKind) (n : Nat) (t : Transition) (a : Alm) :
    (a.notifyAlarm x k n t).notices.length ≤ a.notices.length + 1 := by
  rw [Alm.notifyAlarm_notices]
  split
  · exact Nat.le_succ _
  · exact length_enqueueNotice_le ..

theorem raise_length_le (x : Ctx) (k : AlarmKind) (n : Nat) (a : Alm) :
    (a.raise x k n).notices.length ≤ a.notices.length + 2 := by
  have h1 (k n t) (b : Alm) (hb : b.notices = a.notices) :
      (b.notifyAlarm x k n t).notices.length ≤ a.notices.length + 2 := by
    have := notifyAlarm_length_le x k n t b
    rw [hb] at this
    omega
  unfold Alm.raise
  split
  · exact Nat.le_add_right ..
  · split
    · exact h1 _ _ _ _ rfl
    · split
      · exact Nat.le_add_right ..
      · exact h1 _ _ _ _ rfl

theorem freed_length_le (x : Ctx) (a : Alm) : (a.freed x).notices.length ≤ a.notices.length + 1 := by
  unfold Alm.freed
  repeat' split
  · exact notifyAlarm_length_le x _ _ _ _
  all_goals exact Nat.le_succ _

theorem clear_length_le (x : Ctx) (k : AlarmKind) (n : Nat) (a : Alm) :
    (a.clear x k n).notices.length ≤ a.notices.length + 2 := by
  have hrem : (Alm.freed x (Alm.notifyAlarm x k n .cleared (a.remove k n))).notices.length ≤ a.notices.length + 2 := by
    have h1 := freed_length_le x (Alm.notifyAlarm x k n .cleared (a.remove k n))
    have h2 := notifyAlarm_length_le x k n .cleared (a.remove k n)
    have h3 : (a.remove k n).notices = a.notices := rfl
    rw [h3] at h2
    omega
  unfold Alm.clear
  split
  · exact Nat.le_add_right ..
  · split
    · exact Nat.le_add_right ..
    · split
      · exact (notifyAlarm_length_le x k n .cleared (a.setState k n .clearedUnack)).trans (Nat.le_succ _)
      · exact hrem
    · exact hrem

theorem judge_length_le (x : Ctx) (k : AlarmKind) (n : Nat) (u v : Bool) (a : Alm) :
    (a.judge x k n u v).notices.length ≤ a.notices.length + 2 := by
  unfold Alm.judge
  split
  · exact raise_length_le ..
  · exact clear_length_le ..
  · exact Nat.le_add_right ..

end Alm

/-- R192: start-up ends with its notice, which finds room behind those of the event. -/
theorem State.settle_restartComplete {s : State} (hs : s.store.startUp = true) (hd : s.link.resyncDone = true)
    (hp : s.chassis.pwr.inputs.settled = true) (ho : s.cfg.noticeOrigin ≠ 0#16)
    (hn : s.chassis.alm.notices.length ≤ 29) : s.settle.store.startUp = false ∧
      ⟨s.cfg.noticeOrigin, .restartComplete, 0, .minor, .event, s.seconds, false⟩ ∈ s.settle.noticeLine := by
  let u := s.onChassis Chassis.judgeGrace
  have hlen : u.chassis.alm.notices.length < Config.noticeCap :=
    Nat.lt_of_le_of_lt ((Alm.judge_length_le ..).trans (Nat.add_le_add_right hn 2)) (by decide)
  have hend : u.endStartUp =
      State.notifyEvent .restartComplete 0 { u with store := { u.store with startUp := false } } :=
    if_pos (by
      have : (u.store.startUp && u.link.resyncDone && u.chassis.pwr.inputs.settled) =
        (s.store.startUp && s.link.resyncDone && s.chassis.pwr.inputs.settled) := rfl
      rw [this, hs, hd, hp]; rfl)
  have hnotices : u.endStartUp.chassis.alm.notices = u.chassis.alm.notices ++
      [⟨s.cfg.noticeOrigin, .restartComplete, 0, .minor, .event, s.seconds, false⟩] := by
    rw [hend]
    show (Alm.notify u.ctx .restartComplete 0 .minor .event u.chassis.alm).notices = _
    rw [Alm.notify, if_neg (show ¬ u.ctx.cfg.noticeOrigin = 0#16 from ho)]
    exact if_pos hlen
  have hview : s.settle.alarmView = u.endStartUp.alarmView := by
    have hd : ∀ u : State, u.driveLines.alarmView = u.alarmView := fun _ => rfl
    unfold State.settle
    rw [hd, State.arbitrate_alarms, State.runWriter_alarms]
  have hline : s.settle.noticeLine = u.endStartUp.noticeLine := congrArg (fun v => v.2.2) hview
  constructor
  · obtain ⟨l, z, c, w, hw⟩ := u.endStartUp.runWriter_frame
    have : s.settle.store = u.endStartUp.runWriter.store := State.arbitrate_store _
    rw [this, hw, hend]
    rfl
  · rw [hline, State.noticeLine, hnotices]
    simp

/-! ## The slots (R177) -/

theorem placeSlot_of_empty {p : PortId} {slots : List (PortId × Control)} (k : Control) (h : ∀ e ∈ slots, e.1 ≠ p) :
    placeSlot p k slots = slots ++ [(p, k)] := by
  refine if_neg fun hany => ?_
  obtain ⟨e, he, hp⟩ := List.any_eq_true.1 hany
  exact h e he (by simpa using hp)

theorem placeSlot_of_held {p : PortId} {before after : List (PortId × Control)} (j k : Control)
    (h : ∀ e ∈ before ++ after, e.1 ≠ p) : placeSlot p k (before ++ (p, j) :: after) = before ++ (p, k) :: after := by
  have hid (l : List (PortId × Control)) (hl : ∀ e ∈ l, e.1 ≠ p) :
      l.map (fun e => if e.1 == p then (p, k) else e) = l :=
    (List.map_congr_left fun e he => if_neg (by simpa using hl e he)).trans (List.map_id' l)
  have hany : (before ++ (p, j) :: after).any (fun e => e.1 == p) = true :=
    List.any_eq_true.2 ⟨(p, j), by simp, by simp⟩
  rw [placeSlot, if_pos hany, List.map_append, List.map_cons, hid before fun e he => h e (List.mem_append_left _ he),
    hid after fun e he => h e (List.mem_append_right _ he)]
  simp

theorem State.frameEnd_of_none {s : State} {f : OutFrame} (hf : s.link.frame = some f) (hr : f.restarts = false)
    (h : s.link.resync = none) : s.frameEnd = { s with link := { s.link with frame := none } } := by
  unfold State.frameEnd
  rw [hf]
  simp only [hr, Bool.false_eq_true, if_false, h]

theorem State.frameEnd_of_some {s : State} {f : OutFrame} {k : Nat} (hf : s.link.frame = some f)
    (hr : f.restarts = false) (h : s.link.resync = some k) :
    s.frameEnd = State.resyncNext k { s with link := { s.link with frame := none } } := by
  unfold State.frameEnd
  rw [hf]
  simp only [hr, Bool.false_eq_true, if_false, h]

/-- Settles O20: the frame's end by what runs, and the slots. -/
theorem frameEndStartsNextFrame : Obligations.FrameEndStartsNextFrame := by
  refine ⟨fun s f hr hrest hup hres hf hnr => ?first, fun s f p hr hf hnr hres => ?next,
    fun s f hr hf hnr hres => ?last, fun s hr hf => ?idle, fun x c p k => ?slot⟩
  case first =>
    have hend := State.frameEnd_of_none hf hnr hres
    obtain ⟨-, hw, hg, hst, -⟩ := hrest hr.1
    let u : State := { s with link := { s.link with frame := none } }
    have hset : u.settle = u.takeItem.driveLines := by
      rw [State.settle_of_rests (s := u) ⟨hg, hst⟩ hw, State.arbitrate, if_pos (by exact ⟨hup, hres, rfl⟩)]
    refine ⟨u.settle, ?_, ?_, State.settle_blocks u, fun v rest hv => ?_, fun hv ha hs r rest hresp => ?_⟩
    · exact (State.event_of_runs hr State.frameEnd).trans (congrArg (fun v : State => Host.Outcome.next v.settle) hend)
    · rw [hset]
      exact State.takeItem_nextItem (s := u) rfl
    · rw [hset, State.takeItem_of_verdict (s := u) hv]
      exact ⟨rfl, rfl⟩
    · rw [hset, State.takeItem_of_response (s := u) hv ha hs hresp]
      exact ⟨rfl, rfl⟩
  case next =>
    have hend : s.frameEnd = State.startFrame (.portControl p (s.chassis.port p).control)
        { s with
          chassis := { s.chassis with slots := s.chassis.slots.filter (fun e => e.1 != p) }
          link := { s.link with frame := none, resync := some (p.val + 1) } } := by
      rw [State.frameEnd_of_some hf hnr hres]
      exact dif_pos p.isLt
    obtain ⟨hl, hsl⟩ := State.settle_link_of_some (s := s.frameEnd) (by rw [hend]; rfl)
    refine ⟨s.frameEnd.settle, State.event_of_runs hr _, ?_⟩
    rw [hl, hsl, hend]
    exact ⟨rfl, rfl, rfl, rfl, rfl⟩
  case last =>
    have hend : s.frameEnd = { s with link := { s.link with frame := none, resync := none, resyncDone := true } } := by
      rw [State.frameEnd_of_some hf hnr hres]
      rfl
    refine ⟨leaves_of_event hr rfl (congrArg State.blocks hend), fun hs hp ho hn => ⟨s.frameEnd.settle, State.event_of_runs hr _, ?_⟩⟩
    rw [hend]
    exact State.settle_restartComplete (s := { s with link :=
      { s.link with frame := none, resync := none, resyncDone := true } }) hs rfl hp ho hn
  case idle =>
    refine leaves_of_event hr rfl ?_
    unfold State.frameEnd
    rw [hf]
  case slot =>
    refine ⟨fun h => ?_, fun h => ⟨fun he => ?_, fun before after j hs he => ?_⟩⟩
    · rw [Chassis.putControl, h]; rfl
    · rw [Chassis.putControl, if_pos h]
      exact placeSlot_of_empty k he
    · rw [Chassis.putControl, if_pos h]
      show placeSlot p k c.slots = _
      rw [hs, placeSlot_of_held j k he]

end Sys2Proof.Machine

/-! # One port as PORT, SEAT, PWR, ADMIT and LINK see it together

The table of the nine states, the bound seat lists, the login table and the slots are joined for one port, and every
move of the chassis is at one port. `Scope` says what of the table is laid aside within a move. -/

namespace Sys2Proof.Machine

/-! ## The view of a port -/

/-- What the blocks hold of one port: its record and its blade, how often it stands on the seat wait list, the kinds of
its entries on the grant wait list, its logins, its slots, and the licences on whose lists it stands. -/
structure PortView where
  r      : PortRec
  blade  : Bool
  seat   : Nat
  waits  : List WaitKind
  logins : Nat
  slots  : Nat
  bound  : List Word16

/-- The licences on whose bound seat lists a port stands. -/
def Chassis.boundOn (c : Chassis) (p : PortId) : List Word16 :=
  c.licences.flatMap fun l => List.replicate (l.bound.count p) l.record.id

def Chassis.view (c : Chassis) (p : PortId) : PortView where
  r := c.port p
  blade := c.blade (bladeOf p)
  seat := c.seatWait.count p
  waits := (c.pwr.waitList.filter fun e => e.port == p).map WaitEntry.kind
  logins := c.loginCount p
  slots := (c.slots.map Prod.fst).count p
  bound := c.boundOn p

/-- The ids and states of the licence table. -/
def Chassis.licKeys (c : Chassis) : List (Word16 × LicState) := c.licences.map fun l => (l.record.id, l.record.state)

/-- Two chassis agree on every port but `p`, and on the ids and states of the licences. -/
structure Chassis.MovesAt (p : PortId) (c d : Chassis) : Prop where
  view : ∀ q, q ≠ p → d.view q = c.view q
  keys : d.licKeys = c.licKeys

namespace Chassis.MovesAt

variable {p : PortId} {c d e : Chassis}

theorem refl (p : PortId) (c : Chassis) : c.MovesAt p c := ⟨fun _ _ => rfl, rfl⟩

theorem trans (h : c.MovesAt p d) (h' : d.MovesAt p e) : c.MovesAt p e :=
  ⟨fun q hq => (h'.view q hq).trans (h.view q hq), h'.keys.trans h.keys⟩

end Chassis.MovesAt

/-! ## The moves at a port -/

section Moves

variable (c : Chassis) (p q : PortId) (x : Ctx)

theorem Chassis.port_setPort_self (r : PortRec) : (c.setPort p r).port p = r := by
  simp [Chassis.port]

theorem Chassis.port_setPort_ne {p q : PortId} (r : PortRec) (h : q ≠ p) : (c.setPort p r).port q = c.port q := by
  unfold Chassis.port
  rw [Chassis.setPort_ports, Vector.getElem_set_ne _ _ (fun hv => h (Fin.ext hv.symm))]

theorem Chassis.view_setPort (r : PortRec) : (c.setPort p r).view p = { c.view p with r := r } := by
  unfold Chassis.view
  rw [Chassis.port_setPort_self]
  rfl

theorem Chassis.movesAt_setPort (r : PortRec) : c.MovesAt p (c.setPort p r) :=
  ⟨fun q hq => by unfold Chassis.view; rw [Chassis.port_setPort_ne c r hq]; rfl, rfl⟩

/-- A change of PWR that leaves the grant wait list. -/
theorem Chassis.view_setPwr {w : Pwr} (h : w.waitList = c.pwr.waitList) : (c.setPwr w).view q = c.view q := by
  unfold Chassis.view
  rw [Chassis.setPwr_pwr, h]
  rfl

theorem renumber_waits (ws : List WaitEntry) :
    ((renumber ws).filter fun e => e.port == q).map WaitEntry.kind = (ws.filter fun e => e.port == q).map WaitEntry.kind := by
  unfold renumber
  suffices h : ∀ (n : Nat), (((ws.zipIdx n).map fun e : WaitEntry × Nat => { e.1 with joinNo := e.2 }).filter
      fun e => e.port == q).map WaitEntry.kind = (ws.filter fun e => e.port == q).map WaitEntry.kind from h 0
  induction ws with
  | nil => exact fun _ => rfl
  | cons e ws ih =>
    intro n
    rw [List.zipIdx_cons, List.map_cons, List.filter_cons, List.filter_cons]
    cases h : e.port == q
    · simpa [h] using ih (n + 1)
    · simpa [h] using ih (n + 1)

/-- R147: a port that joins the grant wait list. -/
theorem Chassis.waits_joinWait (k : WaitKind) : ((c.joinWait x p k).view q).waits =
    (c.view q).waits ++ if q = p then [k] else [] := by
  have hws : ((if Config.joinMax < c.pwr.nextJoin then renumber c.pwr.waitList else c.pwr.waitList).filter
      fun e => e.port == q).map WaitEntry.kind = (c.view q).waits := by
    split
    · exact renumber_waits q _
    · rfl
  unfold Chassis.joinWait Chassis.view at *
  simp only [Chassis.setPwr_pwr, List.filter_append, List.map_append, decide_eq_true_eq]
  rw [hws]
  by_cases h : q = p
  · subst h; simp
  · simp [h, Ne.symm h]

theorem Chassis.view_joinWait (k : WaitKind) :
    (c.joinWait x p k).view p = { c.view p with waits := (c.view p).waits ++ [k] } := by
  have h := c.waits_joinWait p p x k
  rw [if_pos rfl] at h
  rw [← h]
  rfl

theorem Chassis.movesAt_joinWait (k : WaitKind) : c.MovesAt p (c.joinWait x p k) :=
  ⟨fun q hq => by
    have h := c.waits_joinWait p q x k
    rw [if_neg hq, List.append_nil] at h
    show { (c.joinWait x p k).view q with } = _
    rw [show (c.joinWait x p k).view q = { c.view q with waits := ((c.joinWait x p k).view q).waits } from rfl, h], rfl⟩

theorem Chassis.view_leaveWait : (c.leaveWait x p).view p = { c.view p with waits := [] } := by
  obtain ⟨a, b, w, h⟩ := Chassis.leaveWait_frame x p c
  rw [h]
  unfold Chassis.view
  have : (c.pwr.waitList.filter fun e => e.port != p).filter (fun e => e.port == p) = [] := by
    rw [List.filter_filter, List.filter_eq_nil_iff]
    intro e _
    simp
  dsimp only
  rw [this]
  rfl

theorem Chassis.movesAt_leaveWait : c.MovesAt p (c.leaveWait x p) := by
  obtain ⟨a, b, w, h⟩ := Chassis.leaveWait_frame x p c
  rw [h]
  refine ⟨fun q hq => ?_, rfl⟩
  unfold Chassis.view
  have : (c.pwr.waitList.filter fun e => e.port != p).filter (fun e => e.port == q) =
      c.pwr.waitList.filter fun e => e.port == q := by
    rw [List.filter_filter]
    refine List.filter_congr fun e _ => ?_
    by_cases he : e.port = q
    · subst he; simp [hq]
    · simp [he]
  dsimp only
  rw [this]
  rfl

theorem Chassis.view_removeLogins : (c.removeLogins p).view p = { c.view p with logins := 0 } := by
  unfold Chassis.view
  have : (c.removeLogins p).loginCount p = 0 := by
    rw [Chassis.loginCount, Chassis.removeLogins_logins, List.filter_filter, List.length_eq_zero_iff,
      List.filter_eq_nil_iff]
    intro e _
    simp
  rw [this]
  rfl

theorem Chassis.movesAt_removeLogins : c.MovesAt p (c.removeLogins p) := by
  refine ⟨fun q hq => ?_, rfl⟩
  unfold Chassis.view
  have : (c.removeLogins p).loginCount q = c.loginCount q := by
    rw [Chassis.loginCount, Chassis.loginCount, Chassis.removeLogins_logins, List.filter_filter]
    refine congrArg List.length (List.filter_congr fun e _ => ?_)
    by_cases he : e.port = q
    · subst he; simp [hq]
    · simp [he]
  rw [this]
  rfl

theorem Chassis.view_joinSeatWait : (c.joinSeatWait p).view p = { c.view p with seat := (c.view p).seat + 1 } := by
  unfold Chassis.view
  rw [Chassis.joinSeatWait_seatWait, List.count_append, List.count_singleton_self]
  rfl

theorem Chassis.movesAt_joinSeatWait : c.MovesAt p (c.joinSeatWait p) := by
  refine ⟨fun q hq => ?_, rfl⟩
  unfold Chassis.view
  rw [Chassis.joinSeatWait_seatWait, List.count_append, List.count_eq_zero_of_not_mem (l := [p]) (by simpa using hq)]
  rfl

theorem Chassis.view_leaveSeatWait : (c.leaveSeatWait p).view p = { c.view p with seat := 0 } := by
  unfold Chassis.view
  rw [Chassis.leaveSeatWait_seatWait, List.count_eq_zero_of_not_mem (a := p) (by simp)]
  rfl

theorem Chassis.movesAt_leaveSeatWait : c.MovesAt p (c.leaveSeatWait p) := by
  refine ⟨fun q hq => ?_, rfl⟩
  unfold Chassis.view
  rw [Chassis.leaveSeatWait_seatWait, List.count_filter (by simpa using hq)]
  rfl

/-- R5, R177: a control of a port takes its slot. -/
theorem Chassis.view_putControl (k : Control) : (c.putControl x p k).view p =
    { c.view p with slots := if x.linkUp then max 1 (c.view p).slots else (c.view p).slots } := by
  have h : ((c.putControl x p k).slots.map Prod.fst).count p =
      if x.linkUp then max 1 ((c.slots.map Prod.fst).count p) else (c.slots.map Prod.fst).count p := by
    unfold Chassis.putControl
    split
    · unfold placeSlot
      split
      · rename_i hany
        have hmap : (c.slots.map fun e => if e.1 == p then (p, k) else e).map Prod.fst = c.slots.map Prod.fst := by
          rw [List.map_map]
          refine List.map_congr_left fun e _ => ?_
          by_cases he : e.1 = p <;> simp [he]
        have hpos : 0 < (c.slots.map Prod.fst).count p := by
          obtain ⟨e, he, hp⟩ := List.any_eq_true.1 hany
          exact List.count_pos_iff.2 (List.mem_map.2 ⟨e, he, by simpa using hp⟩)
        rw [hmap, Nat.max_eq_right hpos]
      · rename_i hany
        have hzero : (c.slots.map Prod.fst).count p = 0 := by
          refine List.count_eq_zero_of_not_mem fun hm => hany ?_
          obtain ⟨e, he, hp⟩ := List.mem_map.1 hm
          exact List.any_eq_true.2 ⟨e, he, by simpa using hp⟩
        simp [hzero]
    · rfl
  unfold Chassis.view
  rw [h]
  unfold Chassis.putControl
  split <;> rfl

theorem Chassis.movesAt_putControl (k : Control) : c.MovesAt p (c.putControl x p k) := by
  unfold Chassis.putControl
  split
  · refine ⟨fun q hq => ?_, rfl⟩
    have h : ((placeSlot p k c.slots).map Prod.fst).count q = (c.slots.map Prod.fst).count q := by
      unfold placeSlot
      split
      · rw [List.map_map]
        refine congrArg (List.count q) (List.map_congr_left fun e _ => ?_)
        by_cases he : e.1 = p <;> simp [he]
      · rw [List.map_append, List.count_append, List.count_eq_zero_of_not_mem (a := q)
          (l := [(p, k)].map Prod.fst) (by simpa using hq)]
        rfl
    unfold Chassis.view
    dsimp only
    rw [h]
    rfl
  · exact .refl p c

theorem Chassis.boundOn_bindSeat_ne (id : Word16) {p q : PortId} (h : q ≠ p) :
    (c.bindSeat id p).boundOn q = c.boundOn q := by
  unfold Chassis.boundOn Chassis.bindSeat
  rw [Chassis.onLicence_licences, List.flatMap_map]
  refine congrArg (fun f => List.flatMap f c.licences) (funext fun l => ?_)
  split
  · simp only [List.count_append]
    rw [List.count_eq_zero_of_not_mem (l := [p]) (by simpa using h)]
    rfl
  · rfl

theorem Chassis.licKeys_onLicence (id : Word16) {f : Licence → Licence}
    (h : ∀ l : Licence, (f l).record.id = l.record.id ∧ (f l).record.state = l.record.state) :
    (c.onLicence id f).licKeys = c.licKeys := by
  unfold Chassis.licKeys
  rw [Chassis.onLicence_licences, List.map_map]
  refine List.map_congr_left fun l _ => ?_
  simp only [Function.comp]
  split
  · rw [(h l).1, (h l).2]
  · rfl

theorem Chassis.movesAt_bindSeat (id : Word16) : c.MovesAt p (c.bindSeat id p) := by
  refine ⟨fun q hq => ?_, c.licKeys_onLicence id fun _ => ⟨rfl, rfl⟩⟩
  unfold Chassis.view
  rw [c.boundOn_bindSeat_ne id hq]
  rfl

/-- R79: a port on no list joins the list of the one licence with an id. -/
theorem Chassis.boundOn_bindSeat {id : Word16} (hids : (c.licences.map fun l => l.record.id).Nodup)
    (hm : ∃ l ∈ c.licences, l.record.id = id) (h0 : c.boundOn p = []) : (c.bindSeat id p).boundOn p = [id] := by
  have hzero (l : Licence) (hl : l ∈ c.licences) : l.bound.count p = 0 := by
    have := List.flatMap_eq_nil_iff.1 h0 l hl
    simpa using this
  have hflat : (c.bindSeat id p).boundOn p = (c.licences.map fun l => l.record.id).filter (· == id) := by
    unfold Chassis.boundOn Chassis.bindSeat
    rw [Chassis.onLicence_licences]
    revert hzero
    induction c.licences with
    | nil => exact fun _ => rfl
    | cons l ls ih =>
      intro hzero
      have h1 := ih fun m hm => hzero m (List.mem_cons_of_mem _ hm)
      have h2 := hzero l List.mem_cons_self
      rw [List.map_cons, List.flatMap_cons, h1, List.map_cons, List.filter_cons]
      by_cases h : l.record.id = id
      · simp [h, h2]
      · simp [h, h2]
  rw [hflat, List.filter_beq, List.count_eq_one_of_mem hids]
  · rfl
  · obtain ⟨l, hl, he⟩ := hm
    exact List.mem_map.2 ⟨l, hl, he⟩

theorem Chassis.view_bindSeat {id : Word16} (hids : (c.licences.map fun l => l.record.id).Nodup)
    (hm : ∃ l ∈ c.licences, l.record.id = id) (h0 : (c.view p).bound = []) :
    (c.bindSeat id p).view p = { c.view p with bound := [id] } := by
  unfold Chassis.view
  rw [c.boundOn_bindSeat p hids hm h0]
  rfl

/-- R79: a port leaves the list of a licence. -/
theorem Chassis.boundOn_unbindSeat (id : Word16) : (c.unbindSeat id p).boundOn p = (c.boundOn p).filter (· != id) := by
  unfold Chassis.boundOn Chassis.unbindSeat
  rw [Chassis.onLicence_licences, List.flatMap_map, List.filter_flatMap]
  refine congrArg (fun f => List.flatMap f c.licences) (funext fun l => ?_)
  by_cases h : l.record.id = id
  · have h0 : (l.bound.filter fun q => q != p).count p = 0 := List.count_eq_zero_of_not_mem (by simp)
    simp [h, h0]
  · simp [h]

theorem Chassis.view_unbindSeat (id : Word16) :
    (c.unbindSeat id p).view p = { c.view p with bound := (c.view p).bound.filter (· != id) } := by
  unfold Chassis.view
  rw [c.boundOn_unbindSeat p id]
  rfl

theorem Chassis.movesAt_unbindSeat (id : Word16) : c.MovesAt p (c.unbindSeat id p) := by
  refine ⟨fun q hq => ?_, c.licKeys_onLicence id fun _ => ⟨rfl, rfl⟩⟩
  have h : (c.unbindSeat id p).boundOn q = c.boundOn q := by
    unfold Chassis.boundOn Chassis.unbindSeat
    rw [Chassis.onLicence_licences, List.flatMap_map]
    refine congrArg (fun f => List.flatMap f c.licences) (funext fun l => ?_)
    split
    · rw [List.count_filter (by simpa using hq)]
    · rfl
  unfold Chassis.view
  rw [h]
  rfl

end Moves

/-! ## The table for one port -/

/-- The states in which a port is held within a move while PWR evaluates. -/
def PortState.parks : PortState → Bool
  | .draining _ _ | .disabled | .fault => true
  | .absent | .unseated | .powerWait | .linkWait | .online | .shed => false

/-- What of the table is laid aside, and what is read of it. `held` are the ports that have given their grant back
but not their seat; `waived` the blades whose ports are being removed; `high` the ports whose grant may be above
their ceiling; `drains` the ports that may drain; `still` ports that rest in DISABLED; `full` says that a
port that drains has a login. `old` is the licence whose list has been taken and `left` the ports
that may still be bound to it. -/
structure Scope where
  held     : PortId → Option PortState
  waived   : BladeId → Prop
  high     : PortId → Prop
  drains   : PortId → Prop
  still    : PortId → Prop
  traffic  : Prop
  full     : Prop
  bindings : Prop
  old      : Option Word16
  left     : PortId → Prop

/-- The licence of a binding. -/
def Binding.licence? : Binding → Option Word16
  | .licence id => some id
  | .none | .counted | .drainHold => Option.none

/-- The licences on whose lists a port with a binding stands, while the list of `old` is taken. -/
def Binding.lists (old : Option Word16) (b : Binding) : List Word16 :=
  (b.licence?.filter fun id => old != some id).toList

/-- The row of the table of the nine states, with what LINK, ADMIT and SEAT hold of the port. -/
structure PortView.Ok (x : Ctx) (k : Scope) (p : PortId) (v : PortView) : Prop where
  held : ∀ st ∈ k.held p, v.r.state = st ∧ st.parks = true
  binding : v.r.binding ≠ .none ↔ v.r.state.seated = true ∨ (k.held p).isSome = true
  seatCeil : v.r.seatCeil.isSome = (v.r.state.seated || (k.held p).isSome)
  granted : v.r.granted.isSome = (v.r.state.runs && (k.held p).isNone)
  seat : v.seat = if v.r.state = .unseated then 1 else 0
  waits : v.waits = v.r.state.waitKind.toList
  blade : ¬ k.waived (bladeOf p) → (v.r.state = .absent ↔ v.blade = false)
  effCeil : v.r.effCeil = effective (x.cfg.port p).reqClass v.r.seatCeil
  ceiling : ¬ k.high p → ∀ g ∈ v.r.granted, ∃ e ∈ v.r.effCeil, g.num ≤ e.num
  drains : v.r.state.isDraining = true → k.drains p
  still : k.still p → v.r.state = .disabled
  logins : k.traffic → 0 < v.logins →
    v.r.state = .online ∨ (v.r.state.isDraining = true ∧ k.held p = none) ∨ k.held p = some .fault
  draining : k.traffic → k.full → v.r.state.isDraining = true → k.held p = none → 0 < v.logins
  slots : k.traffic → v.slots ≤ 1
  bound : k.bindings → v.bound = v.r.binding.lists k.old
  left : k.bindings → ∀ id ∈ k.old, v.r.binding = .licence id → k.left p

/-- Of the licences: ids distinct, and the one whose list has been taken not Active. -/
def Chassis.KeysOk (k : Scope) (c : Chassis) : Prop :=
  k.bindings → (c.licKeys.map Prod.fst).Nodup ∧ ∀ e ∈ c.licKeys, k.old = some e.1 → e.2 ≠ .active

/-- Every port but `p` meets its row. -/
structure Chassis.SoundOff (x : Ctx) (k : Scope) (p : PortId) (c : Chassis) : Prop where
  port : ∀ q, q ≠ p → (c.view q).Ok x k q
  keys : c.KeysOk k

/-- Every port meets its row. -/
structure Chassis.Sound (x : Ctx) (k : Scope) (c : Chassis) : Prop where
  port : ∀ q, (c.view q).Ok x k q
  keys : c.KeysOk k

/-- Two scopes agree but at `p`. -/
structure Scope.SameOff (p : PortId) (k k' : Scope) : Prop where
  held : ∀ q, q ≠ p → k'.held q = k.held q
  high : ∀ q, q ≠ p → (k'.high q ↔ k.high q)
  drains : ∀ q, q ≠ p → (k'.drains q ↔ k.drains q)
  still : ∀ q, q ≠ p → (k'.still q ↔ k.still q)
  left : ∀ q, q ≠ p → (k'.left q ↔ k.left q)
  waived : k'.waived = k.waived
  traffic : k'.traffic = k.traffic
  full : k'.full = k.full
  bindings : k'.bindings = k.bindings
  old : k'.old = k.old

/-- `p` is held in a state. -/
def Scope.hold (k : Scope) (p : PortId) (st : PortState) : Scope :=
  { k with held := fun q => if q = p then some st else k.held q }

/-- The grant of `p` may be above its ceiling. -/
def Scope.lift (k : Scope) (p : PortId) : Scope := { k with high := fun q => q = p ∨ k.high q }

/-- `p` rests in DISABLED. -/
def Scope.rest (k : Scope) (p : PortId) : Scope := { k with still := fun q => q = p ∨ k.still q }

/-- `p` is no longer bound to the licence whose list was taken. -/
def Scope.serve (k : Scope) (p : PortId) : Scope := { k with left := fun q => q ≠ p ∧ k.left q }

section Scopes

variable (k : Scope) (p : PortId) (st : PortState)

theorem Scope.SameOff.refl : Scope.SameOff p k k :=
  ⟨fun _ _ => rfl, fun _ _ => .rfl, fun _ _ => .rfl, fun _ _ => .rfl, fun _ _ => .rfl, rfl, rfl, rfl, rfl, rfl⟩

theorem Scope.SameOff.symm {k k' : Scope} (h : Scope.SameOff p k k') : Scope.SameOff p k' k :=
  ⟨fun q hq => (h.held q hq).symm, fun q hq => (h.high q hq).symm, fun q hq => (h.drains q hq).symm,
    fun q hq => (h.still q hq).symm, fun q hq => (h.left q hq).symm, h.waived.symm, h.traffic.symm,
    h.full.symm, h.bindings.symm, h.old.symm⟩

theorem Scope.sameOff_hold : Scope.SameOff p k (k.hold p st) :=
  ⟨fun _ hq => if_neg hq, fun _ _ => .rfl, fun _ _ => .rfl, fun _ _ => .rfl, fun _ _ => .rfl, rfl, rfl, rfl, rfl, rfl⟩

theorem Scope.sameOff_rest : Scope.SameOff p k (k.rest p) :=
  ⟨fun _ _ => rfl, fun _ _ => .rfl, fun _ _ => .rfl, fun _ hq => ⟨fun h => h.resolve_left hq, .inr⟩, fun _ _ => .rfl,
    rfl, rfl, rfl, rfl, rfl⟩

theorem Scope.sameOff_serve : Scope.SameOff p k (k.serve p) :=
  ⟨fun _ _ => rfl, fun _ _ => .rfl, fun _ _ => .rfl, fun _ _ => .rfl, fun _ hq => ⟨And.right, fun h => ⟨hq, h⟩⟩, rfl, rfl, rfl, rfl, rfl⟩

@[simp] theorem Scope.held_hold : (k.hold p st).held p = some st := if_pos rfl

end Scopes

/-- A row holds in every scope that agrees at the port. -/
theorem PortView.Ok.of_sameOff {x : Ctx} {k k' : Scope} {p q : PortId} {v : PortView} (h : v.Ok x k q)
    (hk : Scope.SameOff p k k') (hq : q ≠ p) : v.Ok x k' q where
  held := by rw [hk.held q hq]; exact h.held
  binding := by rw [hk.held q hq]; exact h.binding
  seatCeil := by rw [hk.held q hq]; exact h.seatCeil
  granted := by rw [hk.held q hq]; exact h.granted
  seat := h.seat
  waits := h.waits
  blade := by rw [hk.waived]; exact h.blade
  effCeil := h.effCeil
  ceiling := by rw [hk.high q hq]; exact h.ceiling
  drains := by rw [hk.drains q hq]; exact h.drains
  still := by rw [hk.still q hq]; exact h.still
  logins := by rw [hk.held q hq, hk.traffic]; exact h.logins
  draining := by rw [hk.held q hq, hk.traffic, hk.full]; exact h.draining
  slots := by rw [hk.traffic]; exact h.slots
  bound := by rw [hk.bindings, hk.old]; exact h.bound
  left := by rw [hk.bindings, hk.old, hk.left q hq]; exact h.left

theorem Scope.SameOff.trans {k k' k'' : Scope} {p : PortId} (h : Scope.SameOff p k k') (h' : Scope.SameOff p k' k'') :
    Scope.SameOff p k k'' :=
  ⟨fun q hq => (h'.held q hq).trans (h.held q hq), fun q hq => (h'.high q hq).trans (h.high q hq),
    fun q hq => (h'.drains q hq).trans (h.drains q hq), fun q hq => (h'.still q hq).trans (h.still q hq),
    fun q hq => (h'.left q hq).trans (h.left q hq), h'.waived.trans h.waived, h'.traffic.trans h.traffic, h'.full.trans h.full,
    h'.bindings.trans h.bindings, h'.old.trans h.old⟩

theorem Chassis.KeysOk.of_eq {k k' : Scope} {c d : Chassis} (h : c.KeysOk k) (hd : d.licKeys = c.licKeys)
    (hb : k'.bindings = k.bindings) (ho : k'.old = k.old) : d.KeysOk k' := by
  unfold Chassis.KeysOk
  rw [hd, hb, ho]
  exact h

section Sound

variable {x : Ctx} {k k' : Scope} {p : PortId} {c d : Chassis}

theorem Chassis.Sound.off (h : c.Sound x k) (p : PortId) : c.SoundOff x k p := ⟨fun q _ => h.port q, h.keys⟩

/-- A move at `p` leaves the other ports' rows. -/
theorem Chassis.SoundOff.move (h : c.SoundOff x k p) (hm : c.MovesAt p d) (hk : Scope.SameOff p k k') :
    d.SoundOff x k' p :=
  ⟨fun q hq => by rw [hm.view q hq]; exact (h.port q hq).of_sameOff hk hq, h.keys.of_eq hm.keys hk.bindings hk.old⟩

theorem Chassis.SoundOff.sound (h : c.SoundOff x k p) (hp : (c.view p).Ok x k p) : c.Sound x k :=
  ⟨fun q => by
    by_cases hq : q = p
    · subst hq; exact hp
    · exact h.port q hq, h.keys⟩

/-- The whole of a move at one port. -/
theorem Chassis.SoundOff.step (h : c.SoundOff x k p) (hm : c.MovesAt p d) (hk : Scope.SameOff p k k')
    (hp : (d.view p).Ok x k' p) : d.Sound x k' := (h.move hm hk).sound hp

/-- A move that no view sees. -/
theorem Chassis.Sound.of_view (h : c.Sound x k) (hv : ∀ q, d.view q = c.view q) (hk : d.licKeys = c.licKeys) :
    d.Sound x k :=
  ⟨fun q => by rw [hv q]; exact h.port q, h.keys.of_eq hk rfl rfl⟩

end Sound

end Sys2Proof.Machine

/-! # The table of the nine states, kept by the moves of PORT, SEAT and PWR -/

namespace Sys2Proof.Machine

/-- Both hooks keep every port on its row, whatever is laid aside. -/
structure Hooks.Sounds (h : Hooks) (x : Ctx) : Prop where
  eval : ∀ {k : Scope} {c : Chassis}, c.Sound x k → (h.eval c).Sound x k
  pass : ∀ {k : Scope} {c : Chassis}, c.Sound x k → (h.pass c).Sound x k

/-! ## What the requests and releases do before their hook -/

section Requests

variable (c : Chassis) (p : PortId) (x : Ctx) (h : Hooks)

theorem Chassis.onWaitList_eq_false : c.onWaitList p = false ↔ (c.view p).waits = [] := by
  show (c.pwr.waitList.any fun e => e.port == p) = false ↔
    (c.pwr.waitList.filter fun e => e.port == p).map WaitEntry.kind = []
  rw [List.map_eq_nil_iff, List.filter_eq_nil_iff, List.any_eq_false]

/-- R141: a release, before the evaluation that it causes. -/
theorem Chassis.grantRelease_moves : ∃ d, c.MovesAt p d ∧
    d.view p = { c.view p with r := { c.port p with granted := none }, waits := [] } ∧
    (c.grantRelease x h p = d ∨ c.grantRelease x h p = h.eval d) := by
  unfold Chassis.grantRelease
  split
  · refine ⟨_, (c.movesAt_setPort p _).trans (Chassis.movesAt_leaveWait _ _ _), ?_, .inr rfl⟩
    rw [Chassis.view_leaveWait, Chassis.view_setPort]
  · rename_i hno
    obtain ⟨hw, hg⟩ : c.onWaitList p = false ∧ (c.port p).granted = none := by simpa using hno
    refine ⟨c, .refl p c, ?_, .inl rfl⟩
    have hv : (c.view p).r = c.port p := rfl
    rw [← hg, ← (c.onWaitList_eq_false p).1 hw]
    rfl

theorem Chassis.view_setGrace (n : Nat) (q : PortId) : (c.setGrace p n).view q = c.view q := by
  unfold Chassis.setGrace
  split <;> rfl

theorem Chassis.licKeys_setGrace (n : Nat) : (c.setGrace p n).licKeys = c.licKeys := by
  unfold Chassis.setGrace
  split <;> rfl

theorem Chassis.movesAt_judgeGrace : c.MovesAt p (c.judgeGrace x) := ⟨fun _ _ => rfl, rfl⟩

theorem Chassis.movesAt_setGrace (n : Nat) : c.MovesAt p (c.setGrace p n) :=
  ⟨fun q _ => c.view_setGrace p n q, c.licKeys_setGrace p n⟩

/-- The record of a port whose seat is given back. -/
def PortRec.unseat (r : PortRec) : PortRec := { r with binding := .none, seatCeil := none, effCeil := none }

/-- The record of a port that takes a binding at a ceiling. -/
def PortRec.seatAt (r : PortRec) (x : Ctx) (p : PortId) (b : Binding) (ceil : Option RateClass) : PortRec :=
  { r with binding := b, seatCeil := ceil, effCeil := effective (x.cfg.port p).reqClass ceil }

/-- R85: a seat release, before the pass that it causes. -/
theorem Chassis.seatRelease_moves : ∃ d b, c.MovesAt p d ∧
    d.view p = { c.view p with r := (c.port p).unseat, bound := b } ∧
    (∀ o, (c.view p).bound = (c.port p).binding.lists o → b = []) ∧
    (c.seatRelease x h p = d ∨ c.seatRelease x h p = h.pass d) := by
  have hset : (c.setPort p (c.port p).unseat).view p = { c.view p with r := (c.port p).unseat } := c.view_setPort p _
  have hmove := c.movesAt_setPort p (c.port p).unseat
  unfold Chassis.seatRelease
  dsimp only
  split
  · rename_i hb
    exact ⟨_, _, hmove, hset, fun o ho => by rw [ho, hb]; rfl, .inl rfl⟩
  · rename_i id hb
    refine ⟨_, (c.view p).bound.filter (· != id), hmove.trans (Chassis.movesAt_unbindSeat _ _ id), ?_, fun o ho => ?_,
      .inr rfl⟩
    · rw [Chassis.view_unbindSeat]
      exact congrArg (fun v : PortView => { v with bound := v.bound.filter (· != id) }) hset
    · rw [ho, hb]
      by_cases h : o = some id <;> simp [Binding.lists, Binding.licence?, h, Option.filter]
  · rename_i hb
    refine ⟨_, (c.view p).bound, ?_, ?_, fun o ho => by rw [ho, hb]; rfl, .inl rfl⟩
    · exact (hmove.trans (Chassis.movesAt_setGrace _ p 0)).trans (Chassis.movesAt_judgeGrace _ p x)
    · exact (Chassis.view_setGrace _ p 0 p).trans hset
  · rename_i hb
    refine ⟨_, (c.view p).bound, ?_, ?_, fun o ho => by rw [ho, hb]; rfl, .inl rfl⟩
    · exact hmove.trans (Chassis.movesAt_judgeGrace _ p x)
    · exact hset

/-- R83: a seat that seat choice finds is of an Active licence of the table. -/
theorem Chassis.seatChoice_some {l : LicenceRec} (hl : c.seatChoice x p = some l) :
    ∃ m ∈ c.licences, m.record = l ∧ l.state = .active := by
  obtain ⟨m, hm, rfl⟩ := Option.map_eq_some_iff.1 hl
  obtain ⟨hmem, hcand⟩ := List.mem_filter.1 (lowest_mem hm)
  simp only [Licence.candidate, Bool.and_eq_true, beq_iff_eq] at hcand
  exact ⟨m, hmem, rfl, hcand.1.1⟩

end Requests

section

variable {x : Ctx} {k k' : Scope} {p : PortId} {c : Chassis} {v : PortView} {h : Hooks}

/-- R83: it is not of the licence whose list has been taken. -/
theorem Chassis.KeysOk.choice_ne (hk : c.KeysOk k) (hb : k.bindings) {l : LicenceRec}
    (hl : c.seatChoice x p = some l) : k.old ≠ some l.id := by
  obtain ⟨m, hm, rfl, hs⟩ := c.seatChoice_some p x hl
  intro ho
  exact (hk hb).2 (m.record.id, m.record.state) (List.mem_map.2 ⟨m, hm, rfl⟩) ho hs

/-- R79: the view of a port bound to a seat that seat choice found. -/
theorem Chassis.view_bindChoice (hk : c.KeysOk k) {l : LicenceRec} (hl : c.seatChoice x p = some l)
    (h0 : k.bindings → (c.view p).bound = []) :
    ∃ b, (c.bindSeat l.id p).view p = { c.view p with bound := b } ∧
      (k.bindings → b = (Binding.licence l.id).lists k.old) := by
  by_cases hb : k.bindings
  · obtain ⟨m, hm, rfl, -⟩ := c.seatChoice_some p x hl
    have hids : (c.licences.map fun l => l.record.id).Nodup := by
      have := (hk hb).1
      rwa [Chassis.licKeys, List.map_map] at this
    refine ⟨_, c.view_bindSeat p hids ⟨m, hm, rfl⟩ (h0 hb), fun hb => ?_⟩
    simp [Binding.lists, Binding.licence?, Option.filter, hk.choice_ne hb hl]
  · exact ⟨_, rfl, fun h => absurd h hb⟩

theorem Binding.lists_licence_old (id : Word16) : (Binding.licence id).lists (some id) = [] := by
  simp [Binding.lists, Binding.licence?, Option.filter]

/-! ## Rows, from state to state -/

/-- The states' columns of the table. -/
theorem PortState.eq_of_runs {st : PortState} (hr : st.runs = true) :
    st = .linkWait ∨ st = .online ∨ ∃ t d, st = .draining t d := by
  cases st <;> simp_all [PortState.runs]

namespace PortView.Ok

variable (hv : v.Ok x k p)
include hv

/-- R140: only a port that is not held holds a grant, in a state that runs. -/
theorem runs_of_granted (hg : v.r.granted.isSome = true) : v.r.state.runs = true ∧ k.held p = none := by
  have := hv.granted
  rw [hg] at this
  simpa using this.symm

theorem not_held_of_seat (hs : v.r.state.parks = false) : k.held p = none := by
  cases hk : k.held p with
  | none => rfl
  | some st =>
    have := hv.held st hk
    rw [this.1] at hs
    exact absurd (hs.symm.trans this.2) (by decide)

/-- R147: a port on the grant wait list is in POWER-WAIT or in SHED. -/
theorem waits_cases (hw : v.waits ≠ []) : v.r.state = .powerWait ∨ v.r.state = .shed := by
  rw [hv.waits] at hw
  cases hs : v.r.state <;> simp_all [PortState.waitKind]

/-- R6: a port that takes a seat asks for a grant. -/
theorem asks (hs : v.r.state = .disabled ∨ v.r.state = .unseated) (hk : k.held p = none) (hr : ¬ k.still p)
    {b : Binding} (hb : b ≠ .none) (ceil : RateClass) {bound : List Word16}
    (hbound : k.bindings → bound = b.lists k.old) (hleft : k.bindings → ∀ id ∈ k.old, b ≠ .licence id) :
    ({ v with
      r := { v.r.seatAt x p b (some ceil) with state := .powerWait }
      seat := 0, waits := [.powerWait], bound := bound } : PortView).Ok x k p := by
  obtain ⟨h1, h2, h3, h4, h5, h6, h7, h8, h9, h10, h11, h12, h13, h14, h15, h16⟩ := hv
  rcases hs with hs | hs <;> constructor <;>
    simp_all [PortRec.seatAt, PortState.seated, PortState.runs, PortState.waitKind, PortState.isDraining]

/-- R6: a port without a seat joins the seat wait list. -/
theorem queues (hs : v.r.state = .disabled) (hk : k.held p = none) (hr : ¬ k.still p) :
    ({ v with r := { v.r with state := .unseated }, seat := v.seat + 1 } : PortView).Ok x k p := by
  obtain ⟨h1, h2, h3, h4, h5, h6, h7, h8, h9, h10, h11, h12, h13, h14, h15, h16⟩ := hv
  constructor <;> simp_all [PortState.seated, PortState.runs, PortState.waitKind, PortState.isDraining]

omit hv in
/-- R17, R10: a port that gives its grant back is held, in a state in which it is on no wait list. -/
theorem parked (hv : v.Ok x (k.lift p) p) (hs : v.r.state.seated = true) {st : PortState} (hst : st.parks = true)
    (hd : st.isDraining = true → k.drains p) {n : Nat} (hn : st ≠ .fault → n = 0 ∨ ¬ k.traffic) :
    ({ v with r := { v.r with state := st, granted := none }, waits := [], logins := n } : PortView).Ok x
      (k.hold p st) p := by
  have h_binding : v.r.binding ≠ .none := hv.binding.2 (.inl hs)
  have h_unseated : v.r.state ≠ .unseated := fun h => by rw [h] at hs; cases hs
  have h_absent : v.r.state ≠ .absent := fun h => by rw [h] at hs; cases hs
  have h_disabled : v.r.state ≠ .disabled := fun h => by rw [h] at hs; cases hs
  have hseat : v.seat = 0 := by rw [hv.seat, if_neg h_unseated]
  have hceil : v.r.seatCeil.isSome = true := by rw [hv.seatCeil, hs]; rfl
  have hst' : st ≠ .unseated ∧ st ≠ .absent ∧ st.waitKind = none := by cases st <;> cases hst <;> simp [PortState.waitKind]
  exact
    { held := fun st' h => by rw [Scope.held_hold] at h; cases h; exact ⟨rfl, hst⟩
      binding := ⟨fun _ => .inr (by rw [Scope.held_hold]; rfl), fun _ => h_binding⟩
      seatCeil := by simpa using hceil
      granted := by simp
      seat := by simpa [hst'.1] using hseat
      waits := by simp [hst'.2.2]
      blade := fun h => ⟨fun h' => absurd h' hst'.2.1, fun h' => absurd ((hv.blade h).2 h') h_absent⟩
      effCeil := hv.effCeil
      ceiling := fun _ _ h => by cases h
      drains := hd
      still := fun h => absurd (hv.still h) h_disabled
      logins := fun ht h0 => .inr (.inr (by
        rw [Scope.held_hold]
        by_contra hne
        rcases hn (fun h => hne (h ▸ rfl)) with h | h
        · exact absurd h (Nat.ne_of_gt h0)
        · exact h ht))
      draining := fun _ _ _ h => by rw [Scope.held_hold] at h; cases h
      slots := hv.slots
      bound := hv.bound
      left := hv.left }

/-- R145: a grant revoked in LINK-WAIT or ONLINE. -/
theorem sheds (hg : v.r.granted.isSome = true) (hs : v.r.state = .linkWait ∨ v.r.state = .online) {n : Nat}
    (hn : n ≤ 1 ∨ ¬ k.traffic) :
    ({ v with
      r := { v.r with state := .shed, granted := none, negotiated := none }
      waits := v.waits ++ [.shed], logins := 0, slots := n } : PortView).Ok x k p := by
  have hk := (hv.runs_of_granted hg).2
  obtain ⟨h1, h2, h3, h4, h5, h6, h7, h8, h9, h10, h11, h12, h13, h14, h15, h16⟩ := hv
  rcases hs with hs | hs <;> constructor <;>
    simp_all [PortState.seated, PortState.runs, PortState.waitKind, PortState.isDraining]
  all_goals tauto

/-- R7: a grant at or below the effective ceiling. -/
theorem takes (hs : v.r.state = .powerWait ∨ v.r.state = .shed) {g : RateClass}
    (hg : ∃ e ∈ v.r.effCeil, g.num ≤ e.num) {n : Nat} (hn : n ≤ 1 ∨ ¬ k.traffic) :
    ({ v with
      r := { v.r with state := .linkWait, granted := some g }, waits := [], slots := n } : PortView).Ok x k p := by
  have hk := hv.not_held_of_seat (by rcases hs with hs | hs <;> rw [hs] <;> rfl)
  obtain ⟨h1, h2, h3, h4, h5, h6, h7, h8, h9, h10, h11, h12, h13, h14, h15, h16⟩ := hv
  rcases hs with hs | hs <;> constructor <;>
    simp_all [PortState.seated, PortState.runs, PortState.waitKind, PortState.isDraining]
  all_goals tauto

/-- R22: another binding, before the grant is brought down to its ceiling. -/
theorem notices (hb0 : v.r.binding ≠ .none) {b : Binding} (hb : b ≠ .none) {ceil : Option RateClass}
    (hceil : ceil.isSome = true) {bound : List Word16} (hbound : k.bindings → bound = b.lists k.old)
    (hleft : k.bindings → ∀ id ∈ k.old, b ≠ .licence id) :
    ({ v with r := v.r.seatAt x p b ceil, bound := bound } : PortView).Ok x (k.lift p) p := by
  have hseat := hv.binding.1 hb0
  exact
    { hv with
      binding := ⟨fun _ => hseat, fun _ => hb⟩
      seatCeil := by
        rcases hseat with h | h
        · simp only [PortRec.seatAt, hceil, h, Bool.true_or]
        · rw [show (k.lift p).held p = k.held p from rfl, h, Bool.or_true]
          exact hceil
      effCeil := rfl
      ceiling := fun h => absurd (.inl rfl) h
      bound := hbound
      left := fun h id ho hl => absurd hl (hleft h id ho) }

omit hv in
/-- R14, R22: a grant brought down in place. -/
theorem lowers (hv : v.Ok x (k.lift p) p) {e g : RateClass} (hg : v.r.granted = some g) (he : v.r.effCeil = some e)
    {n : Nat} (hn : n ≤ 1 ∨ ¬ k.traffic) :
    ({ v with
      r := { v.r with granted := some e, state := .linkWait, negotiated := none }
      logins := 0, slots := n } : PortView).Ok x k p := by
  obtain ⟨hr, hk⟩ := hv.runs_of_granted (by rw [hg]; rfl)
  have hk : k.held p = none := hk
  have hst : v.r.state.seated = true ∧ v.r.state ≠ .unseated ∧ v.r.state ≠ .absent ∧ v.r.state.waitKind = none ∧
      v.r.state ≠ .disabled := by
    rcases PortState.eq_of_runs hr with h | h | ⟨t, d, h⟩ <;>
      simp [h, PortState.seated, PortState.waitKind]
  obtain ⟨hseated, h_unseated, h_absent, h_wait, h_disabled⟩ := hst
  have hceil := hv.seatCeil
  rw [hseated] at hceil
  exact
    { held := fun st h => by rw [hk] at h; cases h
      binding := ⟨fun _ => .inl rfl, fun _ => hv.binding.2 (.inl hseated)⟩
      seatCeil := hceil
      granted := by rw [hk]; rfl
      seat := hv.seat.trans (if_neg h_unseated)
      waits := hv.waits.trans (by rw [h_wait]; rfl)
      blade := fun h => ⟨nofun, fun h' => absurd ((hv.blade h).2 h') h_absent⟩
      effCeil := hv.effCeil
      ceiling := fun _ g h => ⟨e, he, by cases h; exact Nat.le_refl _⟩
      drains := nofun
      still := fun h => absurd (hv.still h) h_disabled
      logins := fun _ h => absurd h (Nat.lt_irrefl 0)
      draining := nofun
      slots := fun h => hn.resolve_right fun h' => h' h
      bound := hv.bound
      left := hv.left }

omit hv in
/-- A grant at or below the ceiling stands. -/
theorem unlift (hv : v.Ok x (k.lift p) p) (hc : ∀ g ∈ v.r.granted, ∃ e ∈ v.r.effCeil, g.num ≤ e.num) : v.Ok x k p :=
  { hv with ceiling := fun _ => hc }

end PortView.Ok

end

end Sys2Proof.Machine

/-! # The table of the nine states: requests, drains, ceilings, revocations -/

namespace Sys2Proof.Machine

/-! ## More rows -/

namespace PortView.Ok

variable {x : Ctx} {k k' : Scope} {p : PortId} {v : PortView}

theorem with_slots (hv : v.Ok x k p) {n : Nat} (hn : n ≤ 1 ∨ ¬ k.traffic) : ({ v with slots := n } : PortView).Ok x k p :=
  { hv with slots := fun h => hn.resolve_right fun h' => h' h }

/-- R177: a control that is put in the slot leaves at most one. -/
theorem slots_put (hv : v.Ok x k p) : (if x.linkUp then max 1 v.slots else v.slots) ≤ 1 ∨ ¬ k.traffic := by
  by_cases h : k.traffic
  · have := hv.slots h
    left
    split <;> omega
  · exact .inr h

/-- R17, R13: a held port that gives its seat back rests in DISABLED. -/
theorem vacates {st : PortState} (hv : v.Ok x (k.hold p st) p) (hst : st ≠ .fault) (hk : Scope.SameOff p k k')
    (hk0 : k'.held p = none) (a : Option RateClass) {n : Nat} (hn : n ≤ 1 ∨ ¬ k'.traffic) {b : List Word16}
    (hb : k'.bindings → b = []) :
    ({ v with r := ({ v.r with state := .disabled, negotiated := a } : PortRec).unseat, slots := n, bound := b } :
      PortView).Ok x k' p := by
  obtain ⟨hvst, hp⟩ := hv.held st (k.held_hold p st)
  have h_unseated : v.r.state ≠ .unseated := fun h => by rw [← hvst, h] at hp; cases hp
  have h_absent : v.r.state ≠ .absent := fun h => by rw [← hvst, h] at hp; cases hp
  have h_wait : v.r.state.waitKind = none := by rw [hvst]; cases st <;> cases hp <;> rfl
  have hg : v.r.granted = none := by
    have := hv.granted
    rw [Scope.held_hold] at this
    simpa using this
  exact
    { held := fun st h => by rw [hk0] at h; cases h
      binding := ⟨fun h => absurd rfl h, fun h => by
        rcases h with h | h
        · cases h
        · rw [hk0] at h; cases h⟩
      seatCeil := by rw [hk0]; rfl
      granted := show v.r.granted.isSome = false by rw [hg]; rfl
      seat := hv.seat.trans (if_neg h_unseated)
      waits := hv.waits.trans (by rw [h_wait]; rfl)
      blade := fun h => ⟨nofun, fun h' => absurd ((hv.blade (by rw [hk.waived] at h; exact h)).2 h') h_absent⟩
      effCeil := rfl
      ceiling := fun _ g h => by
        have h : g ∈ v.r.granted := h
        rw [hg] at h
        cases h
      drains := nofun
      still := fun _ => rfl
      logins := fun ht h0 => by
        have := hv.logins (by rw [hk.traffic] at ht; exact ht) h0
        rw [Scope.held_hold, hvst] at this
        rcases this with h | ⟨-, h⟩ | h
        · rw [h] at hp; cases hp
        · cases h
        · exact absurd (Option.some.inj h) hst
      draining := nofun
      slots := fun h => hn.resolve_right fun h' => h' h
      bound := fun h => by rw [hb h]; rfl
      left := nofun }

/-- What is said of a port that rests is said less of it when it does not. -/
theorem unrest {q : PortId} (hv : v.Ok x (k.rest p) q) : v.Ok x k q := { hv with still := fun h => hv.still (.inr h) }

theorem unserve {q : PortId} (hv : v.Ok x (k.serve p) q) : v.Ok x k q :=
  { hv with left := fun h id ho hb => (hv.left h id ho hb).2 }

theorem serve (hv : v.Ok x k p) (hl : k.bindings → ∀ id ∈ k.old, v.r.binding ≠ .licence id) : v.Ok x (k.serve p) p :=
  { hv with left := fun h id ho hb => absurd hb (hl h id ho) }

theorem lift (hv : v.Ok x k p) : v.Ok x (k.lift p) p := { hv with ceiling := fun h => absurd (.inl rfl) h }

end PortView.Ok

section

variable {x : Ctx} {k k' : Scope} {p : PortId} {c : Chassis} {h : Hooks}

theorem Chassis.Sound.unrest (hc : c.Sound x (k.rest p)) : c.Sound x k := ⟨fun q => (hc.port q).unrest, hc.keys⟩

theorem Chassis.Sound.unserve (hc : c.Sound x (k.serve p)) : c.Sound x k := ⟨fun q => (hc.port q).unserve, hc.keys⟩

/-- A port without a seat is on no bound seat list. -/
theorem PortView.Ok.bound_nil {v : PortView} (hv : v.Ok x k p) (hs : v.r.state.seated = false) (hk : k.held p = none)
    (hb : k.bindings) : v.bound = [] := by
  have : v.r.binding = .none := by
    by_contra hne
    rcases hv.binding.1 hne with h | h
    · rw [hs] at h; cases h
    · rw [hk] at h; cases h
  rw [hv.bound hb, this]
  rfl

/-! ## Requests and releases (R84, R85, R141) -/

variable (hh : h.Sounds x)
include hh

theorem Chassis.SoundOff.grantRelease (hc : c.SoundOff x k p)
    (hat : ({ c.view p with r := { c.port p with granted := none }, waits := [] } : PortView).Ok x k p) :
    (c.grantRelease x h p).Sound x k := by
  obtain ⟨d, hm, hv, he⟩ := c.grantRelease_moves p x h
  have hd : d.Sound x k := hc.step hm (.refl k p) (by rw [hv]; exact hat)
  rcases he with he | he
  · rw [he]; exact hd
  · rw [he]; exact hh.eval hd

theorem Chassis.SoundOff.seatRelease (hc : c.SoundOff x k p)
    (hb : k.bindings → (c.view p).bound = (c.port p).binding.lists k.old)
    (hat : ∀ b, (k.bindings → b = []) →
      ({ c.view p with r := (c.port p).unseat, bound := b } : PortView).Ok x k p) :
    (c.seatRelease x h p).Sound x k := by
  obtain ⟨d, b, hm, hv, hnil, he⟩ := c.seatRelease_moves p x h
  have hd : d.Sound x k := hc.step hm (.refl k p) (by rw [hv]; exact hat b fun hk => hnil _ (hb hk))
  rcases he with he | he
  · rw [he]; exact hd
  · rw [he]; exact hh.pass hd

theorem Chassis.SoundOff.grantRequest (hc : c.SoundOff x k p) (hw : (c.view p).waits = [])
    (hg : (c.port p).granted = none) (hat : ({ c.view p with waits := [.powerWait] } : PortView).Ok x k p) :
    (c.grantRequest x h p).Sound x k := by
  unfold Chassis.grantRequest
  rw [(c.onWaitList_eq_false p).2 hw, hg]
  refine hh.eval (hc.step (c.movesAt_joinWait p x .powerWait) (.refl k p) ?_)
  rw [Chassis.view_joinWait, hw]
  exact hat

theorem Chassis.SoundOff.seatBound (hc : c.SoundOff x k p) (hw : (c.view p).waits = []) (hg : (c.port p).granted = none)
    {b : Binding} {ceil : RateClass}
    (hat : ({ c.view p with
      r := { (c.port p).seatAt x p b (some ceil) with state := .powerWait }, waits := [.powerWait] } : PortView).Ok x k p) :
    (c.seatBound x h p b ceil).Sound x k := by
  have hv := c.view_setPort p { (c.port p).seatAt x p b (some ceil) with state := .powerWait }
  refine Chassis.SoundOff.grantRequest (c := c.setPort p { (c.port p).seatAt x p b (some ceil) with state := .powerWait })
    hh (hc.move (c.movesAt_setPort p _) (.refl k p)) ?_ ?_ ?_
  · rw [hv]; exact hw
  · rw [Chassis.port_setPort_self]; exact hg
  · rw [hv]; exact hat

/-- R84: a seat request of a port at rest. -/
theorem Chassis.Sound.seatRequest (hc : c.Sound x k) (hs : (c.port p).state = .disabled) (hk : k.held p = none)
    (hr : ¬ k.still p) : (c.seatRequest x h p).Sound x k := by
  have hp := hc.port p
  have hs' : (c.view p).r.state = .disabled := hs
  have hseat : (c.view p).seat = 0 := by rw [hp.seat, hs']; rfl
  have hw : (c.view p).waits = [] := by rw [hp.waits, hs']; rfl
  have hg : (c.port p).granted = none := by
    have hgr := hp.granted
    rw [hs'] at hgr
    exact Option.isSome_eq_false_iff.1 hgr |> Option.isNone_iff_eq_none.1
  have hbound (hb : k.bindings) : (c.view p).bound = [] := hp.bound_nil (by rw [hs']; rfl) hk hb
  unfold Chassis.seatRequest
  split
  · rename_i l hl
    obtain ⟨b, hv, hbl⟩ := Chassis.view_bindChoice hc.keys hl hbound
    have hv' : ((c.bindSeat l.id p).setGrace p 0).view p = { c.view p with bound := b } := by
      rw [Chassis.view_setGrace, hv]
    have hr' : ((c.bindSeat l.id p).setGrace p 0).port p = c.port p := congrArg PortView.r hv'
    refine Chassis.SoundOff.seatBound hh ((hc.off p).move
      ((c.movesAt_bindSeat p l.id).trans (Chassis.movesAt_setGrace _ p 0)) (.refl k p)) ?_ ?_ ?_
    · rw [hv']; exact hw
    · rw [hr']; exact hg
    · rw [hv', hr']
      have := hp.asks (.inl hs') hk hr (b := .licence l.id) (by exact nofun) l.ceiling hbl
        (fun hb id ho he => by cases he; exact hc.keys.choice_ne hb hl ho)
      rw [← hseat] at this
      exact this
  · split
    · refine Chassis.SoundOff.seatBound hh (hc.off p) hw hg ?_
      have := hp.asks (.inl hs') hk hr (b := .counted) (by exact nofun) (x.cfg.port p).reqClass (bound := (c.view p).bound)
        (fun hb => by rw [hbound hb]; rfl) (fun _ _ _ => by exact nofun)
      rw [← hseat] at this
      exact this
    · refine (hc.off p).step ((c.movesAt_setPort p _).trans (Chassis.movesAt_joinSeatWait _ p)) (.refl k p) ?_
      rw [Chassis.view_joinSeatWait, Chassis.view_setPort]
      exact hp.queues hs' hk hr

/-! ## Drains (R16 to R18) -/

/-- R17: the end of a drain; `st` is the drain in which the port is held while its grant goes back. -/
theorem Chassis.SoundOff.drainEnd (hc : c.SoundOff x k p) {st : PortState} (hst : st ≠ .fault)
    (hat : ({ c.view p with r := { c.port p with granted := none }, waits := [], logins := 0 } : PortView).Ok x
      (k.hold p st) p)
    (hk : Scope.SameOff p k k') (hk0 : k'.held p = none) (hr : ¬ k'.still p) (t : DrainTarget) :
    (c.drainEnd x h p t).Sound x k' := by
  have h1 : ((c.removeLogins p).grantRelease x h p).Sound x (k.hold p st) := by
    refine Chassis.SoundOff.grantRelease hh (hc.move (c.movesAt_removeLogins p) (k.sameOff_hold p st)) ?_
    rw [Chassis.view_removeLogins]
    exact hat
  generalize hd : (c.removeLogins p).grantRelease x h p = d at h1
  have hk' : Scope.SameOff p (k.hold p st) (k'.rest p) := ((k.sameOff_hold p st).symm.trans hk).trans (k'.sameOff_rest p)
  have hv := (d.putControl x p .disable).view_setPort p
    { (d.putControl x p .disable).port p with state := .disabled, negotiated := none }
  have hport : (d.putControl x p .disable).port p = d.port p := by
    unfold Chassis.putControl
    split <;> rfl
  rw [Chassis.view_putControl] at hv
  have h2 : (((d.putControl x p .disable).setPort p
      { (d.putControl x p .disable).port p with state := .disabled, negotiated := none }).seatRelease x h p).Sound x
      (k'.rest p) := by
    refine Chassis.SoundOff.seatRelease hh ((h1.off p).move ((d.movesAt_putControl p x _).trans
      (Chassis.movesAt_setPort _ p _)) hk') (fun hb => ?_) fun b hb => ?_
    · rw [hv, Chassis.port_setPort_self, hport]
      have := (h1.port p).bound (by rw [← hk'.bindings]; exact hb)
      rw [← hk'.old] at this
      exact this
    · rw [hv, Chassis.port_setPort_self, hport]
      refine (h1.port p).vacates hst (hk.trans (k'.sameOff_rest p)) hk0 none ?_ hb
      rw [hk'.traffic]
      exact (h1.port p).slots_put
  have hdis := (h2.port p).still (.inl rfl)
  unfold Chassis.drainEnd
  dsimp only
  rw [hd]
  cases t with
  | disabled => exact h2.unrest
  | unseated => exact h2.unrest.seatRequest hh hdis hk0 hr

end

end Sys2Proof.Machine

/-! # The table of the nine states: ceilings, seat losses, the passes and the evaluation -/

namespace Sys2Proof.Machine

/-! ## More rows -/

namespace PortView.Ok

variable {x : Ctx} {k k' : Scope} {p : PortId} {v : PortView} (hv : v.Ok x k p)
include hv

theorem not_still_of_seated (hs : v.r.state.seated = true) : ¬ k.still p := fun h => by
  rw [hv.still h] at hs
  cases hs

/-- R16: a port with a login that begins to drain. -/
theorem begins (hs : v.r.state = .linkWait ∨ v.r.state = .online) (hd : k.drains p) (hl : 0 < v.logins)
    (t : DrainTarget) (n : Nat) : ({ v with r := { v.r with state := .draining t n } } : PortView).Ok x k p := by
  have hk := hv.not_held_of_seat (by rcases hs with h | h <;> rw [h] <;> rfl)
  obtain ⟨h1, h2, h3, h4, h5, h6, h7, h8, h9, h10, h11, h12, h13, h14, h15, h16⟩ := hv
  rcases hs with hs | hs <;> constructor <;>
    simp_all [PortState.seated, PortState.runs, PortState.waitKind, PortState.isDraining]

/-- R23: a seat lost to a drain-hold binding. -/
theorem holds (hs : v.r.state.seated = true) (hb : k.bindings → v.bound = []) :
    ({ v with r := { v.r with binding := .drainHold } } : PortView).Ok x k p :=
  { hv with
    binding := ⟨fun _ => .inl hs, fun _ => nofun⟩
    bound := hb
    left := nofun }

/-- R23: a port that loses its seat waits for another. -/
theorem unseats (hs : v.r.state = .powerWait ∨ v.r.state = .shed ∨ v.r.state = .fault) (hk : k.held p = none)
    (hb : k.bindings → v.bound = []) :
    ({ v with
      r := { v.r.unseat with state := .unseated, granted := none }
      seat := v.seat + 1, waits := [] } : PortView).Ok x k p := by
  obtain ⟨h1, h2, h3, h4, h5, h6, h7, h8, h9, h10, h11, h12, h13, h14, h15, h16⟩ := hv
  have hnil : Binding.lists k.old .none = [] := rfl
  rcases hs with hs | hs | hs <;> constructor <;>
    simp_all [PortRec.unseat, PortState.seated, PortState.runs, PortState.waitKind, PortState.isDraining, effective]

/-- R79: the bound seat lists on which the port of a counted grace binding stands, or one of the licence whose list
has been taken. -/
theorem bound_nil_of {b : Binding} (hb : v.r.binding = b) (h : b.lists k.old = []) (hbi : k.bindings) : v.bound = [] := by
  rw [hv.bound hbi, hb, h]

end PortView.Ok

section

variable {x : Ctx} {k k' : Scope} {p : PortId} {c : Chassis} {h : Hooks} (hh : h.Sounds x)
include hh

/-- R17: the drain of a port that runs ends; its grant may be above its ceiling. -/
theorem Chassis.SoundOff.endsDrain (hc : c.SoundOff x k p) (hp : (c.view p).Ok x (k.lift p) p) {d : DrainTarget} {n : Nat}
    (hs : (c.port p).state = .draining d n) (hk : Scope.SameOff p k k') (hk0 : k'.held p = none)
    (hr : k'.still p → k.still p) (t : DrainTarget) : (c.drainEnd x h p t).Sound x k' := by
  have hs' : (c.view p).r.state = .draining d n := hs
  refine hc.drainEnd hh (st := .draining d n) nofun ?_ hk hk0 (fun h => ?_) t
  · have := hp.parked (by rw [hs']; rfl) (st := .draining d n) rfl (fun _ => hp.drains (by rw [hs']; rfl)) (n := 0)
      fun _ => .inl rfl
    rw [← hs'] at this ⊢
    exact this
  · have := hp.still (hr h)
    rw [hs'] at this
    cases this

/-- R16: a drain starts, or ends in the same event. -/
theorem Chassis.SoundOff.startDrain (hc : c.SoundOff x k p) (hp : (c.view p).Ok x k p)
    (hs : (c.port p).state = .linkWait ∨ (c.port p).state = .online) (hd : k.drains p) (t : DrainTarget) :
    (c.startDrain x h p t).Sound x k := by
  have hs' : (c.view p).r.state = .linkWait ∨ (c.view p).r.state = .online := hs
  have hseated : (c.view p).r.state.seated = true := by rcases hs' with h | h <;> rw [h] <;> rfl
  have hk0 := hp.not_held_of_seat (by rcases hs' with h | h <;> rw [h] <;> rfl)
  unfold Chassis.startDrain
  dsimp only
  generalize hn : x.clockMs + (x.cfg.port p).drainSecs * 1000 = n
  have hm := c.movesAt_setPort p { c.port p with state := .draining t n }
  have hv := c.view_setPort p { c.port p with state := .draining t n }
  split
  · refine Chassis.SoundOff.drainEnd hh (hc.move hm (.refl k p)) (st := .draining t n) nofun ?_ (.refl k p) hk0
      (hp.not_still_of_seated hseated) t
    rw [hv, Chassis.port_setPort_self]
    exact hp.lift.parked hseated rfl (fun _ => hd) fun _ => .inl rfl
  · rename_i hno
    refine hc.step hm (.refl k p) ?_
    rw [hv]
    refine hp.begins hs' hd (Nat.pos_of_ne_zero fun h0 => hno ?_) t n
    have h0 : c.loginCount p = 0 := h0
    rw [Bool.or_eq_true, decide_eq_true_iff, decide_eq_true_iff]
    exact .inr h0

/-! ## Ceilings (R14, R22) -/

/-- R14, R22: a grant above the ceiling is brought down, or its drain ends. -/
theorem Chassis.SoundOff.ceilingFell (hc : c.SoundOff x k p) (hp : (c.view p).Ok x (k.lift p) p) :
    (c.ceilingFell x h p).Sound x k := by
  have hstand (hle : ∀ g ∈ (c.port p).granted, ∃ e ∈ (c.port p).effCeil, g.num ≤ e.num) : c.Sound x k :=
    hc.sound (hp.unlift hle)
  have hlower {g e : RateClass} (hg : (c.port p).granted = some g) (he : (c.port p).effCeil = some e) :
      (c.reenableLower x h p e).Sound x k := by
    refine hh.eval (hc.step (((c.movesAt_setPort p
      { c.port p with granted := some e, state := .linkWait, negotiated := none }).trans
        (Chassis.movesAt_putControl _ p x _)).trans (Chassis.movesAt_removeLogins _ p)) (.refl k p) ?_)
    rw [Chassis.view_removeLogins, Chassis.view_putControl, Chassis.view_setPort]
    exact hp.lowers hg he hp.slots_put
  unfold Chassis.ceilingFell
  dsimp only
  split
  · rename_i g e hg he
    split
    · split
      · exact hlower hg he
      · exact hlower hg he
      · rename_i t d hst
        exact hc.endsDrain hh hp hst (.refl k p) (hp.runs_of_granted
          (show (c.port p).granted.isSome = true by rw [hg]; rfl)).2 (fun h => h) t
      · rename_i h1 h2 h3
        have hr := (hp.runs_of_granted (show (c.port p).granted.isSome = true by rw [hg]; rfl)).1
        rcases PortState.eq_of_runs hr with h | h | ⟨t, d, h⟩
        · exact absurd h h1
        · exact absurd h h2
        · exact absurd h (h3 t d)
    · rename_i hle
      refine hstand fun g' hg' => ⟨e, he, ?_⟩
      have hgg : g = g' := Option.some.inj (hg.symm.trans hg')
      exact hgg ▸ Nat.le_of_not_lt hle
  · rename_i hno
    refine hstand fun g hg => ?_
    have hr := hp.runs_of_granted (show (c.port p).granted.isSome = true by rw [show _ = _ from hg]; rfl)
    have hceil : ((c.port p).effCeil).isSome = true := by
      have he := hp.effCeil
      have hs := hp.seatCeil
      rw [show (c.view p).r.state.seated = true by
        rcases PortState.eq_of_runs hr.1 with h | h | ⟨t, d, h⟩ <;> rw [h] <;> rfl] at hs
      rw [show (c.port p).effCeil = _ from he, effective, Option.isSome_map]
      exact hs
    obtain ⟨e, he⟩ := Option.isSome_iff_exists.1 hceil
    exact absurd he (hno g e hg)

/-- R22: a seat notice. -/
theorem Chassis.SoundOff.seatNotice (hc : c.SoundOff x k p) {b : Binding} {ceil : Option RateClass}
    (hat : ({ c.view p with r := (c.port p).seatAt x p b ceil } : PortView).Ok x (k.lift p) p) :
    (c.seatNotice x h p b ceil).Sound x k := by
  refine Chassis.SoundOff.ceilingFell hh (hc.move (c.movesAt_setPort p _) (.refl k p)) ?_
  rw [Chassis.view_setPort]
  exact hat

/-- R23: a seat loss without grace; the port is then not bound to the licence whose list was taken. -/
theorem Chassis.Sound.seatLoss (hc : c.Sound x k) (hk0 : k.held p = none) (hd : k.drains p)
    (hb : k.bindings → (c.view p).bound = []) : (c.seatLoss x h p).Sound x (k.serve p) := by
  have hp := hc.port p
  have hoff : c.SoundOff x (k.serve p) p := (hc.off p).move (.refl p c) (k.sameOff_serve p)
  have hdrain (hs : (c.port p).state = .linkWait ∨ (c.port p).state = .online) :
      (Chassis.startDrain x h p .unseated (c.setPort p { c.port p with binding := .drainHold })).Sound x (k.serve p) := by
    refine Chassis.SoundOff.startDrain hh (hoff.move (c.movesAt_setPort p _) (.refl _ p)) ?_ ?_ hd _
    · rw [Chassis.view_setPort]
      exact (hp.holds (by rcases hs with h | h <;> rw [show (c.view p).r.state = _ from h] <;> rfl) hb).serve nofun
    · rw [Chassis.port_setPort_self]; exact hs
  have hwait (hs : (c.port p).state = .powerWait ∨ (c.port p).state = .shed ∨ (c.port p).state = .fault) :
      (Chassis.grantRelease x h p ((c.setPort p { c.port p with
        state := .unseated, binding := .none, seatCeil := none, effCeil := none }).joinSeatWait p)).Sound x
        (k.serve p) := by
    refine Chassis.SoundOff.grantRelease hh (hoff.move ((c.movesAt_setPort p _).trans
      (Chassis.movesAt_joinSeatWait _ p)) (.refl _ p)) ?_
    rw [Chassis.view_joinSeatWait, Chassis.view_setPort]
    rw [show ∀ r, ((c.setPort p r).joinSeatWait p).port p = r from fun r => c.port_setPort_self p r]
    exact (hp.unseats hs hk0 hb).serve nofun
  have hrest (hs : (c.port p).state.seated = false) : c.Sound x (k.serve p) := by
    refine hoff.sound (hp.serve fun _ id _ hbi => ?_)
    rcases hp.binding.1 (by rw [hbi]; nofun) with h | h
    · rw [show (c.view p).r.state.seated = false from hs] at h; cases h
    · rw [hk0] at h; cases h
  unfold Chassis.seatLoss
  dsimp only
  split
  · rename_i hs; exact hdrain (.inl hs)
  · rename_i hs; exact hdrain (.inr hs)
  · rename_i t d hs
    refine hoff.step (c.movesAt_setPort p _) (.refl _ p) ?_
    rw [Chassis.view_setPort]
    exact (hp.holds (by rw [show (c.view p).r.state = _ from hs]; rfl) hb).serve nofun
  · rename_i hs; exact hwait (.inl hs)
  · rename_i hs; exact hwait (.inr (.inl hs))
  · rename_i hs; exact hwait (.inr (.inr hs))
  · rename_i hs; exact hrest (by rw [hs]; rfl)
  · rename_i hs; exact hrest (by rw [hs]; rfl)
  · rename_i hs; exact hrest (by rw [hs]; rfl)

/-! ## Revocations (R145) -/

theorem Chassis.Sound.revoke (hc : c.Sound x k) (hg : (c.port p).granted.isSome = true) : (c.revoke x h p).Sound x k := by
  have hp := hc.port p
  obtain ⟨hr, hk0⟩ := hp.runs_of_granted hg
  have hshed (hs : (c.port p).state = .linkWait ∨ (c.port p).state = .online) :
      ((((c.setPort p { c.port p with state := .shed, granted := none, negotiated := none }).putControl x p
        .disable).removeLogins p).joinWait x p .shed).Sound x k := by
    refine (hc.off p).step ((((c.movesAt_setPort p _).trans (Chassis.movesAt_putControl _ p x _)).trans
      (Chassis.movesAt_removeLogins _ p)).trans (Chassis.movesAt_joinWait _ p x _)) (.refl k p) ?_
    rw [Chassis.view_joinWait, Chassis.view_removeLogins, Chassis.view_putControl, Chassis.view_setPort]
    exact hp.sheds hg hs hp.slots_put
  unfold Chassis.revoke
  dsimp only
  split
  · rename_i hs; exact hshed (.inl hs)
  · rename_i hs; exact hshed (.inr hs)
  · rename_i t d hs
    have hs' : (c.view p).r.state = .draining t d := hs
    refine Chassis.SoundOff.drainEnd hh ((hc.off p).move (c.movesAt_setPort p _) (.refl k p)) (st := .draining t d) nofun
      ?_ (.refl k p) hk0 (hp.not_still_of_seated (by rw [hs']; rfl)) t
    rw [Chassis.view_setPort, Chassis.port_setPort_self]
    have := hp.lift.parked (by rw [hs']; rfl) (st := .draining t d) rfl (fun _ => hp.drains (by rw [hs']; rfl)) (n := 0)
      fun _ => .inl rfl
    rw [← hs'] at this ⊢
    exact this
  · rename_i h1 h2 h3
    rcases PortState.eq_of_runs hr with h | h | ⟨t, d, h⟩
    · exact absurd h h1
    · exact absurd h h2
    · exact absurd h (h3 t d)

end

end Sys2Proof.Machine

/-! # The table of the nine states: passes, evaluation and hooks -/

namespace Sys2Proof.Machine

/-! ## The classes offered and the order of the wait list -/

/-- R149: no class above the ceiling is offered. -/
theorem le_of_mem_offers {ceil : Option RateClass} {b : Bool} {g : RateClass} (hg : g ∈ offers ceil b) :
    ∃ e ∈ ceil, g.num ≤ e.num := by
  unfold offers at hg
  split at hg
  · cases hg
  · rename_i e
    refine ⟨e, rfl, ?_⟩
    split at hg
    · cases e <;> cases g <;> simp_all [RateClass.downFrom, RateClass.num]
    · rw [List.mem_singleton] at hg
      rw [hg]

theorem insertWait_perm (prio : PortId → Nat) (e : WaitEntry) (l : List WaitEntry) :
    (insertWait prio e l).Perm (e :: l) := by
  induction l with
  | nil => exact .refl _
  | cons f fs ih =>
    unfold insertWait
    split
    · exact (ih.cons f).trans (.swap e f fs)
    · exact .refl _

theorem Chassis.waitOrder_perm (x : Ctx) (c : Chassis) : (c.waitOrder x).Perm c.pwr.waitList := by
  have h (l acc : List WaitEntry) :
      (l.foldl (fun acc e => insertWait (fun p => (x.cfg.port p).priority) e acc) acc).Perm (l ++ acc) := by
    induction l generalizing acc with
    | nil => exact .refl _
    | cons a as ih =>
      rw [List.foldl_cons]
      exact (ih _).trans (((insertWait_perm _ a acc).append_left as).trans List.perm_middle)
  have := h c.pwr.waitList []
  rwa [List.append_nil] at this

section

variable {x : Ctx} {k : Scope} {p : PortId} {c : Chassis}

/-- R147: no port stands twice on the grant wait list. -/
theorem Chassis.Sound.waits_nodup (hc : c.Sound x k) : (c.pwr.waitList.map WaitEntry.port).Nodup := by
  rw [List.nodup_iff_count_le_one]
  intro p
  have h : (c.view p).waits.length ≤ 1 := by
    rw [(hc.port p).waits]
    cases (c.view p).r.state.waitKind <;> simp
  rw [List.count_eq_countP, List.countP_map, List.countP_eq_length_filter]
  have hl : (c.view p).waits.length = (c.pwr.waitList.filter fun e => e.port == p).length := List.length_map _
  rw [hl] at h
  exact h

/-! ## The grant pass (R149) -/

/-- R149: one entry of the grant wait list; the other entries stay. -/
theorem Chassis.Sound.offerGrant (hc : c.Sound x k) {e : WaitEntry} (he : c.onWaitList e.port = true) :
    (c.offerGrant x e).Sound x k ∧ ∀ q, q ≠ e.port → (c.offerGrant x e).onWaitList q = c.onWaitList q := by
  unfold Chassis.offerGrant
  split
  · exact ⟨hc, fun _ _ => rfl⟩
  · dsimp only
    split
    · exact ⟨hc, fun _ _ => rfl⟩
    · rename_i g hg
      have hp := hc.port e.port
      have hw : (c.view e.port).waits ≠ [] := fun h => by
        rw [← Chassis.onWaitList_eq_false, he] at h
        cases h
      have hm : c.MovesAt e.port ((c.takeGrant x e.port g).leaveWait x e.port) :=
        ((c.movesAt_setPort e.port _).trans (Chassis.movesAt_putControl _ _ x _)).trans (Chassis.movesAt_leaveWait _ _ x)
      have hd : ((c.takeGrant x e.port g).leaveWait x e.port).Sound x k := by
        refine (hc.off e.port).step hm (.refl k _) ?_
        rw [Chassis.view_leaveWait]
        unfold Chassis.takeGrant
        rw [Chassis.view_putControl, Chassis.view_setPort]
        exact hp.takes (hp.waits_cases hw) (le_of_mem_offers (List.mem_of_find?_eq_some hg)) hp.slots_put
      refine ⟨hd.of_view (fun q => Chassis.view_setPwr _ q rfl) rfl, fun q hq => ?_⟩
      have hv := hm.view q hq
      have h1 := Chassis.onWaitList_eq_false ((c.takeGrant x e.port g).leaveWait x e.port) q
      have h2 := Chassis.onWaitList_eq_false c q
      rw [hv] at h1
      have h3 : (Chassis.setPwr ((c.takeGrant x e.port g).leaveWait x e.port)
          (((c.takeGrant x e.port g).leaveWait x e.port).pwr.countGrant x.clockMs)).onWaitList q =
          ((c.takeGrant x e.port g).leaveWait x e.port).onWaitList q := rfl
      rw [h3]
      exact Bool.eq_iff_iff.2 (by rw [← Bool.not_eq_false, ← Bool.not_eq_false, h1, h2])

theorem Chassis.Sound.offers (es : List WaitEntry) (hn : (es.map WaitEntry.port).Nodup) (hc : c.Sound x k)
    (he : ∀ e ∈ es, c.onWaitList e.port = true) : (es.foldl (Chassis.offerGrant x) c).Sound x k := by
  induction es generalizing c with
  | nil => exact hc
  | cons e es ih =>
    obtain ⟨h1, h2⟩ := hc.offerGrant (he e List.mem_cons_self)
    rw [List.map_cons, List.nodup_cons] at hn
    refine ih hn.2 h1 fun f hf => ?_
    rw [h2 f.port fun h => hn.1 (h ▸ List.mem_map_of_mem hf)]
    exact he f (List.mem_cons_of_mem _ hf)

theorem Chassis.Sound.grantPass (hc : c.Sound x k) : (c.grantPass x).Sound x k := by
  have hp := c.waitOrder_perm x
  exact hc.offers _ ((hp.map WaitEntry.port).nodup_iff.2 hc.waits_nodup) fun e he =>
    Chassis.onWaitList_iff.2 ⟨e, hp.mem_iff.1 he, rfl⟩

/-! ## Binding passes (R87) -/

theorem Chassis.Sound.markPass (hc : c.Sound x k) : c.markPass.Sound x k := hc.of_view (fun _ => rfl) rfl

section

variable {h : Hooks} (hh : h.Sounds x)
include hh

theorem Chassis.Sound.serveGrace (hc : c.Sound x k) : (Chassis.serveGrace x h c p).Sound x k := by
  unfold Chassis.serveGrace
  split
  · rename_i hb
    split
    · rename_i l hl
      have hp := hc.port p
      obtain ⟨b, hv, hbl⟩ := Chassis.view_bindChoice hc.keys hl fun hbi => hp.bound_nil_of hb rfl hbi
      have hv' : ((c.bindSeat l.id p).setGrace p 0).view p = { c.view p with bound := b } := by
        rw [Chassis.view_setGrace, hv]
      refine Chassis.SoundOff.seatNotice hh ((hc.off p).move
        ((c.movesAt_bindSeat p l.id).trans (Chassis.movesAt_setGrace _ p 0)) (.refl k p)) ?_
      rw [hv', show ((c.bindSeat l.id p).setGrace p 0).port p = c.port p from congrArg PortView.r hv']
      exact hp.notices (b := .licence l.id) (by rw [show (c.view p).r.binding = _ from hb]; nofun) nofun rfl hbl
        fun hb id ho he => by cases he; exact hc.keys.choice_ne hb hl ho
    · exact hc
  · exact hc

theorem Chassis.Sound.serveWaiting (hc : c.Sound x k) : (Chassis.serveWaiting x h c p).Sound x k := by
  unfold Chassis.serveWaiting
  split
  · rename_i hw
    split
    · rename_i l hl
      have hp := hc.port p
      have hs : (c.view p).r.state = .unseated := by
        by_contra hne
        have := hp.seat
        rw [if_neg hne] at this
        exact List.count_eq_zero.1 this (List.contains_iff_mem.1 hw)
      have hk0 := hp.not_held_of_seat (by rw [hs]; rfl)
      have hr : ¬ k.still p := fun h => by
        have := hp.still h
        rw [hs] at this
        cases this
      have hg : (c.port p).granted = none := by
        have hgr := hp.granted
        rw [hs] at hgr
        exact Option.isNone_iff_eq_none.1 (Option.isSome_eq_false_iff.1 hgr)
      obtain ⟨b, hv, hbl⟩ := Chassis.view_bindChoice (c := c.leaveSeatWait p) (p := p) (x := x) (k := k) hc.keys hl
        fun hbi => hp.bound_nil (by rw [hs]; rfl) hk0 hbi
      rw [Chassis.view_leaveSeatWait] at hv
      have hport : ((c.leaveSeatWait p).bindSeat l.id p).port p = c.port p := congrArg PortView.r hv
      refine Chassis.SoundOff.seatBound hh ((hc.off p).move ((c.movesAt_leaveSeatWait p).trans
        (Chassis.movesAt_bindSeat _ p l.id)) (.refl k p)) ?_ ?_ ?_
      · rw [hv]
        show (c.view p).waits = []
        rw [hp.waits, hs]
        rfl
      · rw [hport]; exact hg
      · rw [hv, hport]
        exact hp.asks (.inr hs) hk0 hr (b := .licence l.id) nofun l.ceiling hbl fun hb id ho he => by
          cases he
          exact hc.keys.choice_ne hb hl ho
    · exact hc
  · exact hc

theorem Chassis.Sound.onePass (hc : c.Sound x k) : (c.onePass x h).Sound x k := by
  have h1 : (allPorts.foldl (Chassis.serveGrace x h) c).Sound x k :=
    List.foldlRecOn (motive := fun d : Chassis => d.Sound x k) _ _ hc fun _ hd p _ => hd.serveGrace hh
  exact List.foldlRecOn (motive := fun d : Chassis => d.Sound x k) _ _ h1 fun _ hd p _ => hd.serveWaiting hh

omit hh

theorem Chassis.Sound.passes {eval : Chassis → Chassis} (hh : (⟨eval, Chassis.markPass⟩ : Hooks).Sounds x) (n : Nat)
    (hc : c.Sound x k) : (c.passes x eval n).Sound x k := by
  induction n generalizing c with
  | zero => exact hc.of_view (fun _ => rfl) rfl
  | succ n ih =>
    have h1 : (Chassis.onePass x ⟨eval, Chassis.markPass⟩ { c with passDue := false }).Sound x k :=
      Chassis.Sound.onePass (c := { c with passDue := false }) hh (hc.of_view (fun _ => rfl) rfl)
    unfold Chassis.passes
    dsimp only
    split
    · exact ih h1
    · exact h1

theorem Chassis.Sound.bindingPass {eval : Chassis → Chassis} (hh : (⟨eval, Chassis.markPass⟩ : Hooks).Sounds x)
    (hc : c.Sound x k) : (c.bindingPass x eval).Sound x k := hc.passes hh 257

theorem Chassis.Sound.passIfDue {eval : Chassis → Chassis} (hh : (⟨eval, Chassis.markPass⟩ : Hooks).Sounds x)
    (hc : c.Sound x k) : (c.passIfDue x eval).Sound x k := by
  unfold Chassis.passIfDue
  split
  · exact hc.bindingPass hh
  · exact hc

/-! ## The evaluation (R143) -/

include hh

theorem Chassis.Sound.shedLoop (budget n : Nat) (any : Bool) (hc : c.Sound x k) :
    (c.shedLoop x h budget n any).1.Sound x k := by
  induction n generalizing c any with
  | zero => exact hc
  | succ n ih =>
    unfold Chassis.shedLoop
    split
    · exact hc
    · split
      · exact hc
      · rename_i p hp
        exact ih _ (hc.revoke hh (Chassis.of_nextShed hp).1)

omit hh

theorem Chassis.Sound.openEpisode (hc : c.Sound x k) : (c.openEpisode x).Sound x k := by
  unfold Chassis.openEpisode
  split <;> exact hc.of_view (fun _ => rfl) rfl

theorem Chassis.Sound.closeEpisode (hc : c.Sound x k) : (c.closeEpisode x).Sound x k := by
  unfold Chassis.closeEpisode
  split <;> exact hc.of_view (fun _ => rfl) rfl

theorem Chassis.Sound.judgePowerWait (hc : c.Sound x k) : (c.judgePowerWait x).Sound x k := by
  obtain ⟨a, b, w, h⟩ := Chassis.judgePowerWait_frame x c
  rw [h]
  exact hc.of_view (fun _ => rfl) rfl

include hh

theorem Chassis.Sound.shedPass (hc : c.Sound x k) : (c.shedPass x h).Sound x k := by
  have hl := hc.shedLoop hh c.pwr.budget 256 false
  unfold Chassis.shedPass
  dsimp only
  split
  · refine Chassis.Sound.openEpisode (hl.of_view (fun _ => ?_) ?_) <;> rfl
  · exact hl

theorem Chassis.Sound.shedOrGrant (hc : c.Sound x k) : (c.shedOrGrant x h).Sound x k := by
  unfold Chassis.shedOrGrant
  split
  · exact hc.shedPass hh
  · split
    · exact hc.grantPass
    · exact hc

omit hh

theorem Chassis.Sound.evaluateWith {pass : Chassis → Chassis}
    (hpass : ∀ {k : Scope} {c : Chassis}, c.Sound x k → (pass c).Sound x k) (hc : c.Sound x k) :
    (c.evaluateWith x pass).Sound x k := by
  unfold Chassis.evaluateWith
  split
  · have h1 : (c.formBudget x).Sound x k := hc.of_view (fun _ => rfl) rfl
    exact ((h1.shedOrGrant (h := ⟨id, pass⟩) ⟨fun h => h, hpass⟩).closeEpisode).judgePowerWait
  · exact hc

theorem Chassis.Sound.evaluate (hc : c.Sound x k) : (c.evaluate x).Sound x k := by
  unfold Chassis.evaluate
  exact hc.evaluateWith fun h => h.bindingPass ⟨fun h => h, fun h => h.markPass⟩

theorem Chassis.Sound.evaluateInPass (hc : c.Sound x k) : (c.evaluateInPass x).Sound x k := by
  unfold Chassis.evaluateInPass
  exact hc.evaluateWith fun h => h.markPass

theorem inRebind_sounds (x : Ctx) : (inRebind x).Sounds x := ⟨fun h => h.evaluateInPass, fun h => h.markPass⟩

theorem Chassis.Sound.pass (hc : c.Sound x k) : (c.pass x).Sound x k := by
  unfold Chassis.pass
  exact hc.bindingPass (inRebind_sounds x)

theorem outer_sounds (x : Ctx) : (outer x).Sounds x where
  eval h := by rw [outer_eval]; exact h.evaluate
  pass h := by rw [outer_pass]; exact h.pass

/-- R133: a change of PWR's inputs. -/
theorem Chassis.Sound.handPwr (f : PwrInputs → PwrInputs) (hc : c.Sound x k) : (c.handPwr x f).Sound x k := by
  unfold Chassis.handPwr
  exact Chassis.Sound.evaluate (hc.of_view (fun _ => rfl) rfl)

end

end

end Sys2Proof.Machine

/-! # The table of the nine states: port events, logins and drains -/

namespace Sys2Proof.Machine

/-! ## More rows -/

namespace PortView.Ok

variable {x : Ctx} {k k' : Scope} {p : PortId} {v : PortView} (hv : v.Ok x k p)
include hv

/-- R8: the port comes up. -/
theorem links (hs : v.r.state = .linkWait) (a : Option RateClass) :
    ({ v with r := { v.r with state := .online, negotiated := a } } : PortView).Ok x k p := by
  have hk := hv.not_held_of_seat (by rw [hs]; rfl)
  obtain ⟨h1, h2, h3, h4, h5, h6, h7, h8, h9, h10, h11, h12, h13, h14, h15, h16⟩ := hv
  constructor <;> simp_all [PortState.seated, PortState.runs, PortState.waitKind, PortState.isDraining]

theorem with_negotiated (a : Option RateClass) : ({ v with r := { v.r with negotiated := a } } : PortView).Ok x k p :=
  { hv with }

/-- R9: the port goes down. -/
theorem unlinks (hs : v.r.state = .online) (a : Option RateClass) :
    ({ v with r := { v.r with state := .linkWait, negotiated := a }, logins := 0 } : PortView).Ok x k p := by
  have hk := hv.not_held_of_seat (by rw [hs]; rfl)
  obtain ⟨h1, h2, h3, h4, h5, h6, h7, h8, h9, h10, h11, h12, h13, h14, h15, h16⟩ := hv
  constructor <;> simp_all [PortState.seated, PortState.runs, PortState.waitKind, PortState.isDraining]

omit hv in
/-- R10: the logins of a port in FAULT are gone. -/
theorem faults (hv : v.Ok x (k.hold p .fault) p) (hk0 : k.held p = none) (a : Option RateClass) {n : Nat}
    (hn : n ≤ 1 ∨ ¬ k.traffic) :
    ({ v with r := { v.r with negotiated := a }, logins := 0, slots := n } : PortView).Ok x k p := by
  obtain ⟨hvst, -⟩ := hv.held .fault (k.held_hold p _)
  have hg := hv.granted
  rw [Scope.held_hold, Option.isNone_some, Bool.and_false] at hg
  have hseat := hv.seatCeil
  rw [hvst] at hseat
  exact
    { hv with
      held := fun st h => by rw [hk0] at h; cases h
      binding := ⟨fun _ => .inl (by rw [hvst]; rfl), fun _ => hv.binding.2 (.inl (by rw [hvst]; rfl))⟩
      seatCeil := by rw [hvst]; exact hseat
      granted := by rw [hvst]; exact hg
      logins := fun _ h => absurd h (Nat.lt_irrefl 0)
      draining := fun _ _ h => by rw [hvst] at h; cases h
      slots := fun h => hn.resolve_right fun h' => h' h }

/-- R11: a fault is cleared. -/
theorem clears (hs : v.r.state = .fault) (hk0 : k.held p = none) :
    ({ v with r := { v.r with state := .powerWait }, waits := [.powerWait] } : PortView).Ok x k p := by
  obtain ⟨h1, h2, h3, h4, h5, h6, h7, h8, h9, h10, h11, h12, h13, h14, h15, h16⟩ := hv
  constructor <;> simp_all [PortState.seated, PortState.runs, PortState.waitKind, PortState.isDraining]

/-- R12, R13: a drain takes another target, or is cancelled. -/
theorem turns {t : DrainTarget} {n : Nat} (hs : v.r.state = .draining t n) (hk0 : k.held p = none) {st : PortState}
    (hst : st = .online ∨ ∃ t m, st = .draining t m) : ({ v with r := { v.r with state := st } } : PortView).Ok x k p := by
  obtain ⟨h1, h2, h3, h4, h5, h6, h7, h8, h9, h10, h11, h12, h13, h14, h15, h16⟩ := hv
  rcases hst with rfl | ⟨t, m, rfl⟩ <;> constructor <;>
    simp_all [PortState.seated, PortState.runs, PortState.waitKind, PortState.isDraining]

/-- R13: a port that waited for a seat. -/
theorem leaves (hs : v.r.state = .unseated) :
    ({ v with r := { v.r with state := .disabled }, seat := 0 } : PortView).Ok x k p := by
  have hk := hv.not_held_of_seat (by rw [hs]; rfl)
  obtain ⟨h1, h2, h3, h4, h5, h6, h7, h8, h9, h10, h11, h12, h13, h14, h15, h16⟩ := hv
  constructor <;> simp_all [PortState.seated, PortState.runs, PortState.waitKind, PortState.isDraining]

/-- R28, R30: fewer logins, but for a drain not none. -/
theorem with_logins {n : Nat} (hn : k.traffic → 0 < n → 0 < v.logins)
    (h0 : k.traffic → v.r.state.isDraining = true → 0 < n) :
    ({ v with logins := n } : PortView).Ok x k p :=
  { hv with
    logins := fun ht h => hv.logins ht (hn ht h)
    draining := fun ht _ hs _ => h0 ht hs }

/-- R26: a login of a port in ONLINE. -/
theorem logs (hs : v.r.state = .online) (n : Nat) : ({ v with logins := n } : PortView).Ok x k p :=
  { hv with
    logins := fun _ _ => .inl hs
    draining := fun _ _ h => by rw [show _ = PortState.online from hs] at h; cases h }

end PortView.Ok

section

variable {x : Ctx} {k k' : Scope} {p : PortId} {c : Chassis}

/-- R8. -/
theorem Chassis.Sound.linkUp (hc : c.Sound x k) (r : RateClass) : (c.linkUp p r).Sound x k := by
  have hstep (r' : PortRec) (h : ({ c.view p with r := r' } : PortView).Ok x k p) : (c.setPort p r').Sound x k :=
    (hc.off p).step (c.movesAt_setPort p r') (.refl k p) (by rw [Chassis.view_setPort]; exact h)
  unfold Chassis.linkUp
  dsimp only
  split
  · rename_i hs; exact hstep _ ((hc.port p).links hs _)
  · exact hstep _ ((hc.port p).with_negotiated _)
  · exact hstep _ ((hc.port p).with_negotiated _)
  · exact hc

variable {h : Hooks} (hh : h.Sounds x)
include hh

/-- R9. -/
theorem Chassis.Sound.linkDown (hc : c.Sound x k) (hk0 : k.held p = none) : (c.linkDown x h p).Sound x k := by
  unfold Chassis.linkDown
  dsimp only
  split
  · rename_i hs
    refine (hc.off p).step ((c.movesAt_setPort p _).trans (Chassis.movesAt_removeLogins _ p)) (.refl k p) ?_
    rw [Chassis.view_removeLogins, Chassis.view_setPort]
    exact (hc.port p).unlinks hs _
  · rename_i t d hs
    exact (hc.off p).endsDrain hh (hc.port p).lift hs (.refl k p) hk0 (fun h => h) t
  · exact hc

/-- R18. -/
theorem Chassis.Sound.endDrainOf (hc : c.Sound x k) (hk : Scope.SameOff p k k') (hk0 : k'.held p = none)
    (hr : k'.still p → k.still p) (hrest : (c.port p).state.isDraining = false → (c.view p).Ok x k' p) :
    (c.endDrainOf x h p).Sound x k' := by
  unfold Chassis.endDrainOf
  split
  · rename_i t d hs
    exact (hc.off p).endsDrain hh (hc.port p).lift hs hk hk0 hr t
  · rename_i hno
    refine (hc.off p).step (.refl p c) hk (hrest ?_)
    cases hs : (c.port p).state
    case draining t d => exact absurd hs (hno t d)
    all_goals rfl

/-- R17, R28, R30: a login has left a port. -/
theorem Chassis.SoundOff.afterLoginRemoved (hc : c.SoundOff x k p) {v : PortView} (hv : v.Ok x k p)
    (hk0 : k.held p = none) (he : c.view p = { v with logins := c.loginCount p })
    (hle : k.traffic → c.loginCount p ≤ v.logins) : (c.afterLoginRemoved x h p).Sound x k := by
  have hr : c.port p = v.r := congrArg PortView.r he
  have hpos (ht : k.traffic) (h0 : 0 < c.loginCount p) : 0 < v.logins := Nat.lt_of_lt_of_le h0 (hle ht)
  unfold Chassis.afterLoginRemoved
  split
  · rename_i h0
    unfold Chassis.endDrainOf
    split
    · rename_i t d hs
      rw [hr] at hs
      refine hc.drainEnd hh (st := .draining t d) nofun ?_ (.refl k p) hk0 (hv.not_still_of_seated (by rw [hs]; rfl)) t
      rw [he, hr]
      have := hv.lift.parked (by rw [hs]; rfl) (st := .draining t d) rfl (fun _ => hv.drains (by rw [hs]; rfl)) (n := 0)
        fun _ => .inl rfl
      rw [← hs] at this ⊢
      exact this
    · rename_i hno
      refine hc.sound ?_
      rw [he]
      refine hv.with_logins hpos fun _ hd => ?_
      cases hs : v.r.state
      case draining t d => exact absurd (hr ▸ hs) (hno t d)
      all_goals rw [hs] at hd; cases hd
  · rename_i h0
    refine hc.sound ?_
    rw [he]
    exact hv.with_logins hpos fun _ _ => Nat.pos_of_ne_zero h0

/-- R10. -/
theorem Chassis.Sound.portFault (hc : c.Sound x k) (hk0 : k.held p = none) : (c.portFault x h p).Sound x k := by
  have hp := hc.port p
  have hfault (hs : (c.port p).state = .linkWait ∨ (c.port p).state = .online) :
      (Chassis.setPort (((Chassis.grantRelease x h p (c.setPort p { c.port p with state := .fault })).putControl x p
        .disable).removeLogins p) p
        { (((Chassis.grantRelease x h p (c.setPort p { c.port p with state := .fault })).putControl x p
          .disable).removeLogins p).port p with negotiated := none }).Sound x k := by
    have h1 : (Chassis.grantRelease x h p (c.setPort p { c.port p with state := .fault })).Sound x (k.hold p .fault) := by
      refine Chassis.SoundOff.grantRelease hh ((hc.off p).move (c.movesAt_setPort p _) (k.sameOff_hold p _)) ?_
      rw [Chassis.view_setPort, Chassis.port_setPort_self]
      exact hp.lift.parked (n := (c.view p).logins)
        (by rcases hs with h | h <;> rw [show (c.view p).r.state = _ from h] <;> rfl) rfl (fun h => by cases h)
        fun h => absurd rfl h
    generalize Chassis.grantRelease x h p _ = d at h1 ⊢
    refine (h1.off p).step (((d.movesAt_putControl p x _).trans (Chassis.movesAt_removeLogins _ p)).trans
      (Chassis.movesAt_setPort _ p _)) (k.sameOff_hold p _).symm ?_
    have hport : ((d.putControl x p .disable).removeLogins p).port p = d.port p := by
      unfold Chassis.putControl
      split <;> rfl
    rw [Chassis.view_setPort, Chassis.view_removeLogins, Chassis.view_putControl, hport]
    exact (h1.port p).faults hk0 none (h1.port p).slots_put
  unfold Chassis.portFault
  dsimp only
  split
  · rename_i hs; exact hfault (.inl hs)
  · rename_i hs; exact hfault (.inr hs)
  · rename_i t d hs
    exact (hc.off p).endsDrain hh (hc.port p).lift hs (.refl k p) hk0 (fun h => h) t
  · exact hc

/-- R11. -/
theorem Chassis.Sound.faultCleared (hc : c.Sound x k) (hk0 : k.held p = none) : (c.faultCleared x h p).Sound x k := by
  have hp := hc.port p
  unfold Chassis.faultCleared
  split
  · rename_i hs
    have hs' : (c.view p).r.state = .fault := hs
    have hv := c.view_setPort p { c.port p with state := .powerWait }
    refine Chassis.SoundOff.grantRequest hh ((hc.off p).move (c.movesAt_setPort p _) (.refl k p)) ?_ ?_ ?_
    · rw [hv]
      show (c.view p).waits = []
      rw [hp.waits, hs']
      rfl
    · rw [Chassis.port_setPort_self]
      have hg := hp.granted
      rw [hs'] at hg
      exact Option.isNone_iff_eq_none.1 (Option.isSome_eq_false_iff.1 hg)
    · rw [hv]
      exact hp.clears hs' hk0
  · exact hc

/-- R12. -/
theorem Chassis.Sound.enablePort (hc : c.Sound x k) (hk0 : k.held p = none) (hr : ¬ k.still p) :
    (c.enablePort x h p).Sound x k := by
  have hstep (r' : PortRec) (h : ({ c.view p with r := r' } : PortView).Ok x k p) : (c.setPort p r').Sound x k :=
    (hc.off p).step (c.movesAt_setPort p r') (.refl k p) (by rw [Chassis.view_setPort]; exact h)
  unfold Chassis.enablePort
  dsimp only
  split
  · rename_i hs; exact hc.seatRequest hh hs hk0 hr
  · rename_i d hs
    split
    · exact hstep _ ((hc.port p).turns hs hk0 (.inr ⟨_, _, rfl⟩))
    · exact hstep _ ((hc.port p).turns hs hk0 (.inl rfl))
  · exact hc

/-- R13: a port that does not run is DISABLED at once. -/
theorem Chassis.Sound.disableAtOnce (hc : c.Sound x k) (hk0 : k.held p = none)
    (hs : (c.port p).state = .powerWait ∨ (c.port p).state = .shed ∨ (c.port p).state = .fault) :
    (((c.setPort p { c.port p with state := .disabled }).grantRelease x h p).seatRelease x h p).Sound x k := by
  have hp := hc.port p
  have hs' : (c.view p).r.state = .powerWait ∨ (c.view p).r.state = .shed ∨ (c.view p).r.state = .fault := hs
  have h1 : (Chassis.grantRelease x h p (c.setPort p { c.port p with state := .disabled })).Sound x
      (k.hold p .disabled) := by
    refine Chassis.SoundOff.grantRelease hh ((hc.off p).move (c.movesAt_setPort p _) (k.sameOff_hold p _)) ?_
    rw [Chassis.view_setPort, Chassis.port_setPort_self]
    refine hp.lift.parked (n := (c.view p).logins) (by rcases hs' with h | h | h <;> rw [h] <;> rfl) rfl
      (fun h => by cases h) fun _ => ?_
    by_cases ht : k.traffic
    · left
      by_contra hne
      have := hp.logins ht (Nat.pos_of_ne_zero hne)
      rw [hk0] at this
      rcases hs' with h | h | h <;> rw [h] at this <;> rcases this with h | ⟨h, -⟩ | h <;> cases h
    · exact .inr ht
  generalize Chassis.grantRelease x h p _ = d at h1 ⊢
  have hr (r : PortRec) (h : r.state = .disabled) :
      ({ r with state := .disabled, negotiated := r.negotiated } : PortRec).unseat = r.unseat := by
    cases r; cases h; rfl
  refine Chassis.SoundOff.seatRelease hh ((h1.off p).move (.refl p d) (k.sameOff_hold p _).symm) (h1.port p).bound
    fun b hb => ?_
  rw [← hr (d.port p) ((h1.port p).held .disabled (k.held_hold p _)).1]
  refine (h1.port p).vacates nofun (.refl k p) hk0 _ ?_ hb
  by_cases ht : k.traffic
  · exact .inl ((h1.port p).slots ht)
  · exact .inr ht

/-- R13. -/
theorem Chassis.Sound.disablePort (hc : c.Sound x k) (hk0 : k.held p = none) (hd : k.drains p) :
    (c.disablePort x h p).Sound x k := by
  unfold Chassis.disablePort
  dsimp only
  split
  · rename_i hs; exact (hc.off p).startDrain hh (hc.port p) (.inl hs) hd _
  · rename_i hs; exact (hc.off p).startDrain hh (hc.port p) (.inr hs) hd _
  · rename_i d hs
    refine (hc.off p).step (c.movesAt_setPort p _) (.refl k p) ?_
    rw [Chassis.view_setPort]
    exact (hc.port p).turns hs hk0 (.inr ⟨_, _, rfl⟩)
  · rename_i hs
    refine (hc.off p).step ((c.movesAt_setPort p _).trans (Chassis.movesAt_leaveSeatWait _ p)) (.refl k p) ?_
    rw [Chassis.view_leaveSeatWait, Chassis.view_setPort]
    exact (hc.port p).leaves hs
  · rename_i hs; exact hc.disableAtOnce hh hk0 (.inl hs)
  · rename_i hs; exact hc.disableAtOnce hh hk0 (.inr (.inl hs))
  · rename_i hs; exact hc.disableAtOnce hh hk0 (.inr (.inr hs))
  · exact hc
  · exact hc
  · exact hc

end

end Sys2Proof.Machine

/-! # The table of the nine states: logins, rebinding, licences and blades -/

namespace Sys2Proof.Machine

/-- The login count of a port is one that the table asks no more of. -/
theorem PortView.Ok.same_logins {x : Ctx} {k : Scope} {p : PortId} {v : PortView} (hv : v.Ok x k p) {n : Nat}
    (hn : k.traffic → n = v.logins) : ({ v with logins := n } : PortView).Ok x k p :=
  { hv with
    logins := fun ht h => hv.logins ht (hn ht ▸ h)
    draining := fun ht hf hs hk => (hn ht).symm ▸ hv.draining ht hf hs hk }

section

variable {x : Ctx} {k k' : Scope} {p : PortId} {c d : Chassis}

/-! ## Logins (R26 to R30) -/

/-- What a change of the login table leaves of every view. -/
theorem Chassis.view_logins (ls : List LoginEntry) (q : PortId) :
    ({ c with logins := ls } : Chassis).view q =
      { c.view q with logins := (ls.filter fun e => e.port == q).length } := rfl

/-- R26: with no address twice, the entries of other ports stay where one address leaves the table. -/
theorem filter_addr_port {ls : List LoginEntry} (hn : (ls.map LoginEntry.addr).Nodup) {a : Addr} {e : LoginEntry}
    (he : e ∈ ls) (ha : e.addr = a) {q : PortId} (hq : q ≠ e.port) :
    (ls.filter fun f => f.addr != a).filter (fun f => f.port == q) = ls.filter fun f => f.port == q := by
  rw [List.filter_filter]
  refine List.filter_congr fun f hf => ?_
  by_cases hp : f.port = q
  · have : f.addr ≠ a := fun h => hq (by
      have := List.inj_on_of_nodup_map hn hf he (h.trans ha.symm)
      rw [← hp, this])
    simp [this]
  · simp [hp]

/-- The port an address is logged in on. -/
theorem Chassis.loginOf_some {a : Addr} (h : c.loginOf a = some p) : ∃ e ∈ c.logins, e.addr = a ∧ e.port = p := by
  obtain ⟨e, he, rfl⟩ := Option.map_eq_some_iff.1 h
  exact ⟨e, List.mem_of_find?_eq_some he, beq_iff_eq.1 (List.find?_some he :), rfl⟩

variable {h : Hooks} (hh : h.Sounds x)
include hh

/-- R30: an address leaves the table, and with `es` of port `q` further entries join it. -/
theorem Chassis.Sound.afterRemoval (hc : c.Sound x k) (hn : k.traffic → (c.logins.map LoginEntry.addr).Nodup) {a : Addr}
    {r : PortId} (hr : c.loginOf a = some r) (hk0 : k.held r = none) (es : List LoginEntry)
    (hes : ∀ e ∈ es, (c.port e.port).state = .online ∧ e.port ≠ r) :
    (Chassis.afterLoginRemoved x h r { c with logins := c.logins.filter (fun e => e.addr != a) ++ es }).Sound x k := by
  obtain ⟨e, he, ha, hp⟩ := Chassis.loginOf_some hr
  have hcount (q : PortId) : ({ c with logins := c.logins.filter (fun e => e.addr != a) ++ es } : Chassis).loginCount q =
      ((c.logins.filter fun e => e.addr != a).filter fun e => e.port == q).length +
        (es.filter fun e => e.port == q).length := by
    rw [Chassis.loginCount, List.filter_append, List.length_append]
  have hesr : (es.filter fun e => e.port == r).length = 0 := by
    rw [List.length_eq_zero_iff, List.filter_eq_nil_iff]
    exact fun f hf => by simpa using (hes f hf).2
  refine Chassis.SoundOff.afterLoginRemoved hh (v := c.view r)
    ⟨fun q hq => ?_, hc.keys.of_eq rfl rfl rfl⟩ (hc.port r) hk0 rfl fun _ => ?_
  · have hv : ({ c with logins := c.logins.filter (fun e => e.addr != a) ++ es } : Chassis).view q = { c.view q with
        logins := ({ c with logins := c.logins.filter (fun e => e.addr != a) ++ es } : Chassis).loginCount q } := rfl
    rw [hv]
    by_cases hmem : ∃ f ∈ es, f.port = q
    · obtain ⟨f, hf, rfl⟩ := hmem
      exact (hc.port _).logs (hes f hf).1 _
    · have hnil : (es.filter fun e => e.port == q).length = 0 := by
        rw [List.length_eq_zero_iff, List.filter_eq_nil_iff]
        exact fun f hf => by simpa using fun h => hmem ⟨f, hf, h⟩
      have heq (ht : k.traffic) : ({ c with logins := c.logins.filter (fun e => e.addr != a) ++ es } : Chassis).loginCount q =
          (c.view q).logins := by
        rw [hcount, hnil, filter_addr_port (hn ht) he ha (by rw [hp]; exact hq)]
        rfl
      exact (hc.port q).same_logins heq
  · rw [hcount, hesr]
    show _ ≤ c.loginCount r
    exact (List.filter_sublist.filter _).length_le

/-- R27, R28. -/
theorem Chassis.Sound.login (hc : c.Sound x k) (hn : k.traffic → (c.logins.map LoginEntry.addr).Nodup)
    (hk0 : ∀ q, k.held q = none) (a : Addr) : (c.login x h p a).1.Sound x k := by
  unfold Chassis.login
  split
  · exact hc
  · rename_i hs
    have hs : (c.port p).state = .online := not_not.1 hs
    split
    · rename_i q hq
      split
      · exact hc
      · rename_i hqp
        split
        · exact hc
        · refine hc.afterRemoval hh hn hq (hk0 q) [⟨a, p⟩] fun e he => ?_
          rw [List.mem_singleton] at he
          rw [he]
          exact ⟨hs, fun h => hqp h.symm⟩
    · split
      · exact hc
      · split
        · exact hc
        · refine ⟨fun q => ?_, hc.keys.of_eq rfl rfl rfl⟩
          show ({ c.view q with logins := _ } : PortView).Ok x k q
          by_cases hq : q = p
          · exact (hc.port q).logs (by rw [hq]; exact hs) _
          · refine (hc.port q).same_logins fun _ => ?_
            show (List.filter _ _).length = c.loginCount q
            have hp : (p == q) = false := beq_eq_false_iff_ne.2 fun h => hq h.symm
            rw [List.filter_append, List.filter_singleton, hp]
            exact congrArg List.length (List.append_nil _)

/-- R30. -/
theorem Chassis.Sound.logout (hc : c.Sound x k) (hn : k.traffic → (c.logins.map LoginEntry.addr).Nodup)
    (hk0 : k.held p = none) (a : Addr) : (c.logout x h p a).Sound x k := by
  unfold Chassis.logout
  split
  · rename_i hp
    have := hc.afterRemoval hh hn hp hk0 [] nofun
    rw [List.append_nil] at this
    exact this
  · exact hc

/-! ## Rebinding (R81, R95) -/

/-- R81, R95: a port of the taken list goes through the rebind choice, and is then not bound to the old licence. -/
theorem Chassis.Sound.rebindOne (hc : c.Sound x k) (hk0 : k.held p = none) (hd : k.drains p) {old : Word16}
    (ho : k.bindings → k.old = some old) (n : Nat) : (Chassis.rebindOne x h old n c p).Sound x (k.serve p) := by
  have hp := hc.port p
  have hoff : c.SoundOff x (k.serve p) p := (hc.off p).move (.refl p c) (k.sameOff_serve p)
  unfold Chassis.rebindOne
  split
  · rename_i hb
    have hbound (hbi : k.bindings) : (c.view p).bound = [] :=
      hp.bound_nil_of hb (by rw [ho hbi]; exact Binding.lists_licence_old old) hbi
    have hne : (c.view p).r.binding ≠ .none := by rw [show (c.view p).r.binding = _ from hb]; nofun
    split
    · rename_i l hl
      obtain ⟨b, hv, hbl⟩ := Chassis.view_bindChoice hc.keys hl hbound
      refine Chassis.SoundOff.seatNotice hh (hoff.move (c.movesAt_bindSeat p l.id) (.refl _ p)) ?_
      have hleft (hbi : k.bindings) (id : Word16) (hid : id ∈ k.old) : Binding.licence l.id ≠ .licence id := fun he => by
        cases he
        exact hc.keys.choice_ne hbi hl hid
      rw [hv, show (c.bindSeat l.id p).port p = c.port p from rfl]
      exact (hp.notices (b := .licence l.id) hne nofun rfl hbl hleft).serve hleft
    · split
      · refine Chassis.SoundOff.seatNotice hh (hoff.move (c.movesAt_setGrace p n) (.refl _ p)) ?_
        have hv : (c.setGrace p n).view p = c.view p := c.view_setGrace p n p
        rw [hv, show (c.setGrace p n).port p = c.port p from congrArg PortView.r hv]
        have hceil : (c.port p).seatCeil.isSome = true := by
          have := hp.seatCeil
          rw [show (c.view p).r.state.seated = true from (hp.binding.1 hne).resolve_right (by rw [hk0]; nofun)] at this
          exact this
        exact (hp.notices (b := .counted) hne nofun hceil (bound := (c.view p).bound) hbound
          (fun _ _ _ => nofun)).serve fun _ _ _ => nofun
      · exact hc.seatLoss hh hk0 hd hbound
  · rename_i hb
    exact hoff.sound (hp.serve fun hbi id ho' => by
      cases (ho hbi).symm.trans ho'
      exact hb)

end

end Sys2Proof.Machine

/-! # The table of the nine states: licences, hours and blades -/

namespace Sys2Proof.Machine

/-- Nothing of the table is laid aside. -/
def Scope.plain (t b : Prop) : Scope where
  held _ := none
  waived _ := False
  high _ := False
  drains _ := True
  still _ := False
  traffic := t
  full := True
  bindings := b
  old := none
  left _ := False

/-- The list of a licence has been taken, and the ports of `f` may be bound to it. -/
def Scope.taken (t b : Prop) (old : Word16) (f : PortId → Prop) : Scope :=
  { Scope.plain t b with old := some old, left := f }

section

variable {x : Ctx} {t b : Prop} {p : PortId} {c : Chassis}

theorem Chassis.Sound.taken_mono {old : Word16} {f g : PortId → Prop} (hc : c.Sound x (Scope.taken t b old f))
    (h : ∀ q, f q → g q) : c.Sound x (Scope.taken t b old g) :=
  ⟨fun q => { hc.port q with left := fun hb id ho hbi => h q ((hc.port q).left hb id ho hbi) }, hc.keys⟩

/-- R81, R95: the whole list has gone through the rebind choice. -/
theorem Chassis.Sound.rebinds {h : Hooks} (hh : h.Sounds x) (old : Word16) (n : Nat) (ps : List PortId)
    (hc : c.Sound x (Scope.taken t b old (· ∈ ps))) :
    (ps.foldl (Chassis.rebindOne x h old n) c).Sound x (Scope.taken t b old fun _ => False) := by
  induction ps generalizing c with
  | nil => exact hc.taken_mono fun q hq => by cases hq
  | cons p ps ih =>
    refine ih ?_
    have := hc.rebindOne hh (p := p) rfl trivial (fun _ => rfl) n
    exact Chassis.Sound.taken_mono (f := fun q => q ≠ p ∧ q ∈ p :: ps) this fun q hq =>
      (List.mem_cons.1 hq.2).resolve_left hq.1

/-- R79: the list of a licence is taken. -/
theorem Chassis.boundOn_take (c : Chassis) (id : Word16) {f : Licence → Licence}
    (hb : ∀ l, (f l).bound = []) (q : PortId) : (c.onLicence id f).boundOn q = (c.boundOn q).filter (· != id) := by
  unfold Chassis.boundOn
  rw [Chassis.onLicence_licences, List.flatMap_map, List.filter_flatMap]
  refine congrArg (fun f => List.flatMap f c.licences) (funext fun l => ?_)
  by_cases h : l.record.id = id
  · simp [h, hb]
  · simp [h]

theorem Binding.lists_take (o : Word16) (bi : Binding) : (bi.lists Option.none).filter (· != o) = bi.lists (some o) := by
  cases bi with
  | licence id =>
    by_cases h : id = o
    · simp [Binding.lists, Binding.licence?, Option.filter, h]
    · simp [Binding.lists, Binding.licence?, Option.filter, h, Ne.symm h]
  | none => rfl
  | counted => rfl
  | drainHold => rfl

theorem Binding.lists_none_of_ne {o : Word16} {bi : Binding} (h : bi ≠ .licence o) : bi.lists (some o) = bi.lists Option.none := by
  cases bi with
  | licence id =>
    have : ¬ o = id := fun he => h (he ▸ rfl)
    simp [Binding.lists, Binding.licence?, Option.filter, this]
  | none => rfl
  | counted => rfl
  | drainHold => rfl

theorem Chassis.mem_boundOn {c : Chassis} {q : PortId} {id : Word16} :
    id ∈ c.boundOn q ↔ ∃ l ∈ c.licences, l.record.id = id ∧ q ∈ l.bound := by
  unfold Chassis.boundOn
  simp only [List.mem_flatMap, List.mem_replicate, ne_eq, List.count_eq_zero, not_not]
  exact ⟨fun ⟨l, hl, hq, he⟩ => ⟨l, hl, he.symm, hq⟩, fun ⟨l, hl, he, hq⟩ => ⟨l, hl, hq, he.symm⟩⟩

/-- R79, R81, R95: a licence that stops being Active gives up its list. -/
theorem Chassis.Sound.unseatAll {h : Hooks} (hh : h.Sounds x) (hc : c.Sound x (Scope.plain t b)) (id : Word16)
    {st : LicState} (hst : st ≠ .active) (n : Nat) : (c.unseatAll x h id st n).Sound x (Scope.plain t b) := by
  unfold Chassis.unseatAll
  split
  · exact hc
  · rename_i l hl
    have hmem := List.mem_of_find?_eq_some hl
    have hlid : l.record.id = id := beq_iff_eq.1 (List.find?_some hl :)
    have h1 : (c.onLicence id fun l => ⟨{ l.record with state := st }, []⟩).Sound x
        (Scope.taken t b id (· ∈ l.bound)) := by
      refine ⟨fun q => ?_, fun hb => ⟨?_, fun e he ho => ?_⟩⟩
      · have hv : (c.onLicence id fun l => ⟨{ l.record with state := st }, []⟩).view q =
            { c.view q with bound := (c.view q).bound.filter (· != id) } := by
          unfold Chassis.view
          rw [c.boundOn_take id (f := fun l => ⟨{ l.record with state := st }, []⟩) fun _ => rfl]
          rfl
        have hq := hc.port q
        rw [hv]
        exact
          { hq with
            bound := fun hb => by
              show (c.view q).bound.filter _ = _
              rw [hq.bound hb]
              exact Binding.lists_take id _
            left := fun hb id' ho hbi => by
              cases ho
              have hin : id ∈ c.boundOn q := by
                have := hq.bound hb
                rw [show (c.view q).r.binding = _ from hbi] at this
                rw [show c.boundOn q = _ from this]
                exact List.mem_singleton.2 rfl
              obtain ⟨m, hm, hmid, hqm⟩ := Chassis.mem_boundOn.1 hin
              have hids := (hc.keys hb).1
              rw [Chassis.licKeys, List.map_map] at hids
              have : m = l := List.inj_on_of_nodup_map hids hm hmem (hmid.trans hlid.symm)
              exact this ▸ hqm }
      · have hids := (hc.keys hb).1
        rw [Chassis.licKeys, List.map_map] at hids ⊢
        rw [Chassis.onLicence_licences, List.map_map]
        refine Eq.mp (congrArg List.Nodup (List.map_congr_left fun m _ => ?_)) hids
        simp only [Function.comp]
        split <;> rfl
      · obtain ⟨m, hm, rfl⟩ := List.mem_map.1 he
        rw [Chassis.onLicence_licences] at hm
        obtain ⟨m', -, rfl⟩ := List.mem_map.1 hm
        have ho : id = _ := Option.some.inj ho
        dsimp only at ho ⊢
        split
        · exact hst
        · rename_i hne
          rw [if_neg hne] at ho
          exact absurd (beq_iff_eq.2 ho.symm) hne
    have h2 := h1.rebinds hh id n l.bound
    refine ⟨fun q => ?_, fun hb => ⟨(h2.keys hb).1, nofun⟩⟩
    have hq := h2.port q
    exact
      { hq with
        bound := fun hb => (hq.bound hb).trans (Binding.lists_none_of_ne fun h => (hq.left hb id rfl h).elim)
        left := nofun }

variable {h : Hooks} (hh : h.Sounds x)

include hh in
theorem Chassis.Sound.revokeLicence (hc : c.Sound x (Scope.plain t b)) (id : Word16) :
    (c.revokeLicence x h id).Sound x (Scope.plain t b) :=
  Chassis.Sound.unseatAll (c := c.clear x .licenseExpiryNear id.toNat) hh (hc.of_view (fun _ => rfl) rfl) id
    (st := .revoked) nofun 0

include hh in
theorem Chassis.Sound.expire (hc : c.Sound x (Scope.plain t b)) (id : Word16) :
    (Chassis.expire x h c id).Sound x (Scope.plain t b) :=
  Chassis.Sound.unseatAll (c := (c.raise x .licenseExpired id.toNat).clear x .licenseExpiryNear id.toNat) hh
    (hc.of_view (fun _ => rfl) rfl) id (st := .expired) nofun _

/-! ## The hour tick (R92) -/

theorem Chassis.Sound.setGrace (hc : c.Sound x (Scope.plain t b)) (n : Nat) :
    (c.setGrace p n).Sound x (Scope.plain t b) := hc.of_view (c.view_setGrace p n) (c.licKeys_setGrace p n)

include hh in
theorem Chassis.Sound.graceHour (hc : c.Sound x (Scope.plain t b)) :
    (Chassis.graceHour x h c p).Sound x (Scope.plain t b) := by
  unfold Chassis.graceHour
  split
  · rename_i hb
    dsimp only
    split
    · refine ((hc.setGrace _).seatLoss hh rfl trivial fun hbi => ?_).unserve
      rw [Chassis.view_setGrace]
      exact (hc.port p).bound_nil_of hb rfl hbi
    · exact hc.setGrace _
  · exact hc

include hh in
theorem Chassis.Sound.graceHours (hc : c.Sound x (Scope.plain t b)) : (c.graceHours x h).Sound x (Scope.plain t b) := by
  have h1 := List.foldlRecOn (motive := fun d : Chassis => d.Sound x (Scope.plain t b))
    (allPorts.filter fun p => (c.port p).binding == .counted) (Chassis.graceHour x h) hc fun _ hd p _ => hd.graceHour hh
  exact h1.of_view (fun _ => rfl) rfl

/-- A change of the licence table that keeps ids and lists. -/
theorem Chassis.Sound.of_licences {ls : List Licence} (hc : c.Sound x (Scope.plain t b))
    (hv : ∀ q, ({ c with licences := ls } : Chassis).boundOn q = c.boundOn q)
    (hk : b → (c.licences.map fun l => l.record.id).Nodup → (ls.map fun l => l.record.id).Nodup) :
    ({ c with licences := ls } : Chassis).Sound x (Scope.plain t b) := by
  refine ⟨fun q => ?_, fun hb => ⟨?_, nofun⟩⟩
  · have : ({ c with licences := ls } : Chassis).view q = c.view q := by
      unfold Chassis.view
      rw [hv q]
      rfl
    rw [this]
    exact hc.port q
  · have hids := (hc.keys hb).1
    rw [Chassis.licKeys, List.map_map] at hids ⊢
    exact hk hb hids

theorem Chassis.boundOn_map {f : Licence → Licence}
    (hf : ∀ l, (f l).record.id = l.record.id ∧ (f l).bound = l.bound) (q : PortId) :
    ({ c with licences := c.licences.map f } : Chassis).boundOn q = c.boundOn q := by
  unfold Chassis.boundOn
  rw [List.flatMap_map]
  refine congrArg (fun g => List.flatMap g c.licences) (funext fun l => ?_)
  rw [(hf l).1, (hf l).2]

/-- A change of the licence table that keeps ids and lists, record by record. -/
theorem Chassis.Sound.mapLicences {f : Licence → Licence} (hc : c.Sound x (Scope.plain t b))
    (hf : ∀ l, (f l).record.id = l.record.id ∧ (f l).bound = l.bound) :
    ({ c with licences := c.licences.map f } : Chassis).Sound x (Scope.plain t b) :=
  hc.of_licences (Chassis.boundOn_map hf) fun _ h => by
    rw [List.map_map]
    exact Eq.mp (congrArg List.Nodup (List.map_congr_left fun l _ => (hf l).1.symm)) h

theorem Chassis.Sound.onLicence {f : Licence → Licence} (hc : c.Sound x (Scope.plain t b)) (id : Word16)
    (hf : ∀ l, (f l).record.id = l.record.id ∧ (f l).bound = l.bound) :
    (c.onLicence id f).Sound x (Scope.plain t b) := by
  refine hc.mapLicences fun l => ?_
  split
  · exact hf l
  · exact ⟨rfl, rfl⟩

theorem Licence.hour_bound (l : Licence) : l.hour.bound = l.bound := by
  obtain ⟨t, h⟩ := l.hour_eq
  rw [h]

include hh in
theorem Chassis.Sound.hourTick (hc : c.Sound x (Scope.plain t b)) {pass : Chassis → Chassis}
    (hp : ∀ {d : Chassis}, d.Sound x (Scope.plain t b) → (pass d).Sound x (Scope.plain t b)) :
    (c.hourTick x h pass).Sound x (Scope.plain t b) := by
  have h1 := hc.graceHours hh
  have h2 : (c.graceHours x h).termHours.Sound x (Scope.plain t b) :=
    Chassis.Sound.of_view (c := { c.graceHours x h with licences := (c.graceHours x h).licences.map Licence.hour })
      (h1.mapLicences fun l => ⟨l.hour_id, l.hour_bound⟩) (fun _ => rfl) rfl
  have h3 : ((c.graceHours x h).termHours.expiries x h).Sound x (Scope.plain t b) :=
    List.foldlRecOn (motive := fun d : Chassis => d.Sound x (Scope.plain t b)) _ _ h2 fun _ hd id _ => hd.expire hh id
  refine List.foldlRecOn (motive := fun d : Chassis => d.Sound x (Scope.plain t b)) _ _ (hp h3) fun d hd l _ => ?_
  unfold Chassis.judgeWarn
  split
  · split
    · split <;> exact hd.of_view (fun _ => rfl) rfl
    · exact hd
  · exact hd

/-! ## Installing, revoking and removing licences (R80 to R82) -/

theorem Chassis.Sound.revoked (hc : c.Sound x (Scope.plain t b)) (l : LicenceRec) :
    (c.revoked x l).Sound x (Scope.plain t b) := by
  unfold Chassis.revoked
  split
  · exact hc
  · exact (hc.onLicence l.id (f := fun l => { l with record := { l.record with state := .revoked } })
      fun _ => ⟨rfl, rfl⟩).of_view (fun _ => rfl) rfl
  · exact ((hc.revokeLicence (inRebind_sounds x) l.id).passIfDue (inRebind_sounds x)).of_view (fun _ => rfl) rfl

theorem Chassis.Sound.removeLicence (hc : c.Sound x (Scope.plain t b)) (l : LicenceRec)
    (hl : b → ∀ m ∈ c.licences, m.record.id = l.id → m.bound = []) :
    (c.removeLicence x l).Sound x (Scope.plain t b) := by
  have h1 : ({ c with licences := c.licences.filter fun m => m.record.id != l.id } : Chassis).Sound x (Scope.plain t b) := by
    refine ⟨fun q => ?_, fun hb => ⟨?_, nofun⟩⟩
    · have hv : ({ c with licences := c.licences.filter fun m => m.record.id != l.id } : Chassis).view q =
          { c.view q with
            bound := ({ c with licences := c.licences.filter fun m => m.record.id != l.id } : Chassis).boundOn q } := rfl
      rw [hv]
      refine { hc.port q with bound := fun hb => Eq.trans ?_ ((hc.port q).bound hb) }
      have h := hl hb
      show List.flatMap _ (c.licences.filter _) = List.flatMap _ c.licences
      generalize c.licences = ms at h
      induction ms with
      | nil => rfl
      | cons m ms ih =>
        have ih := ih fun m' hm' => h m' (List.mem_cons_of_mem _ hm')
        rw [List.filter_cons]
        by_cases hm : m.record.id = l.id
        · simp [hm, h m List.mem_cons_self hm, ih]
        · simp [hm, ih]
    · have hids := (hc.keys hb).1
      rw [Chassis.licKeys, List.map_map] at hids ⊢
      exact hids.sublist (List.filter_sublist.map _)
  unfold Chassis.removeLicence
  dsimp only
  split <;> exact h1.of_view (fun _ => rfl) rfl

theorem Chassis.Sound.install (hc : c.Sound x (Scope.plain t b)) (r : LicenceRec) (hr : c.licence? r.id = none) (d : Bool) :
    (Chassis.pass x { c with licences := c.licences ++ [⟨r, []⟩], licencesDirty := d }).Sound x (Scope.plain t b) := by
  refine Chassis.Sound.pass (Chassis.Sound.of_view (c := { c with licences := c.licences ++ [⟨r, []⟩] })
    (hc.of_licences (fun q => ?_) fun _ hids => ?_) (fun _ => rfl) rfl)
  · unfold Chassis.boundOn
    rw [List.flatMap_append]
    simp
  · rw [List.map_append, List.nodup_append]
    refine ⟨hids, List.nodup_singleton _, fun i hi j hj => ?_⟩
    obtain ⟨m, hm, rfl⟩ := List.mem_map.1 hi
    have hj : j = r.id := List.mem_singleton.1 hj
    rw [hj]
    exact fun he => List.find?_eq_none.1 hr m hm (beq_iff_eq.2 he)

end

end Sys2Proof.Machine

/-! # The table of the nine states: blades, loss of the link, and Port Set -/

namespace Sys2Proof.Machine

/-! ## Moves at each port of a list -/

/-- A move at each port of a list, in turn. -/
theorem Chassis.foldl_moves {f : Chassis → PortId → Chassis} {R : PortId → PortView → PortView → Prop}
    (hf : ∀ d p, d.MovesAt p (f d p) ∧ R p (d.view p) ((f d p).view p)) (ps : List PortId) (hn : ps.Nodup) (c : Chassis) :
    (∀ q, q ∉ ps → (ps.foldl f c).view q = c.view q) ∧ (∀ q ∈ ps, R q (c.view q) ((ps.foldl f c).view q)) ∧
      (ps.foldl f c).licKeys = c.licKeys := by
  induction ps generalizing c with
  | nil => exact ⟨fun _ _ => rfl, nofun, rfl⟩
  | cons p ps ih =>
    rw [List.nodup_cons] at hn
    obtain ⟨hoff, hat, hkeys⟩ := ih hn.2 (f c p)
    obtain ⟨hm, hr⟩ := hf c p
    refine ⟨fun q hq => ?_, fun q hq => ?_, hkeys.trans hm.keys⟩
    · rw [List.mem_cons, not_or] at hq
      exact (hoff q hq.2).trans (hm.view q hq.1)
    · by_cases hqp : q = p
      · subst hqp
        rw [List.foldl_cons, hoff q hn.1]
        exact hr
      · have := hat q ((List.mem_cons.1 hq).resolve_left hqp)
        rwa [hm.view q hqp] at this

theorem mem_portsOf {b : BladeId} {p : PortId} : p ∈ portsOf b ↔ bladeOf p = b := by
  simp [portsOf, allPorts]

theorem portsOf_nodup (b : BladeId) : (portsOf b).Nodup := (List.nodup_finRange 256).filter _

/-! ## A blade that is removed (R4) -/

/-- What is left of a port that has been removed. -/
structure PortView.Removed (v w : PortView) : Prop where
  eq : w = { v with r := PortRec.reset, seat := 0, waits := [], logins := 0, bound := w.bound, slots := w.slots }
  slots : w.slots ≤ max 1 v.slots
  bound : ∀ o, v.bound = v.r.binding.lists o → w.bound = []

theorem Chassis.view_blades (c : Chassis) (bs : Vector Bool 8) (q : PortId) :
    ({ c with blades := bs } : Chassis).view q = { c.view q with blade := bs[(bladeOf q).val] } := rfl

/-- R4: one port of a blade that is removed. -/
theorem Chassis.removePort_moves (c : Chassis) (x : Ctx) (p : PortId) :
    c.MovesAt p (c.removePort x recording p) ∧ (c.view p).Removed ((c.removePort x recording p).view p) := by
  obtain ⟨d, hm1, hv1, he1⟩ := c.grantRelease_moves p x recording
  replace he1 : c.grantRelease x recording p = d := by rcases he1 with h | h <;> exact h
  obtain ⟨e, b, hm2, hv2, hb, he2⟩ := d.seatRelease_moves p x recording
  obtain ⟨hm3, hv3⟩ : d.MovesAt p (d.seatRelease x recording p) ∧ (d.seatRelease x recording p).view p = e.view p := by
    rcases he2 with h | h
    · rw [h]; exact ⟨hm2, rfl⟩
    · rw [h]; exact ⟨hm2.trans ⟨fun _ _ => rfl, rfl⟩, rfl⟩
  have hm4 : c.MovesAt p ((((((c.grantRelease x recording p).seatRelease x recording p).leaveSeatWait p).setGrace p
      0).removeLogins p).setPort p PortRec.reset) := by
    rw [he1]
    exact ((((hm1.trans hm3).trans (Chassis.movesAt_leaveSeatWait _ p)).trans (Chassis.movesAt_setGrace _ p 0)).trans
      (Chassis.movesAt_removeLogins _ p)).trans (Chassis.movesAt_setPort _ p _)
  have hv4 : ((((((c.grantRelease x recording p).seatRelease x recording p).leaveSeatWait p).setGrace p
      0).removeLogins p).setPort p PortRec.reset).view p =
      { c.view p with r := PortRec.reset, seat := 0, waits := [], logins := 0, bound := b } := by
    rw [Chassis.view_setPort, Chassis.view_removeLogins, Chassis.view_setGrace, Chassis.view_leaveSeatWait, he1, hv3, hv2, hv1]
  have hb' (o : Option Word16) (ho : (c.view p).bound = (c.view p).r.binding.lists o) : b = [] := by
    refine hb o ?_
    have hr : d.port p = { c.port p with granted := none } := congrArg PortView.r hv1
    rw [hv1, hr]
    exact ho
  unfold Chassis.removePort
  dsimp only
  split
  · exact ⟨hm4, by rw [hv4], by rw [hv4]; exact Nat.le_max_right _ _, by rw [hv4]; exact hb'⟩
  · refine ⟨hm4.trans (Chassis.movesAt_putControl _ p x _), ?_⟩
    have hv5 := Chassis.view_putControl ((((((c.grantRelease x recording p).seatRelease x recording p).leaveSeatWait p).setGrace p
      0).removeLogins p).setPort p PortRec.reset) p x .disable
    rw [hv4] at hv5
    refine ⟨by rw [hv5], ?_, by rw [hv5]; exact hb'⟩
    rw [hv5]
    dsimp only
    split
    · exact Nat.le_refl _
    · exact Nat.le_max_right _ _

section

variable {x : Ctx} {t b : Prop} {p : PortId} {c : Chassis}

/-- The row of a port that has been removed. -/
theorem PortView.Ok.removed {k : Scope} {v w : PortView} (hv : v.Ok x k p) (hw : v.Removed w) (hk0 : k.held p = none)
    (hr : ¬ k.still p) (bl : Bool) (hbl : bl = false) : ({ w with blade := bl } : PortView).Ok x k p := by
  obtain ⟨he, hs, hb⟩ := hw
  rw [he]
  exact
    { held := fun st h => by rw [hk0] at h; cases h
      binding := ⟨fun h => absurd rfl h, fun h => by rw [hk0] at h; rcases h with h | h <;> cases h⟩
      seatCeil := by rw [hk0]; rfl
      granted := rfl
      seat := rfl
      waits := rfl
      blade := fun _ => ⟨fun _ => hbl, fun _ => rfl⟩
      effCeil := rfl
      ceiling := nofun
      drains := nofun
      still := fun h => absurd h hr
      logins := fun _ h => absurd h (Nat.lt_irrefl 0)
      draining := nofun
      slots := fun h => hs.trans (Nat.max_le.2 ⟨Nat.le_refl 1, hv.slots h⟩)
      bound := fun h => (hb _ (hv.bound h)).trans rfl
      left := nofun }

/-- R4. -/
theorem Chassis.Sound.removeBlade (hc : c.Sound x (Scope.plain t b)) (bl : BladeId) :
    (c.removeBlade x bl).Sound x (Scope.plain t b) := by
  unfold Chassis.removeBlade
  split
  · obtain ⟨hoff, hat, hkeys⟩ := Chassis.foldl_moves (fun d p => d.removePort_moves x p) (portsOf bl) (portsOf_nodup bl)
      { c with blades := c.blades.set bl.val false }
    refine Chassis.Sound.passIfDue (inRebind_sounds x)
      (Chassis.Sound.handPwr _ ⟨fun q => ?_, hc.keys.of_eq hkeys rfl rfl⟩)
    by_cases hq : q ∈ portsOf bl
    · have hrem := hat q hq
      rw [Chassis.view_blades] at hrem
      have hblade : (c.blades.set bl.val false)[(bladeOf q).val] = false := by
        have : bladeOf q = bl := mem_portsOf.1 hq
        simp [this]
      have hw := PortView.Ok.removed (k := Scope.plain t b) (hc.port q)
        (w := { (List.foldl (fun c p => Chassis.removePort x recording p c) { c with blades := c.blades.set bl.val false }
          (portsOf bl)).view q with blade := (c.view q).blade }) ⟨?_, hrem.slots, hrem.bound⟩ rfl (fun h => h) _ hblade
      · have he := congrArg PortView.blade hrem.eq
        dsimp only at he
        rw [← he] at hw
        exact hw
      · have he := hrem.eq
        exact congrArg (fun w : PortView => { w with blade := (c.view q).blade }) he
    · rw [hoff q hq, Chassis.view_blades]
      have hblade : (c.blades.set bl.val false)[(bladeOf q).val] = c.blades[(bladeOf q).val] := by
        rw [Vector.getElem_set_ne _ _ fun h => hq (mem_portsOf.2 (Fin.ext h.symm))]
      rw [hblade]
      exact hc.port q
  · exact hc

/-! ## A blade that is inserted (R3) -/

/-- The row of a port whose blade is inserted. -/
theorem PortView.Ok.inserted {v : PortView} (hv : v.Ok x (Scope.plain t b) p) (hb : v.blade = false) (f : PortId → Prop) :
    ({ v with r := { v.r with state := .disabled }, blade := true } : PortView).Ok x
      { Scope.plain t b with still := f } p := by
  have hs : v.r.state = .absent := (hv.blade (fun h => h)).2 hb
  obtain ⟨h1, h2, h3, h4, h5, h6, h7, h8, h9, h10, h11, h12, h13, h14, h15, h16⟩ := hv
  constructor <;>
    simp_all [Scope.plain, PortState.seated, PortState.runs, PortState.waitKind, PortState.isDraining]

/-- R3: the ports of a list that rest in DISABLED ask for a seat, one after another. -/
theorem Chassis.Sound.seatRequests {h : Hooks} (hh : h.Sounds x) (ps : List PortId) (hn : ps.Nodup)
    (hc : c.Sound x { Scope.plain t b with still := (· ∈ ps) }) :
    (ps.foldl (fun c p => c.seatRequest x h p) c).Sound x (Scope.plain t b) := by
  induction ps generalizing c with
  | nil => exact ⟨fun q => { hc.port q with still := nofun }, hc.keys⟩
  | cons p ps ih =>
    rw [List.nodup_cons] at hn
    have hrest : c.Sound x { Scope.plain t b with still := (· ∈ ps) } :=
      ⟨fun q => { hc.port q with still := fun h => (hc.port q).still (List.mem_cons_of_mem _ h) }, hc.keys⟩
    exact ih hn.2 (hrest.seatRequest hh ((hc.port p).still List.mem_cons_self) rfl hn.1)

/-- R3. -/
theorem Chassis.Sound.insertBlade (hc : c.Sound x (Scope.plain t b)) (bl : BladeId) :
    (c.insertBlade x bl).Sound x (Scope.plain t b) := by
  unfold Chassis.insertBlade
  split
  · exact hc
  · rename_i hbl
    have hbl : c.blades[bl.val] = false := by
      have : c.blade bl = false := Bool.eq_false_iff.2 hbl
      exact this
    obtain ⟨hoff, hat, hkeys⟩ := Chassis.foldl_moves
      (f := fun c p => c.setPort p { c.port p with state := .disabled })
      (R := fun _ v w => w = { v with r := { v.r with state := .disabled } })
      (fun d p => ⟨d.movesAt_setPort p _, d.view_setPort p _⟩) (portsOf bl) (portsOf_nodup bl)
      { c with blades := c.blades.set bl.val true }
    refine Chassis.Sound.seatRequests (outer_sounds x) _ ((portsOf_nodup bl).filter _)
      (Chassis.Sound.handPwr _ ⟨fun q => ?_, hc.keys.of_eq hkeys rfl rfl⟩)
    by_cases hq : q ∈ portsOf bl
    · have hqb : bladeOf q = bl := mem_portsOf.1 hq
      have hblade : (c.blades.set bl.val true)[(bladeOf q).val] = true := by simp [hqb]
      rw [hat q hq, Chassis.view_blades, hblade]
      exact (hc.port q).inserted (by rw [← hqb] at hbl; exact hbl) _
    · have hblade : (c.blades.set bl.val true)[(bladeOf q).val] = c.blades[(bladeOf q).val] := by
        rw [Vector.getElem_set_ne _ _ fun h => hq (mem_portsOf.2 (Fin.ext h.symm))]
      rw [hoff q hq, Chassis.view_blades, hblade]
      exact { hc.port q with still := fun h => absurd (List.mem_filter.1 h).1 hq }

/-! ## The link leaves UP (R24, R32, R171) -/

/-- Drains go on in the ports of `f` only, and their logins may be gone. -/
def Scope.draining (t b : Prop) (f : PortId → Prop) : Scope := { Scope.plain t b with drains := f, full := False }

/-- R24: the drains of the ports of a list end, one after another. -/
theorem Chassis.Sound.endsDrains (ps : List PortId) (hc : c.Sound x (Scope.draining t b (· ∈ ps))) :
    (ps.foldl (fun c p => c.endDrainOf x (outer x) p) c).Sound x (Scope.draining t b fun _ => False) := by
  induction ps generalizing c with
  | nil => exact ⟨fun q => { hc.port q with drains := fun h => by cases (hc.port q).drains h }, hc.keys⟩
  | cons p ps ih =>
    by_cases hp : p ∈ ps
    · have hsame : c.Sound x (Scope.draining t b (· ∈ ps)) :=
        ⟨fun q => { hc.port q with
          drains := fun h => (List.mem_cons.1 ((hc.port q).drains h)).elim (fun h => h ▸ hp) id }, hc.keys⟩
      exact ih (hsame.endDrainOf (outer_sounds x) (.refl _ p) rfl (fun h => h) fun _ => hsame.port p)
    · have hk : Scope.SameOff p (Scope.draining t b (· ∈ p :: ps)) (Scope.draining t b (· ∈ ps)) :=
        ⟨fun _ _ => rfl, fun _ _ => .rfl, fun q hq =>
          ⟨fun h => List.mem_cons_of_mem _ h, fun h => (List.mem_cons.1 h).resolve_left hq⟩, fun _ _ => .rfl,
          fun _ _ => .rfl, rfl, rfl, rfl, rfl, rfl⟩
      refine ih (hc.endDrainOf (outer_sounds x) hk rfl (fun h => h) fun hd => ?_)
      exact { hc.port p with drains := fun h => by rw [show (c.view p).r.state.isDraining = false from hd] at h; cases h }

/-- R24, R32: with slots and login table emptied, every drain ends, and none is left. -/
theorem Chassis.Sound.endDrains (hc : c.Sound x (Scope.plain t b)) :
    (Chassis.endDrains x { c with slots := [], logins := [] }).Sound x (Scope.draining t b fun _ => False) := by
  refine Chassis.Sound.endsDrains allPorts ⟨fun q => ?_, hc.keys⟩
  have hv : ({ c with slots := [], logins := [] } : Chassis).view q = { c.view q with slots := 0, logins := 0 } := rfl
  rw [hv]
  exact
    { hc.port q with
      drains := fun _ => List.mem_finRange q
      logins := fun _ h => absurd h (Nat.lt_irrefl 0)
      draining := fun _ h => h.elim
      slots := fun _ => Nat.zero_le _ }

theorem Chassis.Sound.undrained (hc : c.Sound x (Scope.draining t b fun _ => False)) : c.Sound x (Scope.plain t b) :=
  ⟨fun q =>
    { hc.port q with
      drains := fun _ => trivial
      draining := fun _ _ h => ((hc.port q).drains h).elim }, hc.keys⟩

/-! ## Other settings (R2, R12 to R14) -/

/-- The table reads no setting but the requested rate class of its port. -/
theorem PortView.Ok.of_cfg {x' : Ctx} {k : Scope} {v : PortView} (hv : v.Ok x k p)
    (h : (x'.cfg.port p).reqClass = (x.cfg.port p).reqClass) : v.Ok x' k p :=
  { hv with effCeil := by rw [h]; exact hv.effCeil }

theorem Chassis.Sound.of_cfg {x' : Ctx} {k : Scope} (hc : c.Sound x k)
    (h : ∀ q, (x'.cfg.port q).reqClass = (x.cfg.port q).reqClass) : c.Sound x' k :=
  ⟨fun q => (hc.port q).of_cfg (h q), hc.keys⟩

/-- R14: the requested rate class of a port has changed. -/
theorem Chassis.Sound.requestChanged {x' : Ctx} {k : Scope} (hc : c.Sound x k)
    (h : ∀ q, q ≠ p → (x'.cfg.port q).reqClass = (x.cfg.port q).reqClass) :
    (c.requestChanged x' (outer x') p).Sound x' k := by
  have hoff : c.SoundOff x' k p := ⟨fun q hq => (hc.port q).of_cfg (h q hq), hc.keys⟩
  refine Chassis.SoundOff.ceilingFell (outer_sounds x') (hoff.move (c.movesAt_setPort p _) (.refl k p)) ?_
  rw [Chassis.view_setPort]
  exact { hc.port p with effCeil := rfl, ceiling := fun h => absurd (.inl rfl) h }

end

end Sys2Proof.Machine

/-! # What the blocks outside the chassis keep of it -/

namespace Sys2Proof.Machine

/-- What ENV's trust, the tach gates, the supply slots, the fans and the stored settings give a property to read. -/
structure Air where
  trust : Trust
  fails : Nat
  passes : Nat
  thermal : Bool
  gates : Vector (Option Gate) 8
  slots : Vector SlotRec 4
  fan : Fan
  cooling : CoolingCfg
  stored : Option Settings
  writer : Writer

def State.air (s : State) : Air :=
  ⟨s.env.trust, s.env.fails, s.env.passes, s.env.thermal, s.env.gates, s.env.slots, s.fan, s.cfg.cooling,
    s.store.settings, s.store.writer⟩

/-- A property of a state that changes of the alarms and of what PWR is told keep, and the moves of ENV, of the fans and
of the store. Of the rest it reads the chassis, and of the settings those of the ports and of the power governor. -/
structure PartKept (P : State → Prop) : Prop where
  rest : ∀ {s t : State}, P s → t.cfg.ports = s.cfg.ports → t.cfg.power = s.cfg.power → t.chassis = s.chassis →
    t.air = s.air → P t
  alarms : ∀ {s : State} (f : Ctx → Alm → Alm), (∀ x a, a.Ok → (f x a).Ok) → P s → P (s.onAlm f)
  handPwr : ∀ {s : State} (f : PwrInputs → PwrInputs), (s.chassis.pwr.inputs.settled = true →
    (f s.chassis.pwr.inputs).settled = true) → P s → P (s.onChassis fun x => Chassis.handPwr x f)
  trust : ∀ {s : State} d m n, (s.env.fails ≤ 1 → s.env.passes ≤ 3 → m ≤ 1 ∧ n ≤ 3) → P s →
    P { s with env := { s.env with trust := d, fails := m, passes := n },
               fan := if s.env.trust = .trusted ∧ d ≠ .trusted then s.fan.full else s.fan }
  thermal : ∀ {s : State}, P s → P s.judgeThermal
  duty : ∀ {s : State}, P s → P s.computeDuty
  gates : ∀ {s : State} (k : TrayId) (g : Option Gate) r, (∀ g' ∈ g, g'.count ≤ 65535) → P s →
    P { s with env := { s.env with gates := s.env.gates.set k.val g, lastRpm := r } }
  tray : ∀ {s : State} k (r : Tray), ((s.fan.tray k).low ≤ 3 → (s.fan.tray k).high ≤ 3 → r.low ≤ 3 ∧ r.high ≤ 3) →
    (r.state = .failed → (s.fan.tray k).state = .failed) → P s → P (s.setTray k r)
  fail : ∀ {s : State} k, P s → P { s.setTray k ⟨.failed, 0, 0⟩ with fan := (s.setTray k ⟨.failed, 0, 0⟩).fan.full }
  slot : ∀ {s : State} (i : SlotId) v, P s →
    P { s with env := { s.env with slots := s.env.slots.set i.val (s.env.slots[i.val].sample v) } }
  cooling : ∀ {s : State} f new, CoolingSetForm.apply f s.cfg.cooling = some new → P s →
    P { s with cfg := { s.cfg with cooling := new },
               fan := if f.minDuty.isSome then s.fan.lift new.minDuty else s.fan }
  complete : ∀ {s : State} i, s.store.writer = .writing i → P s → P { s with store := s.store.complete i }

/-- A property of a state that reads the chassis, and of the settings those of the ports and of the power governor at
most, and that changes of the alarms and of what PWR is told keep. -/
structure CoreKept (P : State → Prop) : Prop where
  rest : ∀ {s t : State}, P s → t.cfg.ports = s.cfg.ports → t.cfg.power = s.cfg.power → t.chassis = s.chassis → P t
  alarms : ∀ {s : State} (f : Ctx → Alm → Alm), (∀ x a, a.Ok → (f x a).Ok) → P s → P (s.onAlm f)
  handPwr : ∀ {s : State} (f : PwrInputs → PwrInputs), (s.chassis.pwr.inputs.settled = true →
    (f s.chassis.pwr.inputs).settled = true) → P s → P (s.onChassis fun x => Chassis.handPwr x f)

theorem CoreKept.part {P : State → Prop} (hP : CoreKept P) : PartKept P where
  rest hs hp hw hc _ := hP.rest hs hp hw hc
  alarms := hP.alarms
  handPwr := hP.handPwr
  trust _ _ _ _ hs := hP.rest hs rfl rfl rfl
  thermal hs := hP.rest hs rfl rfl rfl
  duty hs := hP.rest hs rfl rfl rfl
  gates _ _ _ _ hs := hP.rest hs rfl rfl rfl
  tray _ _ _ _ hs := hP.rest hs rfl rfl rfl
  fail _ hs := hP.rest hs rfl rfl rfl
  slot _ _ hs := hP.rest hs rfl rfl rfl
  cooling _ _ _ hs := hP.rest hs rfl rfl rfl
  complete _ _ hs := hP.rest hs rfl rfl rfl

/-- The scanner's next conversion reaches neither settings nor chassis. -/
theorem State.nextConversion_core (s : State) : s.nextConversion.cfg = s.cfg ∧ s.nextConversion.chassis = s.chassis ∧
    s.nextConversion.air = s.air := by
  unfold State.nextConversion
  split
  · exact ⟨rfl, rfl, rfl⟩
  · split <;> exact ⟨rfl, rfl, rfl⟩

/-- R109: the counts of the trust state stay below those that move it. -/
theorem moveTrust_bounds {m n : Nat} (d : Trust) (b : Bool) (hm : m ≤ 1) (hn : n ≤ 3) :
    (moveTrust d m n b).2.1 ≤ 1 ∧ (moveTrust d m n b).2.2 ≤ 3 := by
  unfold moveTrust
  split
  · exact ⟨Nat.zero_le _, Nat.zero_le _⟩
  · split
    · exact ⟨Nat.zero_le _, Nat.zero_le _⟩
    · exact ⟨by dsimp only; omega, hn⟩
  · exact ⟨Nat.zero_le _, hn⟩
  · split
    · exact ⟨Nat.zero_le _, Nat.zero_le _⟩
    · exact ⟨by dsimp only; omega, hn⟩
  · split
    · exact ⟨Nat.zero_le _, Nat.zero_le _⟩
    · exact ⟨hm, by dsimp only; omega⟩
  · exact ⟨hm, Nat.zero_le _⟩

namespace PartKept

variable {P : State → Prop} (hP : PartKept P)
include hP

section

variable {s : State} (hs : P s)
include hs

/-! ## Alarms -/

theorem judgeAlarm (k : AlarmKind) (n : Nat) (b b' : Bool) : P (s.judgeAlarm k n b b') :=
  hP.alarms (fun x a => a.judge x k n b b') (fun _ _ h => h.judge ..) hs

theorem raise (k : AlarmKind) (n : Nat) : P (s.raise k n) := hP.alarms (fun x a => a.raise x k n) (fun _ _ h => h.raise ..) hs

theorem clear (k : AlarmKind) (n : Nat) : P (s.clear k n) := hP.alarms (fun x a => a.clear x k n) (fun _ _ h => h.clear ..) hs

theorem notifyEvent (k : NoticeKind) (n : Nat) : P (s.notifyEvent k n) :=
  hP.alarms (fun x a => a.notifyEvent x k n) (fun _ _ h => h.notifyEvent ..) hs

/-! ## The scanner -/

theorem tellPwr (b : Bool) : P (s.tellPwr b) := by
  unfold State.tellPwr
  dsimp only
  split
  · exact hs
  · exact hP.handPwr (fun _ => { s.chassis.pwr.inputs with
      trust := s.env.trust, thermal := s.env.thermal, inlet := s.env.inlet }) (fun h => h) hs

theorem trustAlarm (old new : Trust) : P (s.trustAlarm old new) := by
  unfold State.trustAlarm
  split
  · exact hs
  · split
    · exact hP.raise hs _ _
    · exact hP.clear hs _ _
    · split
      · exact hP.clear hs _ _
      · exact hs

theorem setTrust (d : Trust) {m n : Nat} (h : s.env.fails ≤ 1 → s.env.passes ≤ 3 → m ≤ 1 ∧ n ≤ 3) :
    P (s.setTrust d m n) := by
  unfold State.setTrust
  dsimp only
  exact hP.trustAlarm (hP.trust d m n h hs) _ _

theorem enterOff : P s.enterOff := by
  unfold State.enterOff
  exact hP.setTrust (by exact hP.rest hs rfl rfl rfl rfl) _ fun _ _ => ⟨Nat.zero_le _, Nat.zero_le _⟩

theorem nextConversion : P s.nextConversion := by
  obtain ⟨hc, hch, ha⟩ := s.nextConversion_core
  exact hP.rest hs (by rw [hc]) (by rw [hc]) hch ha

theorem startRound : P s.startRound := by
  unfold State.startRound
  exact hP.nextConversion (by exact hP.rest hs rfl rfl rfl rfl)

theorem judgeChannel (i : ChanId) : P (s.judgeChannel i) := by
  unfold State.judgeChannel
  split
  · exact hs
  · dsimp only
    exact hP.judgeAlarm (hP.judgeAlarm (hP.judgeAlarm (by exact hP.rest hs rfl rfl rfl rfl) _ _ _ _) _ _ _ _) _ _ _ _

theorem takeReading (e : Taken × RawCode) : P (s.takeReading e) := by
  unfold State.takeReading
  split
  · exact hP.rest hs rfl rfl rfl rfl
  · exact hs

omit hP in
theorem foldl {α : Type} {f : State → α → State} (hf : ∀ (s : State) a, P s → P (f s a)) (l : List α) :
    P (l.foldl f s) := List.foldlRecOn (motive := P) l f hs fun u hu a _ => hf u a hu

theorem judgeThermal : P s.judgeThermal := hP.thermal hs

theorem judgeInlet : P s.judgeInlet := hP.rest hs rfl rfl rfl rfl

theorem computeDuty : P s.computeDuty := hP.duty hs

theorem takeReadings (held : List (Taken × RawCode)) : P (s.takeReadings held) := by
  unfold State.takeReadings
  refine hP.judgeThermal ?_
  exact foldl (foldl hs (fun u e hu => hP.takeReading hu e) held) (fun u i hu => hP.judgeChannel hu i) allChans

theorem afterRound : P s.afterRound := by
  unfold State.afterRound
  split
  · exact hP.enterOff hs
  · split
    · exact hP.startRound hs
    · exact hP.nextConversion (by exact hP.rest hs rfl rfl rfl rfl)

theorem roundEnd (code : RawCode) : P (s.roundEnd code) := by
  unfold State.roundEnd
  split
  · rename_i due r _ _
    dsimp only
    have h1 : P (State.setTrust (moveTrust s.env.trust s.env.fails s.env.passes (refPasses s.cfg.scanner.tolerance code)).1
        (moveTrust s.env.trust s.env.fails s.env.passes (refPasses s.cfg.scanner.tolerance code)).2.1
        (moveTrust s.env.trust s.env.fails s.env.passes (refPasses s.cfg.scanner.tolerance code)).2.2
        { s.carry due with env := { (s.carry due).env with refCode := some code } }) :=
      hP.setTrust (by exact hP.rest hs rfl rfl rfl rfl) _ (moveTrust_bounds _ _)
    refine hP.tellPwr (hP.afterRound (hP.computeDuty (hP.judgeInlet ?_))) _
    split
    · exact hP.takeReadings h1 _
    · exact h1
  · exact hs

theorem settlingEnd : P s.settlingEnd := by
  unfold State.settlingEnd
  split
  · exact hP.startRound (by exact hP.rest hs rfl rfl rfl rfl)
  · exact hs

theorem restEnd : P s.restEnd := by
  unfold State.restEnd
  split
  · dsimp only
    split
    · exact hP.rest hs rfl rfl rfl rfl
    · exact hP.startRound (by exact hP.rest hs rfl rfl rfl rfl)
  · exact hs

theorem conversionEnd (code : RawCode) : P (s.conversionEnd code) := by
  unfold State.conversionEnd
  split
  · split
    · exact hs
    · exact hP.nextConversion (by exact hP.rest hs rfl rfl rfl rfl)
  · exact hs

theorem forgetChannel (i : ChanId) (old : ChanCfg) : P (s.forgetChannel i old) := by
  unfold State.forgetChannel
  dsimp only
  exact hP.judgeAlarm (hP.judgeAlarm (hP.judgeAlarm (by exact hP.rest hs rfl rfl rfl rfl) _ _ _ _) _ _ _ _) _ _ _ _

theorem dropEmergency (i : ChanId) : P (s.dropEmergency i) := by
  unfold State.dropEmergency
  dsimp only
  exact hP.judgeAlarm (by exact hP.rest hs rfl rfl rfl rfl) _ _ _ _

theorem writeRecord (i : ChanId) (old new : ChanCfg) : P (s.writeRecord i old new) := by
  have hw : P { s with cfg := s.cfg.writeChannel i new } := hP.rest hs rfl rfl rfl rfl
  unfold State.writeRecord
  dsimp only
  split <;> split
  · exact hP.dropEmergency (hP.forgetChannel hw _ _) _
  · exact hP.dropEmergency hw _
  · exact hP.forgetChannel hw _ _
  · exact hw

theorem channelSet (f : ChannelSetForm) : P (s.channelSet f).1 := by
  by_cases h : f.chan < 16
  · cases hn : f.apply (s.cfg.channel ⟨f.chan, h⟩) with
    | none => rw [State.channelSet_of_none h hn]; exact hs
    | some new =>
      rw [State.channelSet_of_some h hn]
      exact hP.tellPwr (hP.judgeInlet (hP.tellPwr (hP.judgeThermal (hP.writeRecord hs _ _ _)) _)) _
  · rw [State.channelSet_of_ge (Nat.le_of_not_lt h)]; exact hs

theorem turnScannerOn : P s.turnScannerOn := by
  unfold State.turnScannerOn
  split <;> exact hP.rest hs rfl rfl rfl rfl

theorem turnScannerOff : P s.turnScannerOff := by
  unfold State.turnScannerOff
  split
  · exact hs
  · exact hP.rest hs rfl rfl rfl rfl
  · exact hP.tellPwr (hP.enterOff hs) _

theorem scannerSet (f : ScannerSetForm) : P (s.scannerSet f).1 := by
  unfold State.scannerSet
  split
  · exact hs
  · rename_i new _
    have hw : P { s with cfg := { s.cfg with scanner := new } } := hP.rest hs rfl rfl rfl rfl
    dsimp only
    split
    · exact hw
    · split
      · exact hP.turnScannerOn hw
      · exact hP.turnScannerOff hw

/-! ## The trays and the supply slots -/

theorem handTrays (g n : Nat → Nat) : P (s.handTrays g n) :=
  hP.handPwr (fun i => { i with good := g i.good, present := n i.present }) (fun h => h) hs

theorem failTray (k : TrayId) : P (s.failTray k) := by
  have h := hP.raise (hP.fail k hs) .fanTrayFailed k.val
  unfold State.failTray
  refine hP.handTrays ?_ _ _
  exact h

theorem restoreTray (k : TrayId) : P (s.restoreTray k) := by
  unfold State.restoreTray
  refine hP.handTrays (hP.clear (hP.tray k _ ?_ ?_ hs) _ _) _ _
  · exact fun _ _ => ⟨Nat.zero_le _, Nat.zero_le _⟩
  · exact nofun

theorem gateResult (k : TrayId) (rpm : Nat) : P (s.gateResult k rpm) := by
  unfold State.gateResult
  dsimp only
  split
  · have h1 : P (s.setTray k { s.fan.tray k with low := 0, high := min 3 ((s.fan.tray k).high + 1) }) :=
      hP.tray k _ (fun _ _ => ⟨Nat.zero_le _, Nat.min_le_left _ _⟩) (fun h => h) hs
    split
    · exact hP.clear h1 _ _
    · exact h1
  · split
    · exact hP.failTray hs k
    · exact hP.tray k _ (fun _ _ => ⟨by dsimp only; omega, Nat.zero_le _⟩) (fun h => h) hs
  · split
    · exact hP.restoreTray hs k
    · exact hP.tray k _ (fun h _ => ⟨h, by dsimp only; omega⟩) (fun h => h) hs
  · exact hP.tray k _ (fun h _ => ⟨h, Nat.zero_le _⟩) (fun h => h) hs
  · exact hs

theorem gateEnd (k : TrayId) : P (s.gateEnd k) := by
  unfold State.gateEnd
  split
  · rename_i g hg
    dsimp only
    refine hP.gateResult ?_ _ _
    refine hP.gates (s := s.carry g.dueMs) k _ _ (fun g' hg' => ?_) (by exact hP.rest hs rfl rfl rfl rfl)
    cases hg'
    exact Nat.zero_le _
  · exact hs

theorem pulse (k : TrayId) : P (s.pulse k) := by
  unfold State.pulse
  split
  · refine hP.gates k _ s.env.lastRpm (fun g' hg' => ?_) hs
    cases hg'
    exact Nat.min_le_left _ _
  · exact hs

theorem trayLost (k : TrayId) : P (s.trayLost k) := by
  unfold State.trayLost
  dsimp only
  split
  · exact hs
  · refine hP.handTrays (hP.clear (hP.raise (hP.tray k _ ?_ ?_ (hP.gates k none _ ?_ hs)) _ _) _ _) _ _
    · exact fun _ _ => ⟨Nat.zero_le _, Nat.zero_le _⟩
    · exact nofun
    · exact nofun

theorem trayGained (k : TrayId) : P (s.trayGained k) := by
  unfold State.trayGained
  dsimp only
  split
  · refine hP.handTrays (hP.clear (hP.tray k _ ?_ ?_ (hP.gates k (some s.newGate) s.env.lastRpm ?_ hs)) _ _) _ _
    · exact fun _ _ => ⟨Nat.zero_le _, Nat.zero_le _⟩
    · exact nofun
    · intro g' hg'
      cases hg'
      exact Nat.zero_le _
  · exact hs

theorem slotAlarms (i : SlotId) (v : SlotState) : P (s.slotAlarms i v) := by
  unfold State.slotAlarms
  dsimp only
  split <;> split
  · exact hP.raise (hP.raise hs _ _) _ _
  · exact hP.raise (hP.clear hs _ _) _ _
  · exact hP.clear (hP.raise hs _ _) _ _
  · exact hP.clear (hP.clear hs _ _) _ _

theorem sampleSlot (a b : BitVec 4) (i : SlotId) : P (s.sampleSlot a b i) := by
  unfold State.sampleSlot
  dsimp only
  split
  · exact hP.slot i _ hs
  · exact hP.handPwr (fun p => { p with slots := p.slots.set i.val _ }) (fun h => h)
      (hP.slotAlarms (hP.slot i _ hs) _ _)

theorem handSettled : P s.handSettled := by
  unfold State.handSettled
  split
  · exact hP.handPwr (fun i => { i with settled := true }) (fun _ => rfl) hs
  · exact hs

theorem supplySample (a b : BitVec 4) : P (s.supplySample a b) := by
  unfold State.supplySample
  refine hP.handSettled ?_
  refine List.foldlRecOn (motive := P) (List.finRange 4) (State.sampleSlot a b) ?_
    fun u hu i _ => hP.sampleSlot hu a b i
  exact hP.rest hs rfl rfl rfl rfl

/-! ## Alarm commands, settings, zones, rail and store -/

theorem pulseEnd (k : AlarmKind) (n : Nat) : P (s.pulseEnd k n) := by
  unfold State.pulseEnd
  split
  · exact hP.alarms (fun _ a => a.pulseEnd k n) (fun _ _ h => h.pulseEnd ..) (by exact hP.rest hs rfl rfl rfl rfl)
  · exact hs

theorem acknowledge (f : AckForm) : P (s.acknowledge f).1 := by
  have hack (g : Alm → AlarmEntry → Bool) : P (s.onAlm fun x a => a.acknowledgeWhere x (g a)) :=
    hP.alarms _ (fun _ _ h => h.acknowledgeWhere ..) hs
  unfold State.acknowledge
  split
  · exact hack fun a e => !a.shielded e
  · split
    · exact hs
    · split
      · exact hs
      · split
        · exact hs
        · split
          · exact hs
          · exact hack fun _ => _

theorem alarmSet (f : AlarmSetForm) : P (s.alarmSet f).1 := by
  unfold State.alarmSet
  split
  · exact hP.rest hs rfl rfl rfl rfl
  · split
    · exact hs
    · split
      · exact hs
      · exact hP.rest hs rfl rfl rfl rfl

theorem coolingSet (f : CoolingSetForm) : P (s.coolingSet f).1 := by
  unfold State.coolingSet
  split
  · exact hs
  · rename_i new hnew
    exact hP.cooling f new hnew hs

theorem graceSet (n : Nat) : P (s.graceSet n).1 := by
  unfold State.graceSet
  split
  · exact hP.rest hs rfl rfl rfl rfl
  · exact hs

theorem claimTimeSet (n : Nat) : P (s.claimTimeSet n).1 := by
  unfold State.claimTimeSet
  split
  · exact hP.rest hs rfl rfl rfl rfl
  · exact hs

theorem dropClaim : P s.dropClaim := by
  unfold State.dropClaim
  exact hP.clear (by exact hP.rest hs rfl rfl rfl rfl) _ _

theorem claimTimer : P s.claimTimer := by
  unfold State.claimTimer
  split
  · exact hP.notifyEvent (hP.dropClaim (by exact hP.rest hs rfl rfl rfl rfl)) _ _
  · exact hs

theorem editCommand (f : ZoneSet → Except Status ZoneSet) (pr : Proc) : P (s.editCommand f pr).1 := by
  unfold State.editCommand
  split
  · exact hs
  · split
    · exact hs
    · split
      · exact hs
      · exact hP.rest hs rfl rfl rfl rfl

theorem editBegin (pr : Proc) : P (s.editBegin pr).1 := by
  unfold State.editBegin
  split
  · exact hs
  · split
    · split <;> exact hs
    · exact hP.rest hs rfl rfl rfl rfl

theorem editAbort (pr : Proc) : P (s.editAbort pr).1 := by
  unfold State.editAbort
  split
  · exact hs
  · split
    · exact hs
    · exact hP.dropClaim hs

theorem zoneCommit (pr : Proc) : P (s.zoneCommit pr).1 := by
  unfold State.zoneCommit
  split
  · exact hs
  · split
    · exact hs
    · exact hs
    · exact hP.rest hs rfl rfl rfl rfl

theorem validationEnd : P s.validationEnd := by
  unfold State.validationEnd
  split
  · dsimp only
    split
    · unfold State.commitFails
      exact hP.notifyEvent (hP.raise (by exact hP.rest hs rfl rfl rfl rfl) _ _) _ _
    · unfold State.swapSets
      exact hP.notifyEvent (hP.clear (by exact hP.rest hs rfl rfl rfl rfl) _ _) _ _
  · exact hs

theorem railLow : P s.railLow := by
  unfold State.railLow
  split
  · exact hP.rest hs rfl rfl rfl rfl
  · exact hs

theorem enterLow : P s.enterLow := by
  unfold State.enterLow
  split
  · rename_i due _
    refine hP.alarms Alm.dipRaise (fun _ _ h => (h.raise ..).setDip _) (hP.rest (s := s.carryUnlessHeld due) ?_ rfl rfl rfl rfl)
    unfold State.carryUnlessHeld
    split
    · exact hs
    · exact hP.rest hs rfl rfl rfl rfl
  · exact hs

theorem railBack : P s.railBack := by
  unfold State.railBack
  split
  · exact hP.alarms Alm.dipClear (fun _ _ h => (h.clear ..).setDip _) (by exact hP.rest hs rfl rfl rfl rfl)
  · exact hP.rest hs rfl rfl rfl rfl

theorem writeEnds : P s.writeEnds := by
  unfold State.writeEnds
  split
  · rename_i i hi
    exact hP.clear (hP.complete i hi hs) _ _
  · exact hs

theorem placeReadNow (pr : Proc) (i : ChanId) : P (s.placeReadNow pr i) := by
  unfold State.placeReadNow
  dsimp only
  split
  · exact hP.nextConversion (by exact hP.rest hs rfl rfl rfl rfl)
  · exact hP.rest hs rfl rfl rfl rfl

theorem afterReadNow : P s.afterReadNow := by
  unfold State.afterReadNow
  split
  · exact hP.startRound hs
  · exact hP.nextConversion hs

/-! ## The link -/

theorem addAnswer (a : Answer) : P (s.addAnswer a) := by
  unfold State.addAnswer
  split
  · exact hP.rest hs rfl rfl rfl rfl
  · exact hs

theorem queryArrives (q : Query) : P (s.queryArrives q) := by
  unfold State.queryArrives
  split
  · exact hP.rest hs rfl rfl rfl rfl
  · exact hP.addAnswer hs _

theorem takeRequest : P s.takeRequest := by
  unfold State.takeRequest
  split
  · exact hP.rest hs rfl rfl rfl rfl
  · exact hs

theorem requestArrives (r : Request) : P (s.requestArrives r) := by
  unfold State.requestArrives
  split
  · exact hP.takeRequest (by exact hP.rest hs rfl rfl rfl rfl)
  · split
    · exact hP.rest hs rfl rfl rfl rfl
    · exact hs

theorem activity : P s.activity := by
  unfold State.activity
  split
  · exact hP.rest hs rfl rfl rfl rfl
  · exact hs

theorem enterUp : P s.enterUp := by
  unfold State.enterUp
  split
  · exact hP.rest hs rfl rfl rfl rfl
  · exact hs

theorem evaluateQuery : P s.evaluateQuery := by
  unfold State.evaluateQuery
  split
  · exact hs
  · exact hP.rest hs rfl rfl rfl rfl

end

end PartKept

end Sys2Proof.Machine

/-! # Properties of settings and chassis, lifted to the part -/

namespace Sys2Proof.Machine

/-- What a Port Set does to the chassis, once its new fields are written (R14). -/
def Chassis.portSet (x : Ctx) (p : PortId) (old new : PortAdmin) (c : Chassis) : Chassis :=
  let c := if new.reqClass = old.reqClass then c else c.requestChanged x (outer x) p
  if new.reqClass = old.reqClass ∧ new.priority = old.priority then c else c.evaluate x

/-- A property of the settings and the chassis that every event's own part of the chassis keeps. It reads the settings
of the ports and of the power governor at most. -/
structure Lift (Q : Settings → Chassis → Prop) : Prop where
  cfg : ∀ {k k' : Settings} {c}, k'.ports = k.ports → k'.power = k.power → Q k c → Q k' c
  alm : ∀ {k} (c : Chassis) a, (c.alm.Ok → a.Ok) → Q k c → Q k { c with alm := a }
  slots : ∀ {k} (c : Chassis) v, v.Sublist c.slots → Q k c → Q k { c with slots := v }
  dirty : ∀ {k} (c : Chassis) b, Q k c → Q k { c with licencesDirty := b }
  running : ∀ {k} (c : Chassis) b, Q k c → Q k { c with graceRunning := b }
  waitTimer : ∀ {k} (c : Chassis) b w, Q k c → Q k (c.setPwr { c.pwr with powerWait := b, waitTimer := w })
  handPwr : ∀ x f c, (c.pwr.inputs.settled = true → (f c.pwr.inputs).settled = true) → Q x.cfg c →
    Q x.cfg (c.handPwr x f)
  power : ∀ x k c, k.ports = x.cfg.ports → Q k c → Q x.cfg (c.evaluate x)
  holdoffEnd : ∀ x c, Q x.cfg c → Q x.cfg ((c.setPwr { c.pwr with holdoff := none }).evaluate x)
  pacingEnd : ∀ x c, Q x.cfg c → Q x.cfg (c.pacingEnd x)
  linkUp : ∀ k c p r, Q k c → Q k (c.linkUp p r)
  linkDown : ∀ x c p, Q x.cfg c → Q x.cfg (c.linkDown x (outer x) p)
  portFault : ∀ x c p, Q x.cfg c → Q x.cfg (c.portFault x (outer x) p)
  faultCleared : ∀ x c p, Q x.cfg c → Q x.cfg (c.faultCleared x (outer x) p)
  login : ∀ x c p a, Q x.cfg c → Q x.cfg (c.login x (outer x) p a).1
  logout : ∀ x c p a, Q x.cfg c → Q x.cfg (c.logout x (outer x) p a)
  insertBlade : ∀ x c b, Q x.cfg c → Q x.cfg (c.insertBlade x b)
  removeBlade : ∀ x c b, Q x.cfg c → Q x.cfg (c.removeBlade x b)
  drainTimer : ∀ x c p d n, (c.port p).state = .draining d n → Q x.cfg c → Q x.cfg (c.drainEnd x (outer x) p d)
  endDrains : ∀ x c, Q x.cfg c → Q x.cfg (Chassis.endDrains x { c with slots := [], logins := [] })
  hourTick : ∀ x c, Q x.cfg c →
    Q x.cfg (c.hourTick x (inRebind x) (fun c => c.passIfDue x (Chassis.evaluateInPass x)))
  install : ∀ x c r, c.licence? r.id = none → c.licences.length < 32 → r.state = .active → Q x.cfg c →
    Q x.cfg (Chassis.pass x { c with licences := c.licences ++ [⟨r, []⟩], licencesDirty := true })
  revoked : ∀ x c l, l ∈ c.licences → c.licence? l.record.id = some l → Q x.cfg c → Q x.cfg (c.revoked x l.record)
  removeLicence : ∀ x c l, c.licence? l.record.id = some l → l.record.state ≠ .active → Q x.cfg c →
    Q x.cfg (c.removeLicence x l.record)
  warn : ∀ k c id n, Q k c → Q k (c.onLicence id (fun m =>
    { m with record := { m.record with term := m.record.term.map (fun t => { t with warn := n }) } }))
  enablePort : ∀ x k c p, x.cfg = k.setPort p { k.port p with enabled := true } → Q k c →
    Q x.cfg (c.enablePort x (outer x) p)
  disablePort : ∀ x k c p, x.cfg = k.setPort p { k.port p with enabled := false } → Q k c →
    Q x.cfg (c.disablePort x (outer x) p)
  portSet : ∀ x k c p new, x.cfg = k.setPort p new → Q k c → Q x.cfg (c.portSet x p (k.port p) new)

/-- R81, R82: an id that names a licence names the first with it. -/
theorem Chassis.named_ok {c : Chassis} {id : Nat} {l : Licence} (h : c.named id = .ok l) :
    l ∈ c.licences ∧ c.licence? l.record.id = some l := by
  unfold Chassis.named at h
  split at h
  · cases h
  · split at h
    · rename_i l' hl'
      cases h
      have hid : l.record.id = BitVec.ofNat 16 id := beq_iff_eq.1 (List.find?_some hl' :)
      exact ⟨List.mem_of_find?_eq_some hl', hid ▸ hl'⟩
    · cases h

/-- R80: a record that is installed is Active. -/
theorem LicenceInstallForm.record?_state {f : LicenceInstallForm} {r : LicenceRec} (h : f.record? = some r) :
    r.state = .active := by
  simp only [LicenceInstallForm.record?, Option.bind_eq_bind, Option.bind_eq_some_iff] at h
  obtain ⟨a, -, b, -, t, -, h⟩ := h
  split at h
  · cases h; rfl
  · cases h

theorem State.portSet_of_none {f : PortSetForm} {s : State} (h : f.apply (s.cfg.port f.port) = none) :
    s.portSet f = (s, plain .refusedRange) := by
  unfold State.portSet
  simp only [h]

/-- R14: Port Set, by what it does to settings and chassis. -/
theorem State.portSet_of_some {f : PortSetForm} {s : State} {new : PortAdmin} (h : f.apply (s.cfg.port f.port) = some new) :
    s.portSet f = (State.onChassis (fun x c => c.portSet x f.port (s.cfg.port f.port) new)
      { s with cfg := s.cfg.setPort f.port new }, plain .done) := by
  unfold State.portSet
  simp only [h]
  refine Prod.ext ?_ rfl
  dsimp only
  unfold Chassis.portSet
  split <;> split <;> rfl

/-- The property, of the settings and the chassis of a state. -/
def State.Has (Q : Settings → Chassis → Prop) (s : State) : Prop := Q s.cfg s.chassis

theorem State.has_of_eq {Q : Settings → Chassis → Prop} {s t : State} (hs : s.Has Q) (hc : t.cfg = s.cfg)
    (hch : t.chassis = s.chassis) : t.Has Q := by
  unfold State.Has
  rw [hc, hch]
  exact hs

theorem State.has_onChassis {Q : Settings → Chassis → Prop} {f : Ctx → Chassis → Chassis} {s : State}
    (h : Q s.ctx.cfg (f s.ctx s.chassis)) : (s.onChassis f).Has Q := h

/-- What stands of a state when an event has run, from what stood before it: a Restart in the event may have it so that
less stands than before. -/
structure Lift.Ends (Q : Settings → Chassis → Prop) (R : State → Prop) : Prop where
  weak : ∀ {s : State}, s.Has Q → R s
  rest : ∀ {s t : State}, R s → t.cfg = s.cfg → t.chassis = s.chassis → t.store = s.store → R t
  restart : ∀ {s : State} cause, R s → R (s.restartBy cause)
  settle : ∀ {s : State}, R s → R s.settle
  coldStart : ∀ {s : State} b, s.Has Q → R (s.coldStartNow b)
  lost : ∀ {s : State}, s.Has Q → R s.loseRail.driveLines

section

variable {Q : Settings → Chassis → Prop} (hQ : Lift Q)
include hQ

theorem Lift.core : PartKept (State.Has Q) := CoreKept.part
  { rest := fun hs hp hw hc => by
      unfold State.Has
      rw [hc]
      exact hQ.cfg hp hw hs
    alarms := fun f hf hs => hQ.alm _ _ (hf _ _) hs
    handPwr := fun {s} f hf hs => State.has_onChassis (hQ.handPwr s.ctx f s.chassis hf hs) }

/-! ## Events that reach the chassis -/

theorem Lift.drainExpiry (p : PortId) {s : State} (hs : s.Has Q) : (s.drainTimer p).Has Q := by
  unfold State.drainTimer
  split
  · rename_i t due h
    exact State.has_onChassis (hQ.drainTimer (s.carry due).ctx s.chassis p t due h hs)
  · exact hs

theorem Lift.holdoffExpiry {s : State} (hs : s.Has Q) : s.holdoffEnd.Has Q := by
  unfold State.holdoffEnd
  split
  · rename_i due _
    exact State.has_onChassis (f := fun x c => Chassis.evaluate x (c.setPwr { c.pwr with holdoff := none }))
      (hQ.holdoffEnd (s.carry due).ctx s.chassis hs)
  · exact hs

theorem Lift.pacingExpiry {s : State} (hs : s.Has Q) : s.pacingEnd.Has Q := by
  unfold State.pacingEnd
  split
  · rename_i g _
    exact State.has_onChassis (hQ.pacingEnd (s.carry g.dueMs).ctx s.chassis hs)
  · exact hs

theorem Lift.waitTimerExpiry {s : State} (hs : s.Has Q) : s.waitTimerEnd.Has Q := by
  unfold State.waitTimerEnd
  split
  · rename_i due _
    exact hQ.waitTimer _ true none (hQ.alm s.chassis (s.chassis.alm.raise (s.carry due).ctx .powerWait 0)
      (fun h => h.raise ..) hs)
  · exact hs

theorem Lift.secondEnds {s : State} (hs : s.Has Q) : s.secondEnds.Has Q := by
  unfold State.secondEnds
  dsimp only
  split
  · refine State.has_onChassis ?_
    exact hQ.hourTick _ s.chassis hs
  · exact hs

omit hQ in
theorem State.has_frameIn (ok : Bool) {f : State → State} (hf : ∀ s : State, s.Has Q → (f s).Has Q) {s : State} (hs : s.Has Q) :
    (s.frameIn ok f).Has Q := by
  unfold State.frameIn
  split
  · exact hf s hs
  · exact hs

theorem Lift.loginEvent (p : PortId) (a : Addr) {s : State} (hs : s.Has Q) : (s.login p a).Has Q := by
  unfold State.login
  dsimp only
  exact hQ.core.addAnswer (s := { s with chassis := (s.chassis.login s.ctx (outer s.ctx) p a).1 })
    (hQ.login s.ctx s.chassis p a hs) _

/-! ## Commands that reach the chassis -/

theorem Lift.licenceInstall (f : LicenceInstallForm) {s : State} (hs : s.Has Q) : (s.licenceInstall f).1.Has Q := by
  unfold State.licenceInstall
  split
  · exact hs
  · rename_i r hr
    split
    · exact hs
    · rename_i hn
      split
      · exact hs
      · rename_i hcap
        have hlt : s.chassis.licences.length < 32 := Nat.lt_of_not_le hcap
        have hst := LicenceInstallForm.record?_state hr
        exact State.has_onChassis (f := fun x c =>
            Chassis.pass x { c with licences := c.licences ++ [⟨r, []⟩], licencesDirty := true })
          (hQ.install s.ctx s.chassis r (Option.not_isSome_iff_eq_none.1 hn) hlt hst hs)

theorem Lift.licenceRevoke (id : Nat) {s : State} (hs : s.Has Q) : (s.licenceRevoke id).1.Has Q := by
  unfold State.licenceRevoke
  split
  · exact hs
  · rename_i l hl
    obtain ⟨hm, hf⟩ := Chassis.named_ok hl
    exact State.has_onChassis (hQ.revoked s.ctx s.chassis l hm hf hs)

theorem Lift.licenceRemove (id : Nat) {s : State} (hs : s.Has Q) : (s.licenceRemove id).1.Has Q := by
  unfold State.licenceRemove
  split
  · exact hs
  · rename_i l hl
    split
    · exact hs
    · rename_i hst
      exact State.has_onChassis (hQ.removeLicence s.ctx s.chassis l (Chassis.named_ok hl).2 hst hs)

theorem Lift.licenceWarnSet (f : WarnForm) {s : State} (hs : s.Has Q) : (s.licenceWarnSet f).1.Has Q := by
  unfold State.licenceWarnSet
  split
  · exact hs
  · split
    · exact hs
    · exact State.has_onChassis (hQ.dirty _ true (hQ.warn s.cfg s.chassis _ f.warn hs))

theorem Lift.portSetCommand (f : PortSetForm) {s : State} (hs : s.Has Q) : (s.portSet f).1.Has Q := by
  cases h : f.apply (s.cfg.port f.port) with
  | none => rw [State.portSet_of_none h]; exact hs
  | some new =>
    rw [State.portSet_of_some h]
    refine State.has_onChassis ?_
    exact hQ.portSet (State.ctx { s with cfg := s.cfg.setPort f.port new }) s.cfg s.chassis f.port new rfl hs

theorem Lift.supplySet (f : SupplySetForm) {s : State} (hs : s.Has Q) : (s.supplySet f).1.Has Q := by
  unfold State.supplySet
  split
  · exact hs
  · rename_i new _
    refine State.has_onChassis ?_
    exact hQ.power (State.ctx { s with cfg := { s.cfg with supply := new } }) s.cfg s.chassis rfl hs

theorem Lift.powerSet (f : PowerSetForm) {s : State} (hs : s.Has Q) : (s.powerSet f).1.Has Q := by
  unfold State.powerSet
  split
  · exact hs
  · rename_i new _
    refine State.has_onChassis ?_
    exact hQ.power (State.ctx { s with cfg := { s.cfg with power := new } }) s.cfg s.chassis rfl hs

/-! ## What an event leaves -/

variable {R : State → Prop} (hR : Lift.Ends Q R)
include hR

omit hQ in
theorem Lift.answer {s : State} (hs : R s) (r : Result) : R (s.answer r) :=
  State.answer_keeps (fun _ _ _ _ h => hR.rest h rfl rfl rfl) (fun _ _ _ h => hR.rest h rfl rfl rfl)
    (fun _ h => hR.restart _ h) s r hs

omit hQ in
theorem Lift.command {α : Type} {cmd : Cmd} {read : List Byte → Option α} {act : Proc → α → State → State × Result}
    {s : State} (hs : s.Has Q) (hact : ∀ pr a, (act pr a s).1.Has Q) : R (State.command cmd read act s) := by
  unfold State.command
  split
  · exact hR.weak hs
  · exact Lift.answer hR (hR.weak hs) _
  · exact Lift.answer hR (hR.weak (hact _ _)) _

omit hQ in
/-- By a command that reads. -/
theorem Lift.command_read {α : Type} {cmd : Cmd} {read : List Byte → Option α} {r : α → State → Result} {s : State}
    (hs : s.Has Q) : R (State.command cmd read (fun _ a s => (s, r a s)) s) :=
  Lift.command (act := fun _ a s => (s, r a s)) hR hs fun _ _ => hs

omit hQ in
/-- By a command that reads and is always Done. -/
theorem Lift.command_data {α : Type} {cmd : Cmd} {read : List Byte → Option α} {d : α → State → List Byte} {s : State}
    (hs : s.Has Q) : R (State.command cmd read (fun _ a s => (s, doneWith (d a s))) s) :=
  Lift.command_read (r := fun a s => doneWith (d a s)) hR hs

theorem Lift.frameEnd {s : State} (hs : s.Has Q) : R s.frameEnd := by
  unfold State.frameEnd
  split
  · exact hR.weak hs
  · dsimp only
    split
    · exact hR.restart _ (hR.rest (hR.weak hs) rfl rfl rfl)
    · split
      · unfold State.resyncNext
        split
        · exact hR.weak (hQ.slots s.chassis _ List.filter_sublist hs)
        · exact hR.weak hs
      · exact hR.weak hs

theorem Lift.lossOfSync {s : State} (hs : s.Has Q) : R s.lossOfSync := by
  have hd : (s.emptyLink.onChassis Chassis.endDrains).Has Q :=
    State.has_onChassis (hQ.endDrains s.emptyLink.ctx s.chassis hs)
  unfold State.lossOfSync
  split
  · exact hR.weak hs
  · exact hR.weak hs
  · unfold State.leaveUp
    dsimp only
    split
    · exact hR.restart _ (hR.weak hd)
    · exact hR.weak hd

omit hQ in
theorem Lift.unknownCode {s : State} (hs : s.Has Q) : R s.unknownCode := by
  unfold State.unknownCode
  split
  · exact hR.weak hs
  · split
    · exact hR.weak hs
    · split
      · exact Lift.answer hR (hR.weak hs) _
      · exact hR.weak hs

theorem Lift.readNow {s : State} (hs : s.Has Q) : R s.readNow := by
  unfold State.readNow
  split
  · exact hR.weak hs
  · exact Lift.answer hR (hR.weak hs) _
  · split
    · dsimp only
      split
      · exact Lift.answer hR (hR.weak hs) _
      · exact hR.weak (hQ.core.placeReadNow hs _ _)
    · exact Lift.answer hR (hR.weak hs) _

theorem Lift.readNowEnd (code : RawCode) {s : State} (hs : s.Has Q) : R (s.readNowEnd code) := by
  unfold State.readNowEnd
  split
  · refine Lift.answer hR (hR.weak (hQ.core.afterReadNow ?_)) _
    exact hs
  · exact hR.weak hs

/-- By every management command. -/
theorem Lift.cmd (cmd : Cmd) {s : State} (hs : s.Has Q) : R (cmd.effect s) := by
  have hC := hQ.core
  cases cmd
  case portEnable =>
    refine Lift.command (act := fun _ p s => (s.portEnable p, plain .done)) hR hs fun _ p =>
      State.has_onChassis (s := s.setEnabled p true) ?_
    exact hQ.enablePort (s.setEnabled p true).ctx s.cfg s.chassis p rfl hs
  case portDisable =>
    refine Lift.command (act := fun _ p s => (s.portDisable p, plain .done)) hR hs fun _ p =>
      State.has_onChassis (s := s.setEnabled p false) ?_
    exact hQ.disablePort (s.setEnabled p false).ctx s.cfg s.chassis p rfl hs
  case portSet => exact Lift.command hR hs fun _ f => hQ.portSetCommand f hs
  case editBegin => exact Lift.command hR hs fun pr _ => hC.editBegin hs pr
  case editAbort => exact Lift.command hR hs fun pr _ => hC.editAbort hs pr
  case setRename => exact Lift.command hR hs fun pr _ => hC.editCommand hs _ pr
  case defaultAccessSet => exact Lift.command hR hs fun pr _ => hC.editCommand hs _ pr
  case zoneCreate => exact Lift.command hR hs fun pr _ => hC.editCommand hs _ pr
  case zoneDelete => exact Lift.command hR hs fun pr _ => hC.editCommand hs _ pr
  case zoneRename => exact Lift.command hR hs fun pr _ => hC.editCommand hs _ pr
  case memberAdd => exact Lift.command hR hs fun pr _ => hC.editCommand hs _ pr
  case memberRemove => exact Lift.command hR hs fun pr _ => hC.editCommand hs _ pr
  case zoneCommit => exact Lift.command hR hs fun pr _ => hC.zoneCommit hs pr
  case claimTimeSet => exact Lift.command hR hs fun _ n => hC.claimTimeSet hs n
  case licenceInstall => exact Lift.command hR hs fun _ f => hQ.licenceInstall f hs
  case licenceRevoke => exact Lift.command hR hs fun _ id => hQ.licenceRevoke id hs
  case licenceRemove => exact Lift.command hR hs fun _ id => hQ.licenceRemove id hs
  case licenceWarnSet => exact Lift.command hR hs fun _ f => hQ.licenceWarnSet f hs
  case graceSet => exact Lift.command hR hs fun _ n => hC.graceSet hs n
  case channelSet => exact Lift.command hR hs fun _ f => hC.channelSet hs f
  case scannerSet => exact Lift.command hR hs fun _ f => hC.scannerSet hs f
  case readNow => exact hQ.readNow hR hs
  case coolingSet => exact Lift.command hR hs fun _ f => hC.coolingSet hs f
  case supplySet => exact Lift.command hR hs fun _ f => hQ.supplySet f hs
  case powerSet => exact Lift.command hR hs fun _ f => hQ.powerSet f hs
  case acknowledge => exact Lift.command hR hs fun _ f => hC.acknowledge hs f
  case alarmSet => exact Lift.command hR hs fun _ f => hC.alarmSet hs f
  case addressSet =>
    exact Lift.command (act := fun _ a s => ({ s with cfg := { s.cfg with mgmtAddr := BitVec.ofNat 24 a } }, plain .done))
      hR hs fun _ _ => hC.rest hs rfl rfl rfl rfl
  case save => exact Lift.command (act := fun _ _ s => s.save) hR hs fun _ _ => hs
  case restart => exact Lift.command (act := fun pr _ s => s.restartCommand pr) hR hs fun _ _ => hs
  case loginRead => exact Lift.command_read (r := fun f s => s.chassis.loginRead f) hR hs
  case zoneRead => exact Lift.command_read (r := fun f s => s.zoneRead f) hR hs
  case licenceRead => exact Lift.command_read (r := fun f s => s.licenceRead f) hR hs
  case portRead | environmentRead | coolingRead | powerRead | alarmRead | identityRead => exact Lift.command_data hR hs

/-- By every event. -/
theorem Lift.effect (c : Instr) {s : State} (hs : s.Has Q) : R (c.effect s) := by
  have hC := hQ.core
  have hframe (ok : Bool) {f : Ctx → Chassis → Chassis} (hf : ∀ s : State, s.Has Q → Q s.cfg (f s.ctx s.chassis)) :
      R (s.frameIn ok (State.onChassis f)) := hR.weak (State.has_frameIn ok (f := State.onChassis f) (fun s hs => hf s hs) hs)
  induction c using effect_cases with
  | cmd cmd c h => rw [h]; exact hQ.cmd hR cmd hs
  | idle c h => rw [h]; exact hR.weak hs
  | admissionQuery p src dst cls => exact hR.weak (State.has_frameIn _ (fun _ hs => hC.queryArrives hs _) hs)
  | login p a => exact hR.weak (State.has_frameIn _ (f := State.login p a) (fun _ hs => hQ.loginEvent p a hs) hs)
  | managementRequest origin privilege number cmds =>
    refine hR.weak (State.has_frameIn _ (f := fun s => match Privilege.ofByte? privilege with
      | some pv => s.requestArrives ⟨origin, pv, number, cmds⟩ | none => s) (fun s hs => ?_) hs)
    split
    · exact hC.requestArrives hs _
    · exact hs
  | linkUp p cls =>
    refine hframe _ fun s hs => ?_
    split
    · exact hQ.linkUp _ _ _ _ hs
    · exact hs
  | linkDown p => exact hframe _ fun s hs => hQ.linkDown s.ctx _ p hs
  | portFault p => exact hframe _ fun s hs => hQ.portFault s.ctx _ p hs
  | faultCleared p => exact hframe _ fun s hs => hQ.faultCleared s.ctx _ p hs
  | logout p a => exact hframe _ fun s hs => hQ.logout s.ctx _ p a hs
  | bladeEventInserted b =>
    refine hframe _ fun s hs => ?_
    split
    · exact hQ.insertBlade s.ctx _ _ hs
    · exact hs
  | bladeEventRemoved b =>
    refine hframe _ fun s hs => ?_
    split
    · exact hQ.removeBlade s.ctx _ _ hs
    · exact hs
  | lineActivity => exact hR.weak (hC.activity hs)
  | trainingComplete => exact hR.weak (hC.enterUp hs)
  | lossOfSync => exact hQ.lossOfSync hR hs
  | outboundFrameEnd => exact hQ.frameEnd hR hs
  | queryEvaluation => exact hR.weak (hC.evaluateQuery hs)
  | unknownCommandCode => exact Lift.unknownCode hR hs
  | readNowConversionEnd code => exact hQ.readNowEnd hR code hs
  | secondsCounterAdvance => exact hR.weak (hQ.secondEnds hs)
  | hourTick =>
    refine hR.weak ?_
    show s.hourTick.Has Q
    unfold State.hourTick
    split
    · exact hQ.secondEnds hs
    · exact hs
  | drainTimerExpiry p => exact hR.weak (hQ.drainExpiry p hs)
  | holdoffExpiry => exact hR.weak (hQ.holdoffExpiry hs)
  | pacingWindowEnd => exact hR.weak (hQ.pacingExpiry hs)
  | waitTimerExpiry => exact hR.weak (hQ.waitTimerExpiry hs)
  | claimTimerExpiry => exact hR.weak (hC.claimTimer hs)
  | validationEnd => exact hR.weak (hC.validationEnd hs)
  | settlingEnd => exact hR.weak (hC.settlingEnd hs)
  | restIntervalEnd => exact hR.weak (hC.restEnd hs)
  | conversionEnd code => exact hR.weak (hC.conversionEnd hs code)
  | roundEnd code => exact hR.weak (hC.roundEnd hs code)
  | tachPulse k => exact hR.weak (hC.pulse hs k)
  | gateEnd k => exact hR.weak (hC.gateEnd hs k)
  | presenceLost k => exact hR.weak (hC.trayLost hs k)
  | presenceGained k => exact hR.weak (hC.trayGained hs k)
  | supplySample a b => exact hR.weak (hC.supplySample hs a b)
  | pulseTimerExpiry k n => exact hR.weak (hC.pulseEnd hs k n)
  | railBelowWarning => exact hR.weak (hC.railLow hs)
  | standbyLowEntry => exact hR.weak (hC.enterLow hs)
  | standbyReturnNormal => exact hR.weak (hC.railBack hs)
  | writeCompletion => exact hR.weak (hC.writeEnds hs)

omit hR in
/-- R191: by the presence changes taken at the release of the RESET line. -/
theorem Lift.release {s : State} (hs : s.Has Q) : s.release.Has Q := by
  refine List.foldlRecOn (motive := State.Has Q) _ _ hs fun u hu k _ => ?_
  unfold State.takePresence
  split
  · exact hQ.core.trayGained hu k
  · exact hQ.core.trayLost hu k

/-- By every command. -/
theorem Lift.exec {c : Instr} {s t : State} (hs : s.Has Q) (h : exec c s = .next t) : R t := by
  have event {f : State → State} {s : State} (hs : s.Has Q) (hf : R (f s)) (h : s.event f = .next t) : R t := by
    rcases State.event_cases h with rfl | ⟨-, rfl⟩
    · exact hR.weak hs
    · exact hR.settle hf
  have eventInHold {f : State → State} {s : State} (hs : s.Has Q) (hf : R (f s)) (h : s.eventInHold f = .next t) :
      R t := by
    rcases State.eventInHold_cases h with rfl | rfl
    · exact hR.weak hs
    · exact hR.settle hf
  cases hc : actsInHold c with
  | false =>
    rw [exec_eq_event hc] at h
    exact event hs (hQ.effect hR c hs) h
  | true =>
    rcases actsInHold_cases hc with ⟨b, rfl⟩ | ⟨k, rfl⟩ | ⟨k, rfl⟩ | rfl | rfl | rfl | rfl | rfl | rfl | rfl
    · by_cases hl : s.store.monitor = .lost
      · cases (exec_coldStart_of_lost hl b).symm.trans h
        exact hR.settle (hR.coldStart b hs)
      · cases (exec_coldStart_of_not_lost hl b).symm.trans h; exact hR.weak hs
    · rw [exec_presenceLost] at h
      exact event (f := State.trayLost k) (s := s.setPresence k false) (State.has_of_eq hs rfl rfl)
        (hR.weak (hQ.core.trayLost (s := s.setPresence k false) (State.has_of_eq hs rfl rfl) k)) h
    · rw [exec_presenceGained] at h
      exact event (f := State.trayGained k) (s := s.setPresence k true) (State.has_of_eq hs rfl rfl)
        (hR.weak (hQ.core.trayGained (s := s.setPresence k true) (State.has_of_eq hs rfl rfl) k)) h
    · by_cases hr : s.Runs
      · cases (exec_resetLineAssert_of_runs hr).symm.trans h
        exact hR.settle (hR.restart _ (hR.weak (State.has_of_eq hs rfl rfl)))
      · cases (exec_resetLineAssert_of_not_runs hr).symm.trans h
        exact hR.weak (State.has_of_eq hs rfl rfl)
    · rw [exec_resetLineRelease] at h
      have hs' : State.Has Q { s with resetHeld := false } := hs
      refine event hs' (hR.weak ?_) h
      split
      · exact hQ.release hs'
      · exact hs'
    · rw [exec_railBelowWarning] at h
      exact eventInHold (f := State.railLow) hs (hR.weak (hQ.core.railLow hs)) h
    · rw [exec_standbyLowEntry] at h
      exact eventInHold (f := State.enterLow) hs (hR.weak (hQ.core.enterLow hs)) h
    · rw [exec_standbyReturnNormal] at h
      exact eventInHold (f := State.railBack) hs (hR.weak (hQ.core.railBack hs)) h
    · by_cases hl : s.store.monitor = .lost
      · cases (if_pos hl).symm.trans h; exact hR.weak hs
      · cases (exec_standbyLost hl).symm.trans h; exact hR.lost hs
    · rw [exec_writeCompletion] at h
      exact eventInHold (f := State.writeEnds) hs (hR.weak (hQ.core.writeEnds hs)) h

/-- By every step. -/
theorem Lift.step {s t : State} (hs : s.Has Q) (h : step s = .next t) : R t := by
  cases hp : s.pending with
  | nil =>
    cases (step_of_nil hp).symm.trans h
    unfold State.idle
    split
    · exact hR.weak hs
    · exact hR.weak hs
  | cons c rest =>
    rw [step_of_cons hp] at h
    exact hQ.exec hR (s := { s with pending := rest }) hs h

end

end Sys2Proof.Machine

/-! # The end of an event, and properties of the chassis alone -/

namespace Sys2Proof.Machine

section

variable {Q : Settings → Chassis → Prop} (hQ : Lift Q)
include hQ

/-- R176: by the frame that starts. -/
theorem Lift.takeItem {s : State} (hs : s.Has Q) : s.takeItem.Has Q := by
  unfold State.takeItem
  split
  · exact hs
  · exact hs
  · split
    · exact hs
    · exact hs
    · split
      · rename_i p k rest h
        exact hQ.slots s.chassis rest (h ▸ List.sublist_cons_self _ _) hs
      · split
        · exact hs
        · split
          · exact hs
          · split
            · rename_i n rest h
              refine hQ.alm s.chassis { s.chassis.alm with notices := rest } (fun ok => ?_) hs
              refine ⟨ok.1, ok.2.1, ok.2.2.1, Nat.le_trans ?_ ok.2.2.2⟩
              rw [h]
              exact Nat.le_succ _
            · exact hs

/-- By the end of an event. -/
theorem Lift.settle {s : State} (hs : s.Has Q) : s.settle.Has Q := by
  have hC := hQ.core
  have h1 : (s.onChassis Chassis.judgeGrace).Has Q := by
    refine State.has_onChassis ?_
    unfold Chassis.judgeGrace
    dsimp only
    generalize (s.chassis.ports.toList.any fun r => r.binding.isGrace) = b
    exact hQ.alm { s.chassis with graceRunning := b } _ (fun h => h.judge s.ctx .graceRunning 0 s.chassis.graceRunning b)
      (hQ.running s.chassis b hs)
  have h2 : (s.onChassis Chassis.judgeGrace).endStartUp.Has Q := by
    unfold State.endStartUp
    split
    · exact hC.rest (s := (s.onChassis Chassis.judgeGrace).notifyEvent _ _) (hC.notifyEvent h1 _ _) rfl rfl rfl rfl
    · exact h1
  have h3 : (s.onChassis Chassis.judgeGrace).endStartUp.runWriter.Has Q := by
    obtain ⟨l, z, c, w, h⟩ := (s.onChassis Chassis.judgeGrace).endStartUp.runWriter_frame
    rw [h]
    exact hQ.dirty _ l h2
  unfold State.settle
  refine hC.rest (s := State.arbitrate _) ?_ rfl rfl rfl rfl
  unfold State.arbitrate
  split
  · exact hQ.takeItem h3
  · exact h3

/-- What stands before an event stands after it, where a reset leaves it standing. -/
theorem Lift.ends (hrestart : ∀ {s : State} cause, s.Has Q → (s.restartBy cause).Has Q)
    (hcold : ∀ {s : State} b, s.Has Q → (s.coldStartNow b).Has Q) : Lift.Ends Q (State.Has Q) where
  weak hs := hs
  rest hs hc hch _ := State.has_of_eq hs hc hch
  restart := hrestart
  settle := hQ.settle
  coldStart := hcold
  lost hs := hs

end

/-! ## Properties that the moves of the chassis keep -/

/-- A property that the moves of the chassis keep and that both kinds of hooks keep. It reads of the settings the power
governor's and the shed priorities at most. -/
structure LiftParts (Q : Settings → Chassis → Prop) : Prop where
  moves : ∀ x, ChassisKeptAt x (Q x.cfg)
  outer : ∀ x, (Machine.outer x).Keep x (fun _ => True) (Q x.cfg)
  inRebind : ∀ x, (Machine.inRebind x).Keep x (fun _ => True) (Q x.cfg)
  settings : ∀ {k k' : Settings} {c}, k'.power = k.power → (∀ q, (k'.port q).priority = (k.port q).priority) → Q k c →
    Q k' c
  blades : ∀ k c v, Q k c → Q k { c with blades := v }
  handPwr : ∀ x f c, (c.pwr.inputs.settled = true → (f c.pwr.inputs).settled = true) → Q x.cfg c →
    Q x.cfg (c.handPwr x f)
  power : ∀ x k c, k.ports = x.cfg.ports → Q k c → Q x.cfg (c.evaluate x)
  pacing : ∀ k c, Q k c → Q k (c.setPwr { c.pwr with pacing := none })
  removed : ∀ (x : Ctx) b (c : Chassis), Q x.cfg c → Q x.cfg
    (((portsOf b).foldl (fun d p => Chassis.removePort x recording p d)
      { c with blades := c.blades.set b.val false }).handPwr x (fun i => { i with blades := i.blades - 1 }))
  portSet : ∀ x k c p new, x.cfg = k.setPort p new → Q k c → Q x.cfg (c.portSet x p (k.port p) new)

theorem Settings.port_setPort_ne {k : Settings} {p q : PortId} {a : PortAdmin} (h : q ≠ p) :
    (k.setPort p a).port q = k.port q := by
  unfold Settings.port Settings.setPort
  exact Vector.getElem_set_ne p.isLt q.isLt fun hv => h (Fin.ext hv.symm)

theorem Settings.port_setPort_self (k : Settings) (p : PortId) (a : PortAdmin) : (k.setPort p a).port p = a := by
  unfold Settings.port Settings.setPort
  exact Vector.getElem_set_self _

/-- Other settings of a port that leave its shed priority. -/
theorem Settings.setPort_priority {k : Settings} {p : PortId} {a : PortAdmin} (h : a.priority = (k.port p).priority)
    (q : PortId) : ((k.setPort p a).port q).priority = (k.port q).priority := by
  by_cases hq : q = p
  · subst hq
    rw [Settings.port_setPort_self]
    exact h
  · rw [Settings.port_setPort_ne hq]

theorem LiftParts.evaluate {Q : Settings → Chassis → Prop} (hQ : LiftParts Q) {x : Ctx} {c : Chassis} (h : Q x.cfg c) :
    Q x.cfg (c.evaluate x) := hQ.power x _ c rfl h

theorem LiftParts.lift {Q : Settings → Chassis → Prop} (hQ : LiftParts Q) : Lift Q where
  cfg hp hw h := hQ.settings hw (fun q => by unfold Settings.port; rw [hp]) h
  alm {k} c a ha h := (hQ.moves { State.reset.ctx with cfg := k }).alm c a ha h
  slots {k} c v _ h := (hQ.moves { State.reset.ctx with cfg := k }).slots c v h
  dirty {k} c b h := (hQ.moves { State.reset.ctx with cfg := k }).dirty c b h
  running {k} c b h := (hQ.moves { State.reset.ctx with cfg := k }).closed.running c b h
  waitTimer {k} c b w h := (hQ.moves { State.reset.ctx with cfg := k }).closed.pwr c _
    ⟨rfl, rfl, rfl, rfl, rfl, rfl, fun _ he => he⟩ h
  handPwr := hQ.handPwr
  power := hQ.power
  holdoffEnd x c h := hQ.evaluate ((hQ.moves x).closed.pwr c _ ⟨rfl, rfl, rfl, rfl, rfl, rfl, fun _ he => he⟩ h)
  pacingEnd x c h := by
    unfold Chassis.pacingEnd
    dsimp only
    split
    · exact hQ.pacing _ c h
    · exact hQ.evaluate (hQ.pacing _ c h)
  linkUp k c p r h := (hQ.moves { State.reset.ctx with cfg := k }).closed.linkUp trivial h r
  linkDown x c p h := (hQ.moves x).closed.linkDown (hQ.outer x) trivial h
  portFault x c p h := (hQ.moves x).closed.portFault (hQ.outer x) trivial h
  faultCleared x c p h := (hQ.moves x).closed.faultCleared (hQ.outer x) trivial h
  login x c p a h := (hQ.moves x).login (hQ.outer x) h p a
  logout x c p a h := (hQ.moves x).logout (hQ.outer x) h p a
  insertBlade x c b h := by
    unfold Chassis.insertBlade
    split
    · exact h
    · have h1 : Q x.cfg { c with blades := c.blades.set b.val true } := hQ.blades _ _ _ h
      have h2 := List.foldlRecOn (motive := Q x.cfg) (portsOf b)
        (fun c p => c.setPort p { c.port p with state := .disabled }) h1
        fun d hd p _ => (hQ.moves x).closed.port d p _ trivial (.inr rfl) hd
      exact List.foldlRecOn (motive := Q x.cfg) _ _ (hQ.handPwr x (fun i => { i with blades := i.blades + 1 }) _ id h2)
        fun d hd p _ => (hQ.moves x).closed.seatRequest (hQ.outer x) trivial hd
  removeBlade x c b h := by
    unfold Chassis.removeBlade
    split
    · exact (hQ.moves x).closed.passIfDue (hQ.inRebind x) (hQ.removed x b c h)
    · exact h
  drainTimer x c p d _ _ h := (hQ.moves x).closed.drainEnd (hQ.outer x) trivial h d
  endDrains x c h := by
    have h1 : Q x.cfg { c with slots := [], logins := [] } := by
      have := (hQ.moves x).filterLogins { c with slots := [] } (fun _ => false) ((hQ.moves x).slots c [] h)
      rwa [List.filter_false] at this
    unfold Chassis.endDrains
    exact List.foldlRecOn (motive := Q x.cfg) _ _ h1 fun _ hd p _ => (hQ.moves x).closed.endDrainOf (hQ.outer x) trivial hd
  hourTick x c h := (hQ.moves x).hourTick (hQ.inRebind x) h fun _ hd => (hQ.moves x).closed.passIfDue (hQ.inRebind x) hd
  install x c r hn hlt hst h := by
    have := (hQ.outer x).pass _ ((hQ.moves x).dirty _ true ((hQ.moves x).install c r hn hlt hst h))
    rwa [outer_pass] at this
  revoked x c l hl _ h := (hQ.moves x).revoked h (hQ.inRebind x) hl
  removeLicence x c l _ _ h := (hQ.moves x).removeLicence h l.record
  warn k c id n h := (hQ.moves { State.reset.ctx with cfg := k }).onLicence id (fun _ => rfl)
    (fun hok l hl _ => hok.2.2 l hl) h
  enablePort x k c p hx h := (hQ.moves x).closed.enablePort (hQ.outer x) trivial
    (hQ.settings (by rw [hx]; rfl) (fun q => by rw [hx]; exact Settings.setPort_priority (by exact rfl) q) h)
  disablePort x k c p hx h := (hQ.moves x).closed.disablePort (hQ.outer x) trivial
    (hQ.settings (by rw [hx]; rfl) (fun q => by rw [hx]; exact Settings.setPort_priority (by exact rfl) q) h)
  portSet := hQ.portSet

/-! ## Properties of one block of the chassis (`ChassisKept`) -/

namespace ChassisKept

variable {Q : Chassis → Prop} (hQ : ChassisKept Q)
include hQ

/-- They hold whatever the settings are. -/
theorem lift : Lift fun _ => Q := LiftParts.lift
  { moves := fun x => hQ.at x
    outer := fun x => (hQ.closed x).outer
    inRebind := fun x => (hQ.closed x).inRebind
    settings := fun _ _ h => h
    blades := fun _ => hQ.blades
    handPwr := fun x f c _ h => (hQ.closed x).handPwr f (hQ.inputs c _ h)
    power := fun x _ c _ h => (hQ.closed x).evaluate h
    pacing := fun _ => hQ.pacing
    removed := fun x b c h => (hQ.closed x).handPwr _ (hQ.inputs _ _ (List.foldlRecOn (motive := Q) _ _
      (hQ.blades c (c.blades.set b.val false) h)
      fun d hd p _ => (hQ.closed x).removePort (hQ.closed x).recording trivial hd))
    portSet := fun x k c p new _ h => by
      have h1 : Q (if new.reqClass = (k.port p).reqClass then c else c.requestChanged x (outer x) p) := by
        split
        · exact h
        · exact (hQ.closed x).requestChanged (hQ.closed x).outer trivial h
      unfold Chassis.portSet
      dsimp only
      split
      · exact h1
      · exact (hQ.closed x).evaluate h1 }

end ChassisKept

end Sys2Proof.Machine

/-! # Bounds of the login table, the alarm unit, the licence table and the pacing window -/

namespace Sys2Proof.Machine

/-! ## What the moves leave of one block -/

theorem Chassis.setGrace_frame (p : PortId) (n : Nat) (c : Chassis) : ∃ g b,
    c.setGrace p n = { c with grace := g, licencesDirty := b } := by
  unfold Chassis.setGrace; split <;> exact ⟨_, _, rfl⟩

/-! ## The login table (R26) -/

theorem loginsOk_of_sublist {c d : Chassis} (h : c.LoginsOk) (hs : d.logins.Sublist c.logins) : d.LoginsOk := by
  obtain ⟨hn, hl, hp⟩ := h
  exact ⟨hn.sublist (hs.map _), hs.length_le.trans hl, fun p => ((hs.filter _).length_le).trans (hp p)⟩

theorem loginsOk_closed (x : Ctx) : Chassis.ClosedEval x (fun _ => True) Chassis.LoginsOk where
  of_granted _ _ _ _ := trivial
  of_waiting _ _ _ _ := trivial
  of_counted _ _ _ _ := trivial
  of_seatWait _ _ _ _ := trivial
  port _ _ _ _ _ h := h
  joinWait _ _ _ _ h := h
  pwr _ _ _ h := h
  episode _ _ h := h
  count _ _ h := h
  control c p k _ h := loginsOk_of_sublist h (by rw [Chassis.putControl_logins])
  logins _ _ _ h := loginsOk_of_sublist h List.filter_sublist
  alarm_raise _ _ _ h := h
  alarm_clear _ _ _ h := h
  running _ _ h := h
  bind _ _ _ _ _ h := h
  unbind _ _ _ _ h := h
  grace c p n _ h := by
    obtain ⟨g, b, he⟩ := c.setGrace_frame p n
    rw [he]
    exact h
  joinSeat _ _ _ h := h
  leaveSeat _ _ _ h := h
  due _ _ h := h
  lower _ _ _ _ _ h := h
  take c p g _ h := by
    unfold Chassis.takeGrant
    exact loginsOk_of_sublist (c := c) h (by rw [Chassis.putControl_logins]; exact .refl _)
  form _ h := h

theorem loginsOk_kept : ChassisKept Chassis.LoginsOk where
  closed := loginsOk_closed
  blades _ _ h := h
  slots _ _ h := h
  dirty _ _ h := h
  inputs _ _ h := h
  pacing _ h := h
  alm _ _ _ h := h
  filterLogins _ _ h := loginsOk_of_sublist h List.filter_sublist
  newLogin c a p hn hl hp h := by
    obtain ⟨h1, h2, h3⟩ := h
    refine ⟨?_, ?_, fun q => ?_⟩
    · rw [List.map_append]
      refine List.nodup_append_comm.1 (List.nodup_cons.2 ⟨fun hm => ?_, h1⟩)
      obtain ⟨e, he, ha⟩ := List.mem_map.1 hm
      have := Option.map_eq_none_iff.1 hn
      exact List.find?_eq_none.1 this e he (beq_iff_eq.2 ha)
    · rw [List.length_append]
      exact hl
    · rw [Chassis.loginCount, List.filter_append, List.length_append]
      by_cases hq : q = p
      · subst hq
        simp only [List.filter_singleton, beq_self_eq_true]
        exact hp
      · have : (p == q) = false := beq_eq_false_iff_ne.2 fun h => hq h.symm
        simp only [List.filter_singleton, this]
        exact h3 q
  moveLogin c a p q hq hp h := by
    obtain ⟨h1, h2, h3⟩ := h
    obtain ⟨e, he, ha, -⟩ := Chassis.loginOf_some hq
    have hsub : (c.logins.filter fun e => e.addr != a).Sublist c.logins := List.filter_sublist
    refine ⟨?_, ?_, fun r => ?_⟩
    · rw [List.map_append]
      refine List.nodup_append_comm.1 (List.nodup_cons.2 ⟨fun hm => ?_, h1.sublist (hsub.map _)⟩)
      obtain ⟨f, hf, hfa⟩ := List.mem_map.1 hm
      have := (List.mem_filter.1 hf).2
      simp [hfa] at this
    · rw [List.length_append]
      have hlt : (c.logins.filter fun e => e.addr != a).length < c.logins.length := by
        refine List.length_filter_lt_length_iff_exists.2 ⟨e, he, by simp [ha]⟩
      exact Nat.le_trans hlt h2
    · rw [Chassis.loginCount, List.filter_append, List.length_append]
      have hle := (hsub.filter fun e => e.port == r).length_le
      by_cases hr : r = p
      · subst hr
        simp only [List.filter_singleton, beq_self_eq_true]
        exact Nat.lt_of_le_of_lt hle hp
      · have : (p == r) = false := beq_eq_false_iff_ne.2 fun h => hr h.symm
        simp only [List.filter_singleton, this]
        exact hle.trans (h3 r)
  mapLicences _ _ _ _ h := h
  filterLicences _ _ h := h
  install _ _ _ _ _ h := h

/-! ## The alarm unit (R155, R157, R165) -/

theorem almOk_closed (x : Ctx) : Chassis.ClosedEval x (fun _ => True) fun c => c.alm.Ok where
  of_granted _ _ _ _ := trivial
  of_waiting _ _ _ _ := trivial
  of_counted _ _ _ _ := trivial
  of_seatWait _ _ _ _ := trivial
  port _ _ _ _ _ h := h
  joinWait _ _ _ _ h := h
  pwr _ _ _ h := h
  episode _ _ h := h
  count _ _ h := h
  control c p k _ h := by rw [Chassis.putControl_alm]; exact h
  logins _ _ _ h := h
  alarm_raise _ _ _ h := h.raise ..
  alarm_clear _ _ _ h := h.clear ..
  running _ _ h := h
  bind _ _ _ _ _ h := h
  unbind _ _ _ _ h := h
  grace c p n _ h := by
    obtain ⟨g, b, he⟩ := c.setGrace_frame p n
    rw [he]
    exact h
  joinSeat _ _ _ h := h
  leaveSeat _ _ _ h := h
  due _ _ h := h
  lower _ _ _ _ _ h := h
  take c p g _ h := by unfold Chassis.takeGrant; rw [Chassis.putControl_alm]; exact h
  form _ h := h.judge ..

theorem almOk_kept : ChassisKept fun c => c.alm.Ok where
  closed := almOk_closed
  blades _ _ h := h
  slots _ _ h := h
  dirty _ _ h := h
  inputs _ _ h := h
  pacing _ h := h
  alm _ _ ha h := ha h
  filterLogins _ _ h := h
  newLogin _ _ _ _ _ _ h := h
  moveLogin _ _ _ _ _ _ h := h
  mapLicences _ _ _ _ h := h
  filterLicences _ _ h := h
  install _ _ _ _ _ h := h

/-! ## The pacing window (R150) -/

/-- R150: the count of a pacing window. -/
def Chassis.PacingOk (c : Chassis) : Prop := ∀ w ∈ c.pwr.pacing, 1 ≤ w.count ∧ w.count ≤ Config.paceCap

theorem pacingOk_of_eq {c d : Chassis} (h : c.PacingOk) (he : d.pwr.pacing = c.pwr.pacing) : d.PacingOk := by
  unfold Chassis.PacingOk
  rw [he]
  exact h

theorem pacingOk_closed (x : Ctx) : Chassis.ClosedEval x (fun _ => True) Chassis.PacingOk where
  of_granted _ _ _ _ := trivial
  of_waiting _ _ _ _ := trivial
  of_counted _ _ _ _ := trivial
  of_seatWait _ _ _ _ := trivial
  port _ _ _ _ _ h := h
  joinWait _ _ _ _ h := h
  pwr _ _ hf h := pacingOk_of_eq h hf.pacing
  episode _ _ h := h
  count c hpaced h := by
    intro w hw
    have hw : w ∈ (c.pwr.countGrant x.clockMs).pacing := hw
    unfold Pwr.countGrant at hw
    unfold Pwr.paced at hpaced
    dsimp only at hw
    split at hw
    · rename_i g hg
      cases hw
      rw [hg] at hpaced
      have hlt : g.count < Config.paceCap := Nat.lt_of_not_le (of_decide_eq_false hpaced)
      exact ⟨Nat.succ_le_succ (Nat.zero_le _), hlt⟩
    · cases hw
      exact ⟨Nat.le_refl 1, (by decide : 1 ≤ Config.paceCap)⟩
  control c p k _ h := pacingOk_of_eq h (by rw [Chassis.putControl_pwr])
  logins _ _ _ h := h
  alarm_raise _ _ _ h := h
  alarm_clear _ _ _ h := h
  running _ _ h := h
  bind _ _ _ _ _ h := h
  unbind _ _ _ _ h := h
  grace c p n _ h := by
    obtain ⟨g, b, he⟩ := c.setGrace_frame p n
    rw [he]
    exact h
  joinSeat _ _ _ h := h
  leaveSeat _ _ _ h := h
  due _ _ h := h
  lower _ _ _ _ _ h := h
  take c p g _ h := by
    unfold Chassis.takeGrant
    exact pacingOk_of_eq (c := c) h (by rw [Chassis.putControl_pwr]; rfl)
  form _ h := h

theorem pacingOk_kept : ChassisKept Chassis.PacingOk where
  closed := pacingOk_closed
  blades _ _ h := h
  slots _ _ h := h
  dirty _ _ h := h
  inputs _ _ h := h
  pacing _ _ := nofun
  alm _ _ _ h := h
  filterLogins _ _ h := h
  newLogin _ _ _ _ _ _ h := h
  moveLogin _ _ _ _ _ _ h := h
  mapLicences _ _ _ _ h := h
  filterLicences _ _ h := h
  install _ _ _ _ _ h := h

/-! ## The licence table (R78, R79) -/

theorem licencesOk_of_eq {c d : Chassis} (h : c.LicencesOk) (he : d.licences = c.licences) : d.LicencesOk := by
  unfold Chassis.LicencesOk
  rw [he]
  exact h

/-- A change of the table record by record. -/
theorem licencesOk_map {c : Chassis} {f : Licence → Licence} (hid : ∀ l : Licence, (f l).record.id = l.record.id)
    (hok : ∀ l ∈ c.licences, (f l).Ok) (h : c.LicencesOk) :
    ({ c with licences := c.licences.map f } : Chassis).LicencesOk := by
  obtain ⟨h1, h2, -⟩ := h
  refine ⟨by rw [List.length_map]; exact h1, ?_, fun l hl => ?_⟩
  · rw [List.map_map]
    exact Eq.mp (congrArg List.Nodup (List.map_congr_left fun l _ => (hid l).symm)) h2
  · obtain ⟨m, hm, rfl⟩ := List.mem_map.1 hl
    exact hok m hm

/-- R79: a port joins the list of a licence that has a free seat. -/
theorem licencesOk_bind {x : Ctx} {c : Chassis} {p : PortId} {l : LicenceRec} (hl : c.seatChoice x p = some l)
    (h : c.LicencesOk) : (c.bindSeat l.id p).LicencesOk := by
  obtain ⟨m, hm, rfl⟩ := Option.map_eq_some_iff.1 hl
  obtain ⟨hmem, hcand⟩ := List.mem_filter.1 (lowest_mem hm)
  simp only [Licence.candidate, Bool.and_eq_true, beq_iff_eq, decide_eq_true_eq] at hcand
  obtain ⟨⟨hact, hfree⟩, -⟩ := hcand
  refine licencesOk_map (fun l => ?_) (fun l hlm => ?_) h
  · split <;> rfl
  · split
    · rename_i hid
      have : l = m := List.inj_on_of_nodup_map h.2.1 hlm hmem (beq_iff_eq.1 hid)
      subst this
      refine ⟨?_, fun hn => absurd hact hn⟩
      rw [List.length_append]
      exact hfree
    · exact h.2.2 l hlm

theorem licencesOk_unbind {c : Chassis} (id : Word16) (p : PortId) (h : c.LicencesOk) : (c.unbindSeat id p).LicencesOk := by
  refine licencesOk_map (fun l => ?_) (fun l hlm => ?_) h
  · split <;> rfl
  · split
    · obtain ⟨h1, h2⟩ := h.2.2 l hlm
      exact ⟨(List.length_filter_le _ _).trans h1, fun hn => List.filter_eq_nil_iff.2 (by rw [h2 hn]; nofun)⟩
    · exact h.2.2 l hlm

theorem licencesOk_closed (x : Ctx) : Chassis.ClosedEval x (fun _ => True) Chassis.LicencesOk where
  of_granted _ _ _ _ := trivial
  of_waiting _ _ _ _ := trivial
  of_counted _ _ _ _ := trivial
  of_seatWait _ _ _ _ := trivial
  port _ _ _ _ _ h := h
  joinWait _ _ _ _ h := h
  pwr _ _ _ h := h
  episode _ _ h := h
  count _ _ h := h
  control c p k _ h := licencesOk_of_eq h (by rw [Chassis.putControl_licences])
  logins _ _ _ h := h
  alarm_raise _ _ _ h := h
  alarm_clear _ _ _ h := h
  running _ _ h := h
  bind _ _ _ _ hl h := licencesOk_bind hl h
  unbind _ p id _ h := licencesOk_unbind id p h
  grace c p n _ h := by
    obtain ⟨g, b, he⟩ := c.setGrace_frame p n
    rw [he]
    exact h
  joinSeat _ _ _ h := h
  leaveSeat _ _ _ h := h
  due _ _ h := h
  lower _ _ _ _ _ h := h
  take c p g _ h := by
    unfold Chassis.takeGrant
    exact licencesOk_of_eq (c := c) h (by rw [Chassis.putControl_licences]; rfl)
  form _ h := h

theorem licencesOk_kept : ChassisKept Chassis.LicencesOk where
  closed := licencesOk_closed
  blades _ _ h := h
  slots _ _ h := h
  dirty _ _ h := h
  inputs _ _ h := h
  pacing _ h := h
  alm _ _ _ h := h
  filterLogins _ _ h := h
  newLogin _ _ _ _ _ _ h := h
  moveLogin _ _ _ _ _ _ h := h
  mapLicences _ _ hid hok h := licencesOk_map hid (hok h) h
  filterLicences c f h := by
    have hs : (c.licences.filter f).Sublist c.licences := List.filter_sublist
    exact ⟨hs.length_le.trans h.1, h.2.1.sublist (hs.map _), fun l hl => h.2.2 l (hs.subset hl)⟩
  install c r hn hlt _ h := by
    refine ⟨?_, ?_, fun l hl => ?_⟩
    · rw [List.length_append]
      exact hlt
    · rw [List.map_append]
      refine List.nodup_append_comm.1 (List.nodup_cons.2 ⟨fun hm => ?_, h.2.1⟩)
      obtain ⟨m, hm, he⟩ := List.mem_map.1 hm
      exact List.find?_eq_none.1 hn m hm (beq_iff_eq.2 he)
    · rcases List.mem_append.1 hl with hl | hl
      · exact h.2.2 l hl
      · cases List.mem_singleton.1 hl
        exact ⟨Nat.zero_le _, fun _ => rfl⟩

end Sys2Proof.Machine

/-! # The table of the nine states, lifted to the part -/

namespace Sys2Proof.Machine

/-- The table for the settings of the ports. -/
def Chassis.SoundFor (t b : Prop) (k : Settings) (c : Chassis) : Prop :=
  ∀ x : Ctx, x.cfg.ports = k.ports → c.Sound x (Scope.plain t b)

section

variable {t b : Prop} {c : Chassis}

theorem Chassis.Sound.for {x : Ctx} (h : c.Sound x (Scope.plain t b)) : c.SoundFor t b x.cfg := fun x' hx =>
  h.of_cfg fun q => by unfold Settings.port; rw [hx]

theorem Chassis.SoundFor.at {x : Ctx} (h : c.SoundFor t b x.cfg) : c.Sound x (Scope.plain t b) := h x rfl

/-- Other settings of one port that leave its requested rate class. -/
theorem Chassis.SoundFor.withAdmin {x : Ctx} {k : Settings} {p : PortId} {a : PortAdmin} (h : c.SoundFor t b k)
    (hx : x.cfg = k.setPort p a) (ha : a.reqClass = (k.port p).reqClass) : c.Sound x (Scope.plain t b) := by
  refine (h { x with cfg := k } rfl).of_cfg fun q => ?_
  rw [hx]
  by_cases hq : q = p
  · subst hq
    rw [Settings.port_setPort_self]
    exact ha
  · rw [Settings.port_setPort_ne hq]

/-- R14: Port Set. -/
theorem Chassis.SoundFor.portSet {x : Ctx} {k : Settings} {p : PortId} {new : PortAdmin} (h : c.SoundFor t b k)
    (hx : x.cfg = k.setPort p new) : (c.portSet x p (k.port p) new).Sound x (Scope.plain t b) := by
  have h1 : (if new.reqClass = (k.port p).reqClass then c else c.requestChanged x (outer x) p).Sound x
      (Scope.plain t b) := by
    split
    · rename_i he; exact h.withAdmin hx he
    · refine (h { x with cfg := k } rfl).requestChanged fun q hq => ?_
      rw [hx, Settings.port_setPort_ne hq]
  unfold Chassis.portSet
  dsimp only
  split
  · exact h1
  · exact h1.evaluate

end

/-- A change that no view sees. -/
theorem Chassis.SoundFor.of_view {t b : Prop} {k : Settings} {c d : Chassis} (h : c.SoundFor t b k)
    (hv : ∀ q, d.view q = c.view q) (hk : d.licKeys = c.licKeys) : d.SoundFor t b k := fun x hx => (h x hx).of_view hv hk

/-- R177: slots that leave the list are in no one's way. -/
theorem Chassis.SoundFor.of_slots {t b : Prop} {k : Settings} {c : Chassis} {v : List (PortId × Control)}
    (hv : v.Sublist c.slots) (h : c.SoundFor t b k) : ({ c with slots := v } : Chassis).SoundFor t b k := fun x hx => by
  have hs := h x hx
  refine ⟨fun q => ?_, hs.keys⟩
  show ({ c.view q with slots := (v.map Prod.fst).count q } : PortView).Ok x _ q
  refine (hs.port q).with_slots ?_
  by_cases ht : t
  · exact .inl (((hv.map Prod.fst).count_le q).trans ((hs.port q).slots ht))
  · exact .inr ht

/-- The table, together with the bounds that it needs of logins and licences. -/
def Chassis.SoundWith (t b : Prop) (R : Chassis → Prop) (k : Settings) (c : Chassis) : Prop := R c ∧ c.SoundFor t b k

theorem soundWith_lift {t b : Prop} {R : Chassis → Prop} (hR : ChassisKept R) (ht : ∀ c, R c → t → c.LoginsOk)
    (hb : ∀ c, R c → b → c.LicencesOk) : Lift (Chassis.SoundWith t b R) where
  cfg hp _ h := ⟨h.1, fun x hx => h.2 x (hx.trans hp)⟩
  alm c a ha h := ⟨hR.lift.alm (k := State.reset.cfg) c a ha h.1, h.2.of_view (fun _ => rfl) rfl⟩
  slots c v hv h := ⟨hR.slots c v h.1, h.2.of_slots hv⟩
  dirty c b h := ⟨hR.dirty c b h.1, h.2.of_view (fun _ => rfl) rfl⟩
  running c b h := ⟨hR.lift.running (k := State.reset.cfg) c b h.1, h.2.of_view (fun _ => rfl) rfl⟩
  waitTimer c b w h := ⟨hR.lift.waitTimer (k := State.reset.cfg) c b w h.1, h.2.of_view (fun _ => rfl) rfl⟩
  handPwr x f c hf h := ⟨hR.lift.handPwr x f c hf h.1, (h.2.at.handPwr f).for⟩
  power x k c hk h := ⟨hR.lift.power x k c hk h.1, Chassis.Sound.for (Chassis.Sound.evaluate (h.2 x hk.symm))⟩
  holdoffEnd x c h := ⟨hR.lift.holdoffEnd x c h.1,
    Chassis.Sound.for (Chassis.Sound.evaluate (h.2.at.of_view (fun _ => rfl) rfl))⟩
  pacingEnd x c h := by
    refine ⟨hR.lift.pacingEnd x c h.1, Chassis.Sound.for ?_⟩
    unfold Chassis.pacingEnd
    dsimp only
    split
    · exact h.2.at.of_view (fun _ => rfl) rfl
    · exact Chassis.Sound.evaluate (h.2.at.of_view (fun _ => rfl) rfl)
  linkUp k c p r h := ⟨hR.lift.linkUp k c p r h.1, fun x hx => (h.2 x hx).linkUp r⟩
  linkDown x c p h := ⟨hR.lift.linkDown x c p h.1, (h.2.at.linkDown (outer_sounds x) rfl).for⟩
  portFault x c p h := ⟨hR.lift.portFault x c p h.1, (h.2.at.portFault (outer_sounds x) rfl).for⟩
  faultCleared x c p h := ⟨hR.lift.faultCleared x c p h.1, (h.2.at.faultCleared (outer_sounds x) rfl).for⟩
  login x c p a h := ⟨hR.lift.login x c p a h.1,
    (h.2.at.login (outer_sounds x) (fun h' => (ht c h.1 h').1) (fun _ => rfl) a).for⟩
  logout x c p a h := ⟨hR.lift.logout x c p a h.1,
    (h.2.at.logout (outer_sounds x) (fun h' => (ht c h.1 h').1) rfl a).for⟩
  insertBlade x c b h := ⟨hR.lift.insertBlade x c b h.1, (h.2.at.insertBlade b).for⟩
  removeBlade x c b h := ⟨hR.lift.removeBlade x c b h.1, (h.2.at.removeBlade b).for⟩
  drainTimer x c p d n hd h := by
    refine ⟨hR.lift.drainTimer x c p d n hd h.1, Chassis.Sound.for ?_⟩
    exact (h.2.at.off p).endsDrain (outer_sounds x) (h.2.at.port p).lift hd (.refl _ p) rfl (fun h => h) d
  endDrains x c h := ⟨hR.lift.endDrains x c h.1, h.2.at.endDrains.undrained.for⟩
  hourTick x c h := ⟨hR.lift.hourTick x c h.1,
    (h.2.at.hourTick (inRebind_sounds x) fun hd => hd.passIfDue (inRebind_sounds x)).for⟩
  install x c r hn hlt hst h := ⟨hR.lift.install x c r hn hlt hst h.1, (h.2.at.install r hn true).for⟩
  revoked x c l hl hf h := ⟨hR.lift.revoked x c l hl hf h.1, (h.2.at.revoked l.record).for⟩
  removeLicence x c l hf hst h := by
    refine ⟨hR.lift.removeLicence x c l hf hst h.1, Chassis.Sound.for (h.2.at.removeLicence l.record fun hbi m hm hid => ?_)⟩
    obtain ⟨-, hids, hok⟩ := hb c h.1 hbi
    have : m = l := List.inj_on_of_nodup_map hids hm (List.mem_of_find?_eq_some hf) hid
    exact (hok m hm).2 (this ▸ hst)
  warn k c id n h := ⟨hR.lift.warn k c id n h.1, fun x hx => (h.2 x hx).onLicence id fun _ => ⟨rfl, rfl⟩⟩
  enablePort x k c p hx h := ⟨hR.lift.enablePort x k c p hx h.1,
    ((h.2.withAdmin hx rfl).enablePort (outer_sounds x) rfl fun h => h).for⟩
  disablePort x k c p hx h := ⟨hR.lift.disablePort x k c p hx h.1,
    ((h.2.withAdmin hx rfl).disablePort (outer_sounds x) rfl trivial).for⟩
  portSet x k c p new hx h := ⟨hR.lift.portSet x k c p new hx h.1, (h.2.portSet hx).for⟩

/-! ## The table as the statements write it -/

theorem count_eq_ite_iff_nodup {l : List PortId} {P : PortId → Prop} [DecidablePred P] :
    (∀ q, l.count q = if P q then 1 else 0) ↔ (∀ q, q ∈ l ↔ P q) ∧ l.Nodup := by
  constructor
  · intro h
    refine ⟨fun q => ?_, List.nodup_iff_count_le_one.2 fun q => ?_⟩
    · rw [← List.count_pos_iff, h q]
      split <;> simp_all
    · rw [h q]
      split <;> simp
  · rintro ⟨h, hn⟩ q
    split
    · rename_i hq
      exact List.count_eq_one_of_mem hn ((h q).2 hq)
    · rename_i hq
      exact List.count_eq_zero_of_not_mem fun hm => hq ((h q).1 hm)

/-- R1 to R6, R86, R140, R147: the table, without logins and bound seat lists. -/
theorem State.portsOk_iff (s : State) : s.PortsOk ↔ s.chassis.Sound s.ctx (Scope.plain False False) := by
  constructor
  · rintro ⟨hrow, hnodup, hceil⟩
    have hcount := count_eq_ite_iff_nodup (P := fun q => (s.chassis.port q).state = .unseated).2
      ⟨fun q => (hrow q).2.2.2.1, hnodup⟩
    refine ⟨fun q => ?_, nofun⟩
    obtain ⟨hbind, hseat, hgrant, -, hwait, hblade⟩ := hrow q
    obtain ⟨heff, hle⟩ := hceil q
    exact
      { held := nofun
        binding := hbind.trans (or_iff_left nofun).symm
        seatCeil := hseat.trans (Bool.or_false _).symm
        granted := hgrant.trans (Bool.and_true _).symm
        seat := hcount q
        waits := hwait
        blade := fun _ => hblade
        effCeil := heff
        ceiling := fun _ => hle
        drains := fun _ => trivial
        still := nofun
        logins := nofun
        draining := nofun
        slots := nofun
        bound := nofun
        left := nofun }
  · intro h
    have hcount : ∀ q, s.chassis.seatWait.count q = if (s.chassis.port q).state = .unseated then 1 else 0 :=
      fun q => (h.port q).seat
    obtain ⟨hmem, hnodup⟩ := count_eq_ite_iff_nodup.1 hcount
    refine ⟨fun p => ?_, hnodup, fun p => ⟨(h.port p).effCeil, (h.port p).ceiling fun h => h⟩⟩
    exact ⟨(h.port p).binding.trans (or_iff_left nofun), (h.port p).seatCeil.trans (Bool.or_false _),
      (h.port p).granted.trans (Bool.and_true _), hmem p, (h.port p).waits, (h.port p).blade fun h => h⟩

/-- R16, R26, R177: the table with the logins. -/
theorem State.trafficOk_iff {s : State} (hs : s.PortsOk) :
    s.chassis.TrafficOk ↔ s.chassis.Sound s.ctx (Scope.plain True False) := by
  rw [State.portsOk_iff] at hs
  have hlog (q : PortId) : 0 < s.chassis.loginCount q ↔ ∃ e ∈ s.chassis.logins, e.port = q := by
    rw [Chassis.loginCount, List.length_pos_iff_exists_mem]
    simp only [List.mem_filter, beq_iff_eq]
  constructor
  · rintro ⟨hl, hd, hslots⟩
    refine ⟨fun q => ?_, nofun⟩
    exact
      { hs.port q with
        logins := fun _ h => by
          obtain ⟨e, he, rfl⟩ := (hlog q).1 h
          rcases hl e he with h | h
          · exact .inl h
          · exact .inr (.inl ⟨h, rfl⟩)
        draining := fun _ _ h _ => hd q h
        slots := fun _ => List.nodup_iff_count_le_one.1 hslots q
        bound := nofun
        left := nofun }
  · intro h
    refine ⟨fun e he => ?_, fun p hp => (h.port p).draining trivial trivial hp rfl,
      List.nodup_iff_count_le_one.2 fun q => (h.port q).slots trivial⟩
    rcases (h.port e.port).logins trivial ((hlog e.port).2 ⟨e, he, rfl⟩) with h | ⟨h, -⟩ | h
    · exact .inl h
    · exact .inr h
    · cases h

theorem Binding.mem_lists_none {bi : Binding} {id : Word16} : id ∈ bi.lists Option.none ↔ bi = .licence id := by
  cases bi with
  | licence _ => exact ⟨fun h => congrArg Binding.licence (List.mem_singleton.1 h).symm, fun h => by cases h; exact List.mem_singleton.2 rfl⟩
  | none => exact ⟨nofun, nofun⟩
  | counted => exact ⟨nofun, nofun⟩
  | drainHold => exact ⟨nofun, nofun⟩

theorem Binding.nodup_lists (bi : Binding) (o : Option Word16) : (bi.lists o).Nodup := by
  unfold Binding.lists
  cases bi.licence?.filter fun id => o != some id <;> simp

theorem Chassis.nodup_boundOn {c : Chassis} (hids : (c.licences.map fun l => l.record.id).Nodup)
    (hb : ∀ l ∈ c.licences, l.bound.Nodup) (q : PortId) : (c.boundOn q).Nodup := by
  unfold Chassis.boundOn
  refine List.nodup_flatMap.2 ⟨fun l hl => ?_, (List.pairwise_map.1 hids).imp fun {l m} hne => ?_⟩
  · exact List.nodup_replicate.2 (List.nodup_iff_count_le_one.1 (hb l hl) q)
  · intro id hl hm
    exact hne ((List.eq_of_mem_replicate hl).symm.trans (List.eq_of_mem_replicate hm))

theorem State.bindingsOk_of_sound {s : State} {t : Prop} (h : s.chassis.Sound s.ctx (Scope.plain t True)) :
    s.chassis.BindingsOk := by
  have hbound (q : PortId) : s.chassis.boundOn q = (s.chassis.port q).binding.lists none := (h.port q).bound trivial
  refine ⟨fun p id => by rw [← Chassis.mem_boundOn, hbound, Binding.mem_lists_none], fun l hm => ?_⟩
  refine List.nodup_iff_count_le_one.2 fun q => ?_
  have hsub : (List.replicate (l.bound.count q) l.record.id).Sublist (s.chassis.boundOn q) :=
    List.sublist_flatten_of_mem (List.mem_map.2 ⟨l, hm, rfl⟩)
  exact List.nodup_replicate.1 (((hbound q).symm ▸ Binding.nodup_lists _ _ : (s.chassis.boundOn q).Nodup).sublist hsub)

/-- R79: the table with the bound seat lists. -/
theorem State.sound_of_bindingsOk {s : State} (hs : s.PortsOk) (hl : (s.chassis.licences.map fun l => l.record.id).Nodup)
    (hbi : s.chassis.BindingsOk) : s.chassis.Sound s.ctx (Scope.plain False True) := by
  rw [State.portsOk_iff] at hs
  obtain ⟨hb, hn⟩ := hbi
  refine ⟨fun q => ?_, fun _ => ⟨by rw [Chassis.licKeys, List.map_map]; exact hl, nofun⟩⟩
  refine { hs.port q with logins := nofun, draining := nofun, slots := nofun, left := nofun, bound := fun _ => ?_ }
  have hperm : (s.chassis.boundOn q).Perm ((s.chassis.port q).binding.lists none) :=
    (List.perm_ext_iff_of_nodup (Chassis.nodup_boundOn hl hn q) (Binding.nodup_lists _ _)).2 fun id => by
      rw [Chassis.mem_boundOn, Binding.mem_lists_none, hb q id]
  show s.chassis.boundOn q = (s.chassis.port q).binding.lists none
  revert hperm
  unfold Binding.lists
  cases (s.chassis.port q).binding.licence?.filter fun id => none != some id with
  | none => exact List.Perm.eq_nil
  | some id => exact List.perm_singleton.1

end Sys2Proof.Machine

/-! # The tables of the chassis after every step -/

namespace Sys2Proof.Machine

section

variable (st : Store) (alm : Ctx → Alm) (n d a b : Nat) (tr : Vector Bool 8) (h : Bool) (q : List Instr)

/-- A reset leaves a port of no blade, on no list. -/
theorem boot_view (p : PortId) : ∃ l, (boot st alm n d a b tr h q).chassis.view p =
    ⟨⟨.absent, none, .none, none, none, none⟩, false, 0, [], 0, 0, l⟩ ∧ l = [] := by
  refine ⟨(boot st alm n d a b tr h q).chassis.boundOn p, ?_, ?_⟩
  · unfold Chassis.view
    rw [boot_port, boot_blade]
    rfl
  · refine List.flatMap_eq_nil_iff.2 fun l hl => ?_
    obtain ⟨r, -, rfl⟩ := List.mem_map.1 hl
    rfl

theorem boot_sound (t : Prop) : (boot st alm n d a b tr h q).Has (Chassis.SoundFor t False) := by
  refine fun x _ => ⟨fun p => ?_, nofun⟩
  obtain ⟨l, hv, -⟩ := boot_view st alm n d a b tr h q p
  rw [hv]
  exact
    { held := nofun
      binding := ⟨fun h => absurd rfl h, fun h => by rcases h with h | h <;> cases h⟩
      seatCeil := rfl
      granted := rfl
      seat := rfl
      waits := rfl
      blade := fun _ => ⟨fun _ => rfl, fun _ => rfl⟩
      effCeil := rfl
      ceiling := fun _ => nofun
      drains := nofun
      still := nofun
      logins := fun _ h => absurd h (Nat.lt_irrefl 0)
      draining := fun _ _ => nofun
      slots := fun _ => Nat.zero_le 1
      bound := nofun
      left := nofun }

theorem boot_bindingsOk : (boot st alm n d a b tr h q).chassis.BindingsOk := by
  refine ⟨fun p id => ?_, fun l hl => ?_⟩
  · rw [boot_port, ← Chassis.mem_boundOn]
    obtain ⟨l, hv, rfl⟩ := boot_view st alm n d a b tr h q p
    rw [show (boot st alm n d a b tr h q).chassis.boundOn p = [] from congrArg PortView.bound hv]
    exact ⟨nofun, nofun⟩
  · obtain ⟨r, -, rfl⟩ := List.mem_map.1 hl
    exact .nil

theorem boot_loginsOk : (boot st alm n d a b tr h q).chassis.LoginsOk :=
  ⟨.nil, Nat.zero_le _, fun _ => Nat.zero_le _⟩

end

/-- A property of the chassis that holds of every reset. -/
theorem Lift.step_of_boot {Q : Settings → Chassis → Prop} (hQ : Lift Q)
    (hb : ∀ st alm n d a b tr h q, (boot st alm n d a b tr h q).Has Q) {s t : State} (hs : s.Has Q)
    (h : Machine.step s = .next t) : t.Has Q :=
  hQ.step (hQ.ends (fun _ _ => hb ..) fun _ _ => hb ..) hs h

theorem step_loginsOk {s t : State} (hs : s.chassis.LoginsOk) (h : step s = .next t) : t.chassis.LoginsOk :=
  loginsOk_kept.lift.step_of_boot boot_loginsOk hs h

theorem step_almOk {s t : State} (hs : s.chassis.alm.Ok) (h : step s = .next t) : t.chassis.alm.Ok :=
  almOk_kept.lift.step (almOk_kept.lift.ends
    (fun _ ha => boot_alm_ok (fun _ => Alm.Ok.restart ha) ..)
    fun b _ => boot_alm_ok (fun x => Alm.coldStart_ok x b) ..) hs h

theorem step_pacingOk {s t : State} (hs : s.chassis.PacingOk) (h : step s = .next t) : t.chassis.PacingOk :=
  pacingOk_kept.lift.step_of_boot (fun _ _ _ _ _ _ _ _ _ => nofun) hs h

theorem true_closed (x : Ctx) : Chassis.ClosedEval x (fun _ => True) fun _ => True := by
  have hm : Chassis.Moves x (fun _ => True) fun _ => True := by constructor <;> (intros; trivial)
  have hc : Chassis.Closed x (fun _ => True) fun _ => True := { hm with
    of_granted := fun _ _ _ _ => trivial, of_waiting := fun _ _ _ _ => trivial, of_counted := fun _ _ _ _ => trivial
    of_seatWait := fun _ _ _ _ => trivial, episode := fun _ _ _ => trivial }
  exact { hc with lower := fun _ _ _ _ _ _ => trivial, take := fun _ _ _ _ _ => trivial, form := fun _ _ => trivial }

/-- The property that says nothing, for the table alone. -/
theorem true_kept : ChassisKept fun _ => True := by
  constructor
  case closed => exact true_closed
  all_goals intros; trivial

/-- R1 to R6, R86, R140, R147. -/
theorem step_portsOk {s t : State} (hs : s.PortsOk) (h : step s = .next t) : t.PortsOk := by
  have hL := soundWith_lift (t := False) (b := False) true_kept (fun _ _ => nofun) fun _ _ => nofun
  have hs' : s.Has (Chassis.SoundWith False False fun _ => True) := ⟨trivial, Chassis.Sound.for (s.portsOk_iff.1 hs)⟩
  have ht := hL.step_of_boot (fun st alm n d a b tr h q => ⟨trivial, boot_sound st alm n d a b tr h q False⟩) hs' h
  exact t.portsOk_iff.2 ht.2.at

/-- R16, R26, R177. -/
theorem step_trafficOk {s t : State} (hs : s.PortsOk) (hl : s.chassis.LoginsOk) (ht : s.chassis.TrafficOk)
    (h : step s = .next t) : t.chassis.TrafficOk := by
  have hL := soundWith_lift (t := True) (b := False) loginsOk_kept (fun _ hc _ => hc) fun _ _ => nofun
  have hs' : s.Has (Chassis.SoundWith True False Chassis.LoginsOk) :=
    ⟨hl, Chassis.Sound.for ((State.trafficOk_iff hs).1 ht)⟩
  have ht' := hL.step_of_boot (fun st alm n d a b tr h q => ⟨boot_loginsOk .., boot_sound st alm n d a b tr h q True⟩) hs' h
  exact (State.trafficOk_iff (step_portsOk hs h)).2 ht'.2.at

theorem State.settle_bindingsOk {s : State} (h : s.chassis.BindingsOk) : s.settle.chassis.BindingsOk := by
  have hp (p : PortId) : s.settle.chassis.port p = s.chassis.port p :=
    congrArg (·[p.val]) (congrArg Blocks.ports s.settle_blocks)
  have hl : s.settle.chassis.licences = s.chassis.licences := congrArg Blocks.licences s.settle_blocks
  unfold Chassis.BindingsOk
  rw [hl]
  exact ⟨fun p id => by rw [hp]; exact h.1 p id, h.2⟩

/-- R79. -/
theorem step_bindingsOk {s t : State} (hs : s.PortsOk) (hl : s.chassis.LicencesOk) (hb : s.chassis.BindingsOk)
    (h : step s = .next t) : t.chassis.BindingsOk := by
  have hL := soundWith_lift (t := False) (b := True) licencesOk_kept (fun _ _ => nofun) fun _ hc _ => hc
  have hs' : s.Has (Chassis.SoundWith False True Chassis.LicencesOk) :=
    ⟨hl, Chassis.Sound.for (State.sound_of_bindingsOk hs hl.2.1 hb)⟩
  exact hL.step (R := fun s => s.chassis.BindingsOk)
    { weak := fun hs => State.bindingsOk_of_sound hs.2.at
      rest := fun hs _ hc _ => hc ▸ hs
      restart := fun _ _ => boot_bindingsOk ..
      settle := State.settle_bindingsOk
      coldStart := fun _ _ => boot_bindingsOk ..
      lost := fun hs => State.bindingsOk_of_sound hs.2.at } hs' h

end Sys2Proof.Machine

/-! # The committed demand (R143, R144)

While supply is not settled no port holds a grant; while it is settled the demand is within the budget, or every grant
left is Protected. An evaluation establishes it; every other move of the chassis takes grants away at most. -/

namespace Sys2Proof.Machine

/-- While supply is not settled no port holds a grant. -/
def Chassis.Dark (c : Chassis) : Prop := c.pwr.inputs.settled = false → ∀ p, (c.port p).granted = none

/-- Every port that holds a grant is Protected. -/
def Chassis.AllProtected (x : Ctx) (c : Chassis) : Prop :=
  ∀ p, (c.port p).granted.isSome = true → 7 ≤ (x.cfg.port p).priority

/-- The demand is within the budget, or every grant left is Protected. -/
def Chassis.Held (x : Ctx) (c : Chassis) : Prop := c.demand x ≤ c.pwr.budget ∨ c.AllProtected x

/-- The demand's bound of R143 and R144. -/
def Chassis.DemandIn (x : Ctx) (c : Chassis) : Prop := c.Dark ∧ (c.pwr.inputs.settled = true → c.Held x)

theorem State.demandOk_iff (s : State) : s.DemandOk ↔ s.chassis.DemandIn s.ctx := by
  unfold State.DemandOk Chassis.DemandIn Chassis.Dark
  split
  · rename_i h
    rw [h]
    exact ⟨fun hd => ⟨nofun, fun _ => hd⟩, fun hd => hd.2 rfl⟩
  · rename_i h
    rw [Bool.not_eq_true] at h
    rw [h]
    exact ⟨fun hd => ⟨fun _ => hd, nofun⟩, fun hd => hd.1 rfl⟩

/-! ## Moves that take grants away at most -/

/-- What PWR holds of inputs and budget stays, and each grant record is none or as it was. -/
def Chassis.Sheds (c d : Chassis) : Prop :=
  d.pwr.inputs = c.pwr.inputs ∧ d.pwr.budget = c.pwr.budget ∧
    ∀ p, (d.port p).granted = none ∨ (d.port p).granted = (c.port p).granted

theorem Vector.toList_eq_ofFn {α : Type} {n : Nat} (v : Vector α n) : v.toList = List.ofFn fun i : Fin n => v[i.val] :=
  List.ext_getElem (by simp) fun i h1 h2 => by simp

/-- R139: the draw of the ports, one by one. -/
theorem Chassis.portDraw_eq (x : Ctx) (c : Chassis) :
    c.portDraw x = ∑ p : PortId, x.cfg.power.drawOf (c.port p).granted := by
  unfold Chassis.portDraw Chassis.port
  rw [Vector.toList_eq_ofFn, List.map_ofFn, List.sum_ofFn]
  rfl

theorem Chassis.Sheds.of_ports {c d : Chassis} (hp : d.ports = c.ports) (hi : d.pwr.inputs = c.pwr.inputs)
    (hb : d.pwr.budget = c.pwr.budget) : c.Sheds d :=
  ⟨hi, hb, fun p => .inr (by unfold Chassis.port; rw [hp])⟩

theorem Chassis.sheds_setPort (c : Chassis) (p : PortId) {r : PortRec}
    (hr : r.granted = none ∨ r.granted = (c.port p).granted) : c.Sheds (c.setPort p r) := by
  refine ⟨rfl, rfl, fun q => ?_⟩
  by_cases hq : q = p
  · subst hq
    rwa [Chassis.port_setPort_self]
  · rw [Chassis.port_setPort_ne _ _ hq]
    exact .inr rfl

theorem Chassis.Sheds.demand_le {x : Ctx} {c d : Chassis} (h : c.Sheds d) : d.demand x ≤ c.demand x := by
  obtain ⟨hi, -, hg⟩ := h
  unfold Chassis.demand
  rw [hi, Chassis.portDraw_eq, Chassis.portDraw_eq]
  refine Nat.add_le_add_left (Finset.sum_le_sum fun p _ => ?_) _
  rcases hg p with h | h <;> rw [h]
  exact Nat.zero_le _

theorem Chassis.Sheds.granted {c d : Chassis} (h : c.Sheds d) {p : PortId} (hp : (d.port p).granted.isSome = true) :
    (c.port p).granted.isSome = true := by
  rcases h.2.2 p with h | h
  · rw [h] at hp; cases hp
  · rwa [← h]

theorem Chassis.Sheds.held {x : Ctx} {c d : Chassis} (h : c.Sheds d) (hc : c.Held x) : d.Held x := by
  rcases hc with hc | hc
  · exact .inl (h.demand_le.trans (hc.trans h.2.1.ge))
  · exact .inr fun p hp => hc p (h.granted hp)

theorem Chassis.Sheds.demandIn {x : Ctx} {c d : Chassis} (h : c.Sheds d) (hc : c.DemandIn x) : d.DemandIn x := by
  refine ⟨fun hs p => ?_, fun hs => h.held (hc.2 (h.1 ▸ hs))⟩
  rcases h.2.2 p with hg | hg
  · exact hg
  · exact hg.trans (hc.1 (h.1 ▸ hs) p)

/-- A property that every such move keeps is closed. -/
theorem Chassis.closed_of_sheds {P : Chassis → Prop} (hP : ∀ c d, Chassis.Sheds c d → P c → P d) (x : Ctx) :
    Chassis.Closed x (fun _ => True) P where
  of_granted _ _ _ _ := trivial
  of_waiting _ _ _ _ := trivial
  of_counted _ _ _ _ := trivial
  of_seatWait _ _ _ _ := trivial
  port c p r _ hr := hP _ _ (c.sheds_setPort p hr)
  joinWait _ _ _ _ := hP _ _ (.of_ports rfl rfl rfl)
  pwr _ _ hw := hP _ _ (.of_ports rfl hw.inputs hw.budget)
  episode _ _ := hP _ _ (.of_ports rfl rfl rfl)
  count _ _ := hP _ _ (.of_ports rfl rfl rfl)
  control c p k _ := hP _ _ (.of_ports (by rw [Chassis.putControl_ports]) (by rw [Chassis.putControl_pwr])
    (by rw [Chassis.putControl_pwr]))
  logins _ _ _ := hP _ _ (.of_ports rfl rfl rfl)
  alarm_raise _ _ _ := hP _ _ (.of_ports rfl rfl rfl)
  alarm_clear _ _ _ := hP _ _ (.of_ports rfl rfl rfl)
  running _ _ := hP _ _ (.of_ports rfl rfl rfl)
  bind _ _ _ _ _ := hP _ _ (.of_ports rfl rfl rfl)
  unbind _ _ _ _ := hP _ _ (.of_ports rfl rfl rfl)
  grace c p n _ := by
    obtain ⟨g, b, he⟩ := c.setGrace_frame p n
    rw [he]
    exact hP _ _ (.of_ports rfl rfl rfl)
  joinSeat _ _ _ := hP _ _ (.of_ports rfl rfl rfl)
  leaveSeat _ _ _ := hP _ _ (.of_ports rfl rfl rfl)
  due _ _ := hP _ _ (.of_ports rfl rfl rfl)

/-- One that also no change of another block sees. -/
theorem Chassis.keptAt_of_sheds {P : Chassis → Prop} (hP : ∀ c d, Chassis.Sheds c d → P c → P d) (x : Ctx) :
    ChassisKeptAt x P where
  closed := Chassis.closed_of_sheds hP x
  slots _ _ := hP _ _ (.of_ports rfl rfl rfl)
  dirty _ _ := hP _ _ (.of_ports rfl rfl rfl)
  alm _ _ _ := hP _ _ (.of_ports rfl rfl rfl)
  filterLogins _ _ := hP _ _ (.of_ports rfl rfl rfl)
  newLogin _ _ _ _ _ _ := hP _ _ (.of_ports rfl rfl rfl)
  moveLogin _ _ _ _ _ _ := hP _ _ (.of_ports rfl rfl rfl)
  mapLicences _ _ _ _ := hP _ _ (.of_ports rfl rfl rfl)
  filterLicences _ _ := hP _ _ (.of_ports rfl rfl rfl)
  install _ _ _ _ _ := hP _ _ (.of_ports rfl rfl rfl)

/-! ## The shed pass -/

/-- Grants are held by the ports of `T` alone, under fixed inputs and budget. -/
def Chassis.GrantsIn (T : PortId → Prop) (i : PwrInputs) (b : Nat) (c : Chassis) : Prop :=
  c.pwr.inputs = i ∧ c.pwr.budget = b ∧ ∀ p, (c.port p).granted.isSome = true → T p

theorem Chassis.grantsIn_lower (T : PortId → Prop) (i : PwrInputs) (b : Nat) (x : Ctx) :
    Chassis.ClosedLower x (fun _ => True) (Chassis.GrantsIn T i b) where
  toClosed := Chassis.closed_of_sheds (fun _ _ h hc => ⟨h.1.trans hc.1, h.2.1.trans hc.2.1,
    fun p hp => hc.2.2 p (h.granted hp)⟩) x
  lower c p g _ hg hc := by
    refine ⟨hc.1, hc.2.1, fun q hq => ?_⟩
    by_cases h : q = p
    · exact hc.2.2 q (h ▸ hg)
    · rw [Chassis.port_setPort_ne _ _ h] at hq
      exact hc.2.2 q hq

/-- A binding pass inside an evaluation grants nothing. -/
def Hooks.Quiet (pass : Chassis → Chassis) : Prop :=
  ∀ T i b c, Chassis.GrantsIn T i b c → Chassis.GrantsIn T i b (pass c)

theorem Hooks.quiet_markPass (x : Ctx) : Hooks.Quiet Chassis.markPass := fun T i b _ =>
  (Chassis.grantsIn_lower T i b x).markPass

theorem Hooks.quiet_bindingPass (x : Ctx) : Hooks.Quiet (Chassis.bindingPass x id) := fun T i b _ =>
  have hT := Chassis.grantsIn_lower T i b x
  hT.bindingPass (hT.keep (fun _ h => h) fun _ => hT.markPass)

theorem lowest_eq_none {α : Type} {rank : α → Nat} : ∀ {l : List α}, lowest rank l = none → l = []
  | [], _ => rfl
  | b :: bs, h => by
    unfold lowest at h
    split at h
    · cases h
    · split at h <;> cases h

/-- The ports that hold a grant. -/
def Chassis.grants (c : Chassis) : Finset PortId := Finset.univ.filter fun p => (c.port p).granted.isSome = true

theorem Chassis.mem_grants {c : Chassis} {p : PortId} : p ∈ c.grants ↔ (c.port p).granted.isSome = true := by
  simp [Chassis.grants]

section

variable {x : Ctx} {pass : Chassis → Chassis} (hp : Hooks.Quiet pass)
include hp

/-- R145: a revocation takes the port's grant and gives none. -/
theorem Chassis.revoke_grantsIn (p : PortId) (c : Chassis) :
    (c.revoke x ⟨id, pass⟩ p).GrantsIn (fun q => q ∈ c.grants.erase p) c.pwr.inputs c.pwr.budget := by
  have hT := Chassis.grantsIn_lower (fun q => q ∈ c.grants.erase p) c.pwr.inputs c.pwr.budget x
  refine hT.revoke_of (hT.keep (fun _ h => h) (hp _ _ _)) trivial fun r hr => ⟨rfl, rfl, fun q hq => ?_⟩
  by_cases h : q = p
  · subst h
    rw [Chassis.port_setPort_self, hr] at hq
    cases hq
  · rw [Chassis.port_setPort_ne _ _ h] at hq
    exact Finset.mem_erase.2 ⟨h, Chassis.mem_grants.2 hq⟩

/-- R144: with as many steps as grants, revocations go on until the demand is within the budget or every grant left is
Protected. -/
theorem Chassis.shedLoop_held (n : Nat) : ∀ (c : Chassis) (any : Bool), c.grants.card ≤ n →
    (c.shedLoop x ⟨id, pass⟩ c.pwr.budget n any).1.Held x ∧
      (c.shedLoop x ⟨id, pass⟩ c.pwr.budget n any).1.pwr.inputs = c.pwr.inputs := by
  induction n with
  | zero =>
    intro c any hn
    refine ⟨.inr fun p hp => ?_, rfl⟩
    have : c.grants = ∅ := Finset.card_eq_zero.1 (Nat.le_zero.1 hn)
    have := Chassis.mem_grants.2 hp
    simp_all [Chassis.shedLoop]
  | succ n ih =>
    intro c any hn
    unfold Chassis.shedLoop
    split
    · rename_i hd
      exact ⟨.inl hd, rfl⟩
    · cases hs : c.nextShed x with
      | none =>
        refine ⟨.inr fun p hg => ?_, rfl⟩
        by_contra hlt
        have := lowest_eq_none hs
        exact List.filter_eq_nil_iff.1 this p (List.mem_finRange p)
          (by simpa [hg] using Nat.le_of_lt_succ (Nat.lt_of_not_le hlt))
      | some p =>
        obtain ⟨hi, hb, hg⟩ := Chassis.revoke_grantsIn hp p c
        have hlt : (c.revoke x ⟨id, pass⟩ p).grants.card ≤ n := by
          have hsub : (c.revoke x ⟨id, pass⟩ p).grants ⊆ c.grants.erase p := fun q hq => hg q (Chassis.mem_grants.1 hq)
          have := Finset.card_le_card hsub
          rw [Finset.card_erase_of_mem (Chassis.mem_grants.2 (Chassis.of_nextShed hs).1)] at this
          omega
        have := ih _ true hlt
        rw [hb, hi] at this
        exact this

theorem Chassis.shedPass_held (c : Chassis) :
    (c.shedPass x ⟨id, pass⟩).Held x ∧ (c.shedPass x ⟨id, pass⟩).pwr.inputs = c.pwr.inputs := by
  have h := Chassis.shedLoop_held (x := x) hp 256 c false ((Finset.card_le_univ _).trans (Fintype.card_fin 256).le)
  have hP := Chassis.closed_of_sheds (P := fun d => d.Held x ∧ d.pwr.inputs = c.pwr.inputs)
    (fun _ _ h hc => ⟨h.held hc.1, h.1.trans hc.2⟩) x
  unfold Chassis.shedPass
  dsimp only
  split
  · exact hP.openEpisode (hP.pwr _ _ ⟨rfl, rfl, rfl, rfl, rfl, rfl, fun _ he => he⟩ h)
  · exact h

end

/-! ## The grant pass -/

theorem Chassis.port_takeGrant (x : Ctx) (c : Chassis) (p q : PortId) (g : RateClass) : (c.takeGrant x p g).port q =
    if q = p then { c.port p with state := .linkWait, granted := some g } else c.port q := by
  have hpc : (c.takeGrant x p g).port q = (c.setPort p { c.port p with state := .linkWait, granted := some g }).port q :=
    congrArg (·[q.val]) (Chassis.putControl_ports ..)
  rw [hpc]
  split
  · rename_i h
    rw [h, Chassis.port_setPort_self]
  · rename_i h
    rw [Chassis.port_setPort_ne _ _ h]

theorem Chassis.demand_takeGrant_le (x : Ctx) (c : Chassis) (p : PortId) (g : RateClass) :
    (c.takeGrant x p g).demand x ≤ c.demand x + x.cfg.power.draw g := by
  have hpd : (c.takeGrant x p g).portDraw x ≤ c.portDraw x + x.cfg.power.draw g := by
    have hle (q : PortId) : x.cfg.power.drawOf ((c.takeGrant x p g).port q).granted ≤
        x.cfg.power.drawOf (c.port q).granted + if q = p then x.cfg.power.draw g else 0 := by
      rw [Chassis.port_takeGrant]
      split
      · exact Nat.le_add_left _ _
      · exact Nat.le_refl _
    rw [Chassis.portDraw_eq, Chassis.portDraw_eq]
    refine (Finset.sum_le_sum fun q _ => hle q).trans ?_
    rw [Finset.sum_add_distrib, Finset.sum_ite_eq']
    simp
  have hi : (c.takeGrant x p g).pwr = c.pwr := by
    unfold Chassis.takeGrant
    rw [Chassis.putControl_pwr]
    rfl
  unfold Chassis.demand
  rw [hi]
  omega

/-- R149: a grant is given only where it fits. -/
theorem Chassis.offerGrant_fits {x : Ctx} {c : Chassis} {b : Nat} {i : PwrInputs} (e : WaitEntry)
    (hc : c.demand x ≤ b ∧ c.pwr.budget = b ∧ c.pwr.inputs = i) :
    (c.offerGrant x e).demand x ≤ b ∧ (c.offerGrant x e).pwr.budget = b ∧ (c.offerGrant x e).pwr.inputs = i := by
  have hP := Chassis.closed_of_sheds (P := fun d => d.demand x ≤ b ∧ d.pwr.budget = b ∧ d.pwr.inputs = i)
    (fun _ _ h hc => ⟨h.demand_le.trans hc.1, h.2.1.trans hc.2.1, h.1.trans hc.2.2⟩) x
  unfold Chassis.offerGrant
  split
  · exact hc
  · dsimp only
    split
    · exact hc
    · rename_i g hg
      have hfit : c.demand x + x.cfg.power.draw g + c.margin x ≤ c.pwr.budget := by simpa using List.find?_some hg
      have hw : (c.takeGrant x e.port g).pwr = c.pwr := by
        unfold Chassis.takeGrant
        rw [Chassis.putControl_pwr]
        rfl
      have htake : (c.takeGrant x e.port g).demand x ≤ b ∧ (c.takeGrant x e.port g).pwr.budget = b ∧
          (c.takeGrant x e.port g).pwr.inputs = i := by
        rw [hw]
        refine ⟨(c.demand_takeGrant_le x e.port g).trans ?_, hc.2⟩
        exact (Nat.le_add_right _ _).trans (hfit.trans hc.2.1.le)
      obtain ⟨hd, hb, hi⟩ := hP.leaveWait e.port htake
      exact ⟨hd, hb, hi⟩

theorem Chassis.grantPass_held {x : Ctx} {c : Chassis} (hc : c.demand x ≤ c.pwr.budget) :
    (c.grantPass x).Held x ∧ (c.grantPass x).pwr.inputs = c.pwr.inputs := by
  have h : (c.grantPass x).demand x ≤ c.pwr.budget ∧ (c.grantPass x).pwr.budget = c.pwr.budget ∧
      (c.grantPass x).pwr.inputs = c.pwr.inputs :=
    List.foldlRecOn
      (motive := fun d : Chassis => d.demand x ≤ c.pwr.budget ∧ d.pwr.budget = c.pwr.budget ∧ d.pwr.inputs = c.pwr.inputs)
      _ _ ⟨hc, rfl, rfl⟩ fun _ hd e _ => Chassis.offerGrant_fits e hd
  exact ⟨.inl (h.1.trans h.2.1.ge), h.2.2⟩

/-! ## The evaluation -/

/-- R143: an evaluation ends with the demand within the budget or every grant left Protected. -/
theorem Chassis.evaluateWith_held {x : Ctx} {pass : Chassis → Chassis} (hp : Hooks.Quiet pass) {c : Chassis}
    (hs : c.pwr.inputs.settled = true) :
    (c.evaluateWith x pass).Held x ∧ (c.evaluateWith x pass).pwr.inputs = c.pwr.inputs := by
  have hP := Chassis.closed_of_sheds (P := fun d => d.Held x ∧ d.pwr.inputs = c.pwr.inputs)
    (fun _ _ h hc => ⟨h.held hc.1, h.1.trans hc.2⟩) x
  have h1 : ((c.formBudget x).shedOrGrant x ⟨id, pass⟩).Held x ∧
      ((c.formBudget x).shedOrGrant x ⟨id, pass⟩).pwr.inputs = c.pwr.inputs := by
    unfold Chassis.shedOrGrant
    split
    · exact Chassis.shedPass_held hp _
    · rename_i hd
      split
      · exact Chassis.grantPass_held (Nat.le_of_not_lt hd)
      · exact ⟨.inl (Nat.le_of_not_lt hd), rfl⟩
  unfold Chassis.evaluateWith
  rw [if_pos hs]
  exact hP.judgePowerWait (hP.closeEpisode h1)

/-- Whatever stood before, as long as there were no grants while supply was not settled. -/
theorem Chassis.evaluateWith_demandIn {x : Ctx} {pass : Chassis → Chassis} (hp : Hooks.Quiet pass) {c : Chassis}
    (hc : c.Dark) : (c.evaluateWith x pass).DemandIn x := by
  by_cases hs : c.pwr.inputs.settled = true
  · obtain ⟨hh, hi⟩ := Chassis.evaluateWith_held (x := x) hp hs
    exact ⟨fun hn => (by rw [hi, hs] at hn; cases hn), fun _ => hh⟩
  · have he : c.evaluateWith x pass = c := by
      unfold Chassis.evaluateWith
      exact if_neg hs
    rw [he]
    exact ⟨hc, fun h => absurd h hs⟩

theorem Chassis.evaluate_demandIn {x : Ctx} {c : Chassis} (hc : c.Dark) : (c.evaluate x).DemandIn x := by
  unfold Chassis.evaluate
  exact Chassis.evaluateWith_demandIn (Hooks.quiet_bindingPass x) hc

theorem Chassis.evaluateInPass_demandIn {x : Ctx} {c : Chassis} (hc : c.Dark) : (c.evaluateInPass x).DemandIn x := by
  unfold Chassis.evaluateInPass
  exact Chassis.evaluateWith_demandIn (Hooks.quiet_markPass x) hc

/-! ## The hooks -/

theorem Chassis.Sheds.dark {c d : Chassis} (h : c.Sheds d) (hc : c.Dark) : d.Dark := by
  obtain ⟨hi, -, hg⟩ := h
  intro hs p
  rcases hg p with hg | hg
  · exact hg
  · rw [hi] at hs
    exact hg.trans (hc hs p)

theorem Chassis.dark_lower (x : Ctx) : Chassis.ClosedLower x (fun _ => True) Chassis.Dark where
  toClosed := Chassis.closed_of_sheds (fun _ _ => Chassis.Sheds.dark) x
  lower c p g _ hg hc hs := by
    rw [hc hs p] at hg
    cases hg

theorem Chassis.demandIn_closed (x : Ctx) : Chassis.Closed x (fun _ => True) (Chassis.DemandIn x) :=
  Chassis.closed_of_sheds (fun _ _ => Chassis.Sheds.demandIn) x

/-- Hooks whose evaluation establishes the bound, and whose pass keeps it, keep it. -/
theorem Chassis.demandIn_keep {x : Ctx} {h : Hooks} (he : ∀ c, Chassis.Dark c → (h.eval c).DemandIn x)
    (hp : ∀ c, Chassis.DemandIn x c → (h.pass c).DemandIn x) : h.Keep x (fun _ => True) (Chassis.DemandIn x) where
  eval c hc := he c hc.1
  pass := hp
  lower c p g hs hg hc := by
    have hd := Chassis.dark_lower x
    exact he _ (hd.logins _ _ hs (hd.control _ _ _ hs (hd.lower c p g hs hg hc.1)))

theorem inRebind_keepDemand (x : Ctx) : (inRebind x).Keep x (fun _ => True) (Chassis.DemandIn x) :=
  Chassis.demandIn_keep (fun _ => Chassis.evaluateInPass_demandIn) fun _ => (Chassis.demandIn_closed x).markPass

theorem outer_keepDemand (x : Ctx) : (outer x).Keep x (fun _ => True) (Chassis.DemandIn x) := by
  refine Chassis.demandIn_keep (fun c hc => ?_) fun c hc => ?_
  · rw [outer_eval]
    exact Chassis.evaluate_demandIn hc
  · rw [outer_pass]
    unfold Chassis.pass
    exact (Chassis.demandIn_closed x).bindingPass (inRebind_keepDemand x) hc

/-! ## Every event -/

/-- The bound, for the settings that the chassis reads. -/
def Chassis.DemandFor (k : Settings) (c : Chassis) : Prop := c.DemandIn { State.reset.ctx with cfg := k }

theorem Chassis.DemandIn.of_ctx {x y : Ctx} {c : Chassis} (hw : y.cfg.power = x.cfg.power)
    (hq : ∀ q, (y.cfg.port q).priority = (x.cfg.port q).priority) (h : c.DemandIn x) : c.DemandIn y := by
  refine ⟨h.1, fun hs => ?_⟩
  rcases h.2 hs with h | h
  · refine .inl (Eq.trans_le ?_ h)
    unfold Chassis.demand Chassis.portDraw
    rw [hw]
  · exact .inr fun p hp => (h p hp).trans (hq p).ge

theorem Chassis.demandFor_iff {x : Ctx} {c : Chassis} : Chassis.DemandFor x.cfg c ↔ c.DemandIn x :=
  ⟨.of_ctx rfl fun _ => rfl, .of_ctx rfl fun _ => rfl⟩

theorem demandFor_parts : LiftParts Chassis.DemandFor where
  moves x := Chassis.keptAt_of_sheds (fun _ _ => Chassis.Sheds.demandIn) x
  outer x := by
    rw [show Chassis.DemandFor x.cfg = Chassis.DemandIn x from funext fun _ => propext Chassis.demandFor_iff]
    exact outer_keepDemand x
  inRebind x := by
    rw [show Chassis.DemandFor x.cfg = Chassis.DemandIn x from funext fun _ => propext Chassis.demandFor_iff]
    exact inRebind_keepDemand x
  settings hw hq h := h.of_ctx hw hq
  blades _ c v h := (Chassis.Sheds.of_ports (c := c) rfl rfl rfl).demandIn h
  handPwr x f c hf h := Chassis.demandFor_iff.2 (Chassis.evaluate_demandIn fun hs => h.1 (by
    cases hset : c.pwr.inputs.settled with
    | false => rfl
    | true => exact (hf hset).symm.trans hs))
  power x k c _ h := Chassis.demandFor_iff.2 (Chassis.evaluate_demandIn h.1)
  pacing _ c h := (Chassis.Sheds.of_ports (c := c) rfl rfl rfl).demandIn h
  removed x b c h := by
    have hd := Chassis.dark_lower x
    have hk : recording.Keep x (fun _ => True) Chassis.Dark := hd.keep (fun _ h => h) fun _ => hd.markPass
    refine Chassis.demandFor_iff.2 (Chassis.evaluate_demandIn ?_)
    exact List.foldlRecOn (motive := Chassis.Dark) (portsOf b) _ (by exact h.1) fun _ hd' p _ => hd.removePort hk trivial hd'
  portSet x k c p new hx h := by
    have hk : (outer x).Keep x (fun _ => True) Chassis.Dark := (Chassis.dark_lower x).keep
      (fun c hc => by rw [outer_eval]; exact (Chassis.evaluate_demandIn hc).1) fun c hc => by
        rw [outer_pass]
        unfold Chassis.pass
        have hd := Chassis.dark_lower x
        exact hd.bindingPass (hd.keep (fun _ hc => (Chassis.evaluateInPass_demandIn (x := x) hc).1) fun _ => hd.markPass) hc
    have h1 : (if new.reqClass = (k.port p).reqClass then c else c.requestChanged x (outer x) p).Dark := by
      split
      · exact h.1
      · exact (Chassis.dark_lower x).requestChanged hk trivial h.1
    unfold Chassis.portSet
    dsimp only
    split
    · rename_i he
      rw [if_pos he.1]
      exact Chassis.DemandIn.of_ctx (x := { State.reset.ctx with cfg := k }) (by rw [hx]; rfl)
        (fun q => by rw [hx]; exact Settings.setPort_priority he.2 q) h
    · exact Chassis.demandFor_iff.2 (Chassis.evaluate_demandIn h1)

/-- R143, R144. -/
theorem step_demandOk {s t : State} (hs : s.DemandOk) (h : step s = .next t) : t.DemandOk := by
  have hboot (st alm n d a b tr h q) : (boot st alm n d a b tr h q).Has Chassis.DemandFor :=
    ⟨fun _ p => by rw [boot_port], nofun⟩
  exact t.demandOk_iff.2 (Chassis.demandFor_iff.1
    (demandFor_parts.lift.step_of_boot hboot (Chassis.demandFor_iff.2 (s.demandOk_iff.1 hs)) h))

end Sys2Proof.Machine

/-! # O59 -/

namespace Sys2Proof.Machine

/-- Settles O59: the table and the bound seat lists go through every move of the chassis port by port
(`Chassis.Sound`), and every evaluation establishes the bound on the demand. -/
theorem everyStepKeepsPortTable : Obligations.EveryStepKeepsPortTable :=
  ⟨fun _ _ => step_portsOk, fun _ _ => step_bindingsOk, fun _ _ => step_demandOk⟩

end Sys2Proof.Machine

/-! # The licence table (R78, R79) and the fan duty (R125, R128) after every step -/

namespace Sys2Proof.Machine

/-! ## The licence table -/

/-- R77: a reset of a store whose licence table is within its limits. -/
theorem boot_licencesOk {st : Store} (h : ∀ l ∈ st.licences, recordsOk l.records) (alm : Ctx → Alm) (n d a b : Nat)
    (tr : Vector Bool 8) (hd : Bool) (q : List Instr) : (boot st alm n d a b tr hd q).chassis.LicencesOk := by
  have hr : recordsOk (st.licences.getD ⟨[], Vector.replicate 256 0⟩).records := by
    cases hl : st.licences with
    | none => exact ⟨Nat.zero_le _, .nil⟩
    | some l => exact h l hl
  refine ⟨?_, ?_, fun l hl => ?_⟩
  · show (List.map _ _).length ≤ _
    rw [List.length_map]
    exact hr.1
  · show (List.map _ (List.map _ _)).Nodup
    rw [List.map_map]
    exact hr.2
  · obtain ⟨r, -, rfl⟩ := List.mem_map.1 hl
    exact ⟨Nat.zero_le _, fun _ => rfl⟩

/-- The table is within its limits where the stored one is. -/
def State.LoadedLicencesOk (s : State) : Prop :=
  (∀ l ∈ s.store.licences, recordsOk l.records) → s.chassis.LicencesOk

theorem Chassis.LicencesOk.recordsOk {c : Chassis} (h : c.LicencesOk) : recordsOk (c.licences.map Licence.record) := by
  refine ⟨by rw [List.length_map]; exact h.1, ?_⟩
  rw [List.map_map]
  exact h.2.1

theorem loadedLicencesOk_ends : Lift.Ends (fun _ => Chassis.LicencesOk) State.LoadedLicencesOk where
  weak hs _ := hs
  rest hs _ hc hst h := hc ▸ hs (hst ▸ h)
  restart _ _ h := boot_licencesOk (by exact h) ..
  settle {s} hs h := by
    have hl : s.settle.chassis.licences = s.chassis.licences := congrArg Blocks.licences s.settle_blocks
    have hst : s.settle.store.licences = s.store.licences := congrArg Blocks.licenceStore s.settle_blocks
    exact licencesOk_of_eq (hs (hst ▸ h)) hl
  coldStart _ _ h := boot_licencesOk (by exact h) ..
  lost hs _ := hs

theorem licencesOk_state_kept : Kept State.LicencesOk where
  presence _ _ _ hs := hs
  hold _ _ hs := hs
  settle s hs := by
    obtain ⟨hc, hl, hw⟩ := hs
    have hst : s.settle.store.licences = s.store.licences := congrArg Blocks.licenceStore s.settle_blocks
    have hc' : s.settle.chassis.licences = s.chassis.licences := congrArg Blocks.licences s.settle_blocks
    refine ⟨licencesOk_of_eq hc hc', hst ▸ hl, ?_⟩
    rcases s.settle_writer with h | h | h | h | h | h <;> rw [h]
    · exact hw
    · exact nofun
    · exact nofun
    · intro rs hrs
      cases hrs
      exact hc.recordsOk
    · exact nofun
    · exact nofun
  effect c s hs := by
    obtain ⟨hc, hst⟩ := hs
    have hst' := storedLicencesOk_stored.board.effect c s hst
    exact ⟨licencesOk_kept.lift.effect loadedLicencesOk_ends c hc hst'.1, hst'⟩
  loseRail s hs := by
    obtain ⟨hc, hl, -⟩ := hs
    obtain ⟨-, -, hlic, hw⟩ := s.store.cutOff_cases
    refine ⟨hc, ?_, ?_⟩
    · show ∀ l ∈ s.store.cutOff.licences, recordsOk l.records
      rcases hlic with h | h <;> rw [h]
      · exact nofun
      · exact hl
    · show ∀ rs ∈ s.store.cutOff.writer.records?, recordsOk rs
      rw [hw]
      exact nofun
  coldStart s b hs := ⟨boot_licencesOk (by exact hs.2.1) .., hs.2.1, nofun⟩
  restart s cause hs := by
    obtain ⟨-, hst⟩ := hs
    have := storedLicencesOk_stored.restart s cause hst
    exact ⟨boot_licencesOk (by exact this.1) .., this⟩

/-- R78, R79: every step keeps the licence table within its limits. -/
theorem step_licencesOk {s t : State} (hs : s.LicencesOk) (h : step s = .next t) : t.LicencesOk :=
  licencesOk_state_kept.step (fun _ _ hs => hs) (fun _ _ hs => hs) hs h

end Sys2Proof.Machine

/-! # Properties of ENV's trust, gates and slots, of the fans and of the stored settings -/

namespace Sys2Proof.Machine

/-- A property of the state that reads what `State.air` gives. -/
structure AirKept (P : State → Prop) : Prop extends PartKept P where
  same : ∀ {s t : State}, P s → t.air = s.air → P t
  restart : ∀ (s : State) cause, P s → P (s.restartBy cause)

/-! ## Commands and events that leave the air -/

theorem State.air_onChassis (f : Ctx → Chassis → Chassis) (s : State) : (s.onChassis f).air = s.air := rfl

theorem State.air_portEnable (p : PortId) (s : State) : (s.portEnable p).air = s.air := by
  unfold State.portEnable
  exact State.air_onChassis _ _

theorem State.air_portDisable (p : PortId) (s : State) : (s.portDisable p).air = s.air := by
  unfold State.portDisable
  exact State.air_onChassis _ _

theorem State.air_portSet (f : PortSetForm) (s : State) : (s.portSet f).1.air = s.air := by
  cases h : f.apply (s.cfg.port f.port) with
  | none => rw [State.portSet_of_none h]
  | some new => rw [State.portSet_of_some h]; rfl

theorem State.air_licenceInstall (f : LicenceInstallForm) (s : State) : (s.licenceInstall f).1.air = s.air := by
  unfold State.licenceInstall
  split
  · rfl
  · split
    · rfl
    · split
      · rfl
      · rename_i r _ _ _
        exact State.air_onChassis (fun x c =>
          Chassis.pass x { c with licences := c.licences ++ [⟨r, []⟩], licencesDirty := true }) s

theorem State.air_licenceRevoke (id : Nat) (s : State) : (s.licenceRevoke id).1.air = s.air := by
  unfold State.licenceRevoke
  split <;> rfl

theorem State.air_licenceRemove (id : Nat) (s : State) : (s.licenceRemove id).1.air = s.air := by
  unfold State.licenceRemove
  split
  · rfl
  · split <;> rfl

theorem State.air_licenceWarnSet (f : WarnForm) (s : State) : (s.licenceWarnSet f).1.air = s.air := by
  unfold State.licenceWarnSet
  split
  · rfl
  · split <;> rfl

theorem State.air_supplySet (f : SupplySetForm) (s : State) : (s.supplySet f).1.air = s.air := by
  unfold State.supplySet
  split <;> rfl

theorem State.air_powerSet (f : PowerSetForm) (s : State) : (s.powerSet f).1.air = s.air := by
  unfold State.powerSet
  split <;> rfl

theorem State.air_drainTimer (p : PortId) (s : State) : (s.drainTimer p).air = s.air := by
  unfold State.drainTimer
  split <;> rfl

theorem State.air_holdoffEnd (s : State) : s.holdoffEnd.air = s.air := by
  unfold State.holdoffEnd
  split <;> rfl

theorem State.air_pacingEnd (s : State) : s.pacingEnd.air = s.air := by
  unfold State.pacingEnd
  split <;> rfl

theorem State.air_waitTimerEnd (s : State) : s.waitTimerEnd.air = s.air := by
  unfold State.waitTimerEnd
  split <;> rfl

theorem State.air_secondEnds (s : State) : s.secondEnds.air = s.air := by
  unfold State.secondEnds
  dsimp only
  split <;> rfl

theorem State.air_hourTick (s : State) : s.hourTick.air = s.air := by
  unfold State.hourTick
  split
  · exact s.air_secondEnds
  · rfl

theorem State.air_addAnswer (a : Answer) (s : State) : (s.addAnswer a).air = s.air := by
  unfold State.addAnswer
  split <;> rfl

theorem State.air_resyncNext (k : Nat) (s : State) : (s.resyncNext k).air = s.air := by
  unfold State.resyncNext
  split <;> rfl

namespace AirKept

variable {P : State → Prop} (hP : AirKept P)
include hP

theorem answer {s : State} (hs : P s) (r : Result) : P (s.answer r) :=
  State.answer_keeps (fun _ _ _ _ h => hP.same h rfl) (fun _ _ _ h => hP.same h rfl) (fun s h => hP.restart s _ h) s r hs

theorem command {α : Type} {cmd : Cmd} {read : List Byte → Option α} {act : Proc → α → State → State × Result}
    {s : State} (hs : P s) (hact : ∀ pr a, P (act pr a s).1) : P (State.command cmd read act s) := by
  unfold State.command
  split
  · exact hs
  · exact hP.answer hs _
  · exact hP.answer (hact _ _) _

/-- By a command that reads. -/
theorem command_read {α : Type} {cmd : Cmd} {read : List Byte → Option α} {r : α → State → Result} {s : State}
    (hs : P s) : P (State.command cmd read (fun _ a s => (s, r a s)) s) :=
  hP.command (act := fun _ a s => (s, r a s)) hs fun _ _ => hs

theorem command_data {α : Type} {cmd : Cmd} {read : List Byte → Option α} {d : α → State → List Byte} {s : State}
    (hs : P s) : P (State.command cmd read (fun _ a s => (s, doneWith (d a s))) s) :=
  hP.command_read (r := fun a s => doneWith (d a s)) hs

theorem unknownCode {s : State} (hs : P s) : P s.unknownCode := by
  unfold State.unknownCode
  split
  · exact hs
  · split
    · exact hs
    · split
      · exact hP.answer hs _
      · exact hs

theorem readNow {s : State} (hs : P s) : P s.readNow := by
  unfold State.readNow
  split
  · exact hs
  · exact hP.answer hs _
  · split
    · dsimp only
      split
      · exact hP.answer hs _
      · exact hP.placeReadNow hs _ _
    · exact hP.answer hs _

theorem readNowEnd (code : RawCode) {s : State} (hs : P s) : P (s.readNowEnd code) := by
  unfold State.readNowEnd
  split
  · refine hP.answer (hP.afterReadNow ?_) _
    exact hP.same hs rfl
  · exact hs

theorem frameEnd {s : State} (hs : P s) : P s.frameEnd := by
  unfold State.frameEnd
  split
  · exact hs
  · dsimp only
    split
    · exact hP.restart _ _ (hP.same hs rfl)
    · split
      · exact hP.same hs (State.air_resyncNext _ _)
      · exact hP.same hs rfl

theorem lossOfSync {s : State} (hs : P s) : P s.lossOfSync := by
  have hd : P (s.emptyLink.onChassis Chassis.endDrains) := hP.same hs (State.air_onChassis _ s.emptyLink)
  unfold State.lossOfSync
  split
  · exact hs
  · exact hP.same hs rfl
  · unfold State.leaveUp
    generalize s.emptyLink.onChassis Chassis.endDrains = u at hd ⊢
    dsimp only
    split
    · exact hP.restart _ _ (hP.same hd rfl)
    · exact hP.same hd rfl

/-- By every management command. -/
theorem cmd (cmd : Cmd) {s : State} (hs : P s) : P (cmd.effect s) := by
  cases cmd
  case portEnable =>
    refine hP.command (act := fun _ p s => (s.portEnable p, plain .done)) hs fun _ p => ?_
    show P (s.portEnable p)
    exact hP.same hs (s.air_portEnable p)
  case portDisable =>
    refine hP.command (act := fun _ p s => (s.portDisable p, plain .done)) hs fun _ p => ?_
    show P (s.portDisable p)
    exact hP.same hs (s.air_portDisable p)
  case portSet => exact hP.command hs fun _ f => hP.same hs (s.air_portSet f)
  case editBegin => exact hP.command hs fun pr _ => hP.editBegin hs pr
  case editAbort => exact hP.command hs fun pr _ => hP.editAbort hs pr
  case setRename => exact hP.command hs fun pr _ => hP.editCommand hs _ pr
  case defaultAccessSet => exact hP.command hs fun pr _ => hP.editCommand hs _ pr
  case zoneCreate => exact hP.command hs fun pr _ => hP.editCommand hs _ pr
  case zoneDelete => exact hP.command hs fun pr _ => hP.editCommand hs _ pr
  case zoneRename => exact hP.command hs fun pr _ => hP.editCommand hs _ pr
  case memberAdd => exact hP.command hs fun pr _ => hP.editCommand hs _ pr
  case memberRemove => exact hP.command hs fun pr _ => hP.editCommand hs _ pr
  case zoneCommit => exact hP.command hs fun pr _ => hP.zoneCommit hs pr
  case claimTimeSet => exact hP.command hs fun _ n => hP.claimTimeSet hs n
  case licenceInstall => exact hP.command hs fun _ f => hP.same hs (s.air_licenceInstall f)
  case licenceRevoke => exact hP.command hs fun _ id => hP.same hs (s.air_licenceRevoke id)
  case licenceRemove => exact hP.command hs fun _ id => hP.same hs (s.air_licenceRemove id)
  case licenceWarnSet => exact hP.command hs fun _ f => hP.same hs (s.air_licenceWarnSet f)
  case graceSet => exact hP.command hs fun _ n => hP.graceSet hs n
  case channelSet => exact hP.command hs fun _ f => hP.channelSet hs f
  case scannerSet => exact hP.command hs fun _ f => hP.scannerSet hs f
  case readNow => exact hP.readNow hs
  case coolingSet => exact hP.command hs fun _ f => hP.coolingSet hs f
  case supplySet => exact hP.command hs fun _ f => hP.same hs (s.air_supplySet f)
  case powerSet => exact hP.command hs fun _ f => hP.same hs (s.air_powerSet f)
  case acknowledge => exact hP.command hs fun _ f => hP.acknowledge hs f
  case alarmSet => exact hP.command hs fun _ f => hP.alarmSet hs f
  case addressSet =>
    exact hP.command (act := fun _ a s => ({ s with cfg := { s.cfg with mgmtAddr := BitVec.ofNat 24 a } }, plain .done))
      hs fun _ _ => hP.same hs rfl
  case save => exact hP.command (act := fun _ _ s => s.save) hs fun _ _ => hP.same hs rfl
  case restart => exact hP.command (act := fun pr _ s => s.restartCommand pr) hs fun _ _ => hP.same hs rfl
  case loginRead => exact hP.command_read (r := fun f s => s.chassis.loginRead f) hs
  case zoneRead => exact hP.command_read (r := fun f s => s.zoneRead f) hs
  case licenceRead => exact hP.command_read (r := fun f s => s.licenceRead f) hs
  case portRead | environmentRead | coolingRead | powerRead | alarmRead | identityRead => exact hP.command_data hs

/-- By every event. -/
theorem effect (c : Instr) {s : State} (hs : P s) : P (c.effect s) := by
  have frame {ok : Bool} {f : State → State} (hf : P (f s)) : P (s.frameIn ok f) := by
    unfold State.frameIn
    split
    · exact hf
    · exact hs
  have onChassis (ok : Bool) (f : Ctx → Chassis → Chassis) : P (s.frameIn ok (State.onChassis f)) :=
    frame (hP.same hs rfl)
  induction c using effect_cases with
  | cmd cmd c h => rw [h]; exact hP.cmd cmd hs
  | idle c h => rw [h]; exact hs
  | admissionQuery p src dst cls => exact frame (hP.queryArrives hs _)
  | login p a => exact frame (f := State.login p a) (hP.same hs (State.air_addAnswer _ _))
  | managementRequest origin privilege number cmds =>
    refine frame (f := fun s => match Privilege.ofByte? privilege with
      | some pv => s.requestArrives ⟨origin, pv, number, cmds⟩ | none => s) ?_
    split
    · exact hP.requestArrives hs _
    · exact hs
  | linkUp => exact onChassis _ _
  | linkDown => exact onChassis _ _
  | portFault => exact onChassis _ _
  | faultCleared => exact onChassis _ _
  | logout => exact onChassis _ _
  | bladeEventInserted => exact onChassis _ _
  | bladeEventRemoved => exact onChassis _ _
  | lineActivity => exact hP.activity hs
  | trainingComplete => exact hP.enterUp hs
  | lossOfSync => exact hP.lossOfSync hs
  | outboundFrameEnd => exact hP.frameEnd hs
  | queryEvaluation => exact hP.evaluateQuery hs
  | unknownCommandCode => exact hP.unknownCode hs
  | readNowConversionEnd code => exact hP.readNowEnd code hs
  | secondsCounterAdvance => exact hP.same hs s.air_secondEnds
  | hourTick => exact hP.same hs s.air_hourTick
  | drainTimerExpiry p => exact hP.same hs (s.air_drainTimer p)
  | holdoffExpiry => exact hP.same hs s.air_holdoffEnd
  | pacingWindowEnd => exact hP.same hs s.air_pacingEnd
  | waitTimerExpiry => exact hP.same hs s.air_waitTimerEnd
  | claimTimerExpiry => exact hP.claimTimer hs
  | validationEnd => exact hP.validationEnd hs
  | settlingEnd => exact hP.settlingEnd hs
  | restIntervalEnd => exact hP.restEnd hs
  | conversionEnd code => exact hP.conversionEnd hs code
  | roundEnd code => exact hP.roundEnd hs code
  | tachPulse k => exact hP.pulse hs k
  | gateEnd k => exact hP.gateEnd hs k
  | presenceLost k => exact hP.trayLost hs k
  | presenceGained k => exact hP.trayGained hs k
  | supplySample a b => exact hP.supplySample hs a b
  | pulseTimerExpiry k n => exact hP.pulseEnd hs k n
  | railBelowWarning => exact hP.railLow hs
  | standbyLowEntry => exact hP.enterLow hs
  | standbyReturnNormal => exact hP.railBack hs
  | writeCompletion => exact hP.writeEnds hs

end AirKept

end Sys2Proof.Machine

/-! # The counters and the fan duty after every step; O57 and O58 -/

namespace Sys2Proof.Machine

/-! ## The counters of trust, trays, gates and slots (R109, R115, R117, R121) -/

/-- R109, R115, R117, R121. -/
def State.WindCountersOk (s : State) : Prop :=
  s.env.fails ≤ 1 ∧ s.env.passes ≤ 3 ∧
  (∀ t : TrayId, (s.fan.tray t).low ≤ 3 ∧ (s.fan.tray t).high ≤ 3) ∧
  (∀ t : TrayId, ∀ g ∈ s.env.gates[t.val], g.count ≤ 65535) ∧
  (∀ i : SlotId, s.env.slots[i.val].countOk)

theorem Fan.tray_setTray (f : Fan) (k t : TrayId) (r : Tray) :
    (f.setTray k r).tray t = if t = k then r else f.tray t := by
  unfold Fan.tray Fan.setTray
  split
  · rename_i h
    subst h
    exact Vector.getElem_set_self _
  · rename_i h
    exact Vector.getElem_set_ne k.isLt t.isLt fun hv => h (Fin.ext hv.symm)

/-- Full duty moves no tray. -/
theorem Fan.tray_fullIf (f : Fan) (b : Prop) [Decidable b] (t : TrayId) : (if b then f.full else f).tray t = f.tray t := by
  split <;> rfl

/-- R117: a candidate that stays one has been read once or twice. -/
theorem SlotRec.countOk_sample (r : SlotRec) (v : SlotState) : (r.sample v).countOk := by
  have hnew (n : Nat) (hn : 1 ≤ n) : (if 3 ≤ n then ⟨v, none⟩ else { r with candidate := some (v, n) } : SlotRec).countOk := by
    split
    · exact nofun
    · rename_i hlt
      intro e he
      cases he
      exact ⟨hn, Nat.le_of_lt_succ (Nat.lt_of_not_le hlt)⟩
  unfold SlotRec.sample
  split
  · exact nofun
  · refine hnew _ ?_
    split
    · split
      · exact Nat.succ_pos _
      · exact Nat.le_refl 1
    · exact Nat.le_refl 1

theorem State.windCountersOk_of_air {s t : State} (hs : s.WindCountersOk) (h : t.air = s.air) : t.WindCountersOk := by
  simp only [State.air, Air.mk.injEq] at h
  obtain ⟨-, hf, hp, -, hg, hsl, hfan, -⟩ := h
  unfold State.WindCountersOk at *
  rw [hf, hp, hg, hsl, hfan]
  exact hs

theorem boot_windCountersOk (st : Store) (alm : Ctx → Alm) (n d a b : Nat) (tr : Vector Bool 8) (h : Bool)
    (q : List Instr) : (boot st alm n d a b tr h q).WindCountersOk := by
  refine ⟨Nat.zero_le _, Nat.zero_le _, fun t => ?_, fun t g hg => ?_, fun i => ?_⟩
  · rw [boot_tray]
    exact ⟨Nat.zero_le _, Nat.zero_le _⟩
  · have hgate : ∃ m due, (boot st alm n d a b tr h q).env.gates[t.val] = if tr[t.val] then some ⟨0, m, due⟩ else none :=
      ⟨_, _, map8_get ..⟩
    obtain ⟨m, due, hgate⟩ := hgate
    rw [hgate] at hg
    split at hg
    · cases hg
      exact Nat.zero_le _
    · cases hg
  · have hi : (boot st alm n d a b tr h q).env.slots[i.val] = ⟨.unknown, none⟩ := Vector.getElem_replicate i.isLt
    rw [hi]
    exact nofun

theorem windCountersOk_air : AirKept State.WindCountersOk where
  same hs h := State.windCountersOk_of_air hs h
  rest hs _ _ _ h := State.windCountersOk_of_air hs h
  restart s cause _ := boot_windCountersOk ..
  alarms _ _ hs := hs
  handPwr _ _ hs := hs
  trust d m n h hs := by
    obtain ⟨hf, hp, htr, hrest⟩ := hs
    refine ⟨(h hf hp).1, (h hf hp).2, fun t => ?_, hrest⟩
    rw [Fan.tray_fullIf]
    exact htr t
  thermal hs := by
    obtain ⟨hf, hp, htr, hrest⟩ := hs
    refine ⟨hf, hp, fun t => ?_, hrest⟩
    unfold State.judgeThermal
    dsimp only
    rw [Fan.tray_fullIf]
    exact htr t
  duty hs := hs
  gates {s} k g r h hs := by
    obtain ⟨hf, hp, htr, hg, hsl⟩ := hs
    refine ⟨hf, hp, htr, fun t => ?_, hsl⟩
    by_cases ht : t = k
    · subst ht
      rw [Vector.getElem_set_self]
      exact h
    · rw [Vector.getElem_set_ne k.isLt t.isLt fun hv => ht (Fin.ext hv.symm)]
      exact hg t
  tray k r h _ hs := by
    obtain ⟨hf, hp, htr, hrest⟩ := hs
    refine ⟨hf, hp, fun t => ?_, hrest⟩
    unfold State.setTray
    rw [Fan.tray_setTray]
    split
    · exact h (htr k).1 (htr k).2
    · exact htr t
  fail {s} k hs := by
    obtain ⟨hf, hp, htr, hrest⟩ := hs
    refine ⟨hf, hp, fun t => ?_, hrest⟩
    show ((s.fan.setTray k ⟨.failed, 0, 0⟩).tray t).low ≤ 3 ∧ ((s.fan.setTray k ⟨.failed, 0, 0⟩).tray t).high ≤ 3
    rw [Fan.tray_setTray]
    split
    · exact ⟨Nat.zero_le _, Nat.zero_le _⟩
    · exact htr t
  slot i v hs := by
    obtain ⟨hf, hp, htr, hg, hsl⟩ := hs
    refine ⟨hf, hp, htr, hg, fun j => ?_⟩
    by_cases hj : j = i
    · subst hj
      rw [Vector.getElem_set_self]
      exact SlotRec.countOk_sample _ v
    · rw [Vector.getElem_set_ne i.isLt j.isLt fun hv => hj (Fin.ext hv.symm)]
      exact hsl j
  cooling f new _ hs := by
    obtain ⟨hf, hp, htr, hrest⟩ := hs
    refine ⟨hf, hp, fun t => ?_, hrest⟩
    dsimp only
    split
    · unfold Fan.lift
      split
      · exact htr t
      · exact htr t
    · exact htr t
  complete i _ hs := hs

theorem windCountersOk_kept : Kept State.WindCountersOk where
  presence _ _ _ hs := hs
  hold _ _ hs := hs
  settle s hs := by
    have hb := s.settle_blocks
    unfold State.WindCountersOk at *
    rw [show s.settle.env = s.env from congrArg Blocks.env hb, show s.settle.fan = s.fan from congrArg Blocks.fan hb]
    exact hs
  effect c s hs := windCountersOk_air.effect c hs
  loseRail _ hs := hs
  coldStart _ _ _ := boot_windCountersOk ..
  restart _ _ _ := boot_windCountersOk ..

/-- R91, R109, R115, R117, R121, R150, R191: every step keeps the counters within their ranges. -/
theorem step_countersOk {s t : State} (hs : s.CountersOk) (h : step s = .next t) : t.CountersOk := by
  obtain ⟨hh, hsec, hf, hp, htr, hg, hsl, hpace⟩ := hs
  obtain ⟨hh', hsec'⟩ := secondsOk_kept.step (fun _ _ hs => hs) (fun _ _ hs => hs) ⟨hh, hsec⟩ h
  obtain ⟨hf', hp', htr', hg', hsl'⟩ :=
    windCountersOk_kept.step (fun _ _ hs => hs) (fun _ _ hs => hs) ⟨hf, hp, htr, hg, hsl⟩ h
  exact ⟨hh', hsec', hf', hp', htr', hg', hsl', step_pacingOk hpace h⟩

/-- Settles O57: each bound goes through the moves of the block that holds it; the table of the nine states carries
the logins and the slots port by port. -/
theorem everyStepKeepsTableBounds : Obligations.EveryStepKeepsTableBounds :=
  ⟨fun _ _ => step_loginsOk, fun _ _ => step_almOk, fun _ _ => step_creditsOk, fun _ _ => step_countersOk,
    fun _ _ => step_trafficOk⟩

end Sys2Proof.Machine

/-! # The fan duty after every step (R125, R128); O58 -/

namespace Sys2Proof.Machine

/-- R127: no override stands exactly where no tray is Failed, trust is Trusted and there is no thermal emergency. -/
theorem State.overridden_eq_false_iff (s : State) : s.overridden = false ↔
    (∀ t : TrayId, (s.fan.tray t).state ≠ .failed) ∧ s.env.trust = .trusted ∧ s.env.thermal = false := by
  unfold State.overridden Fan.tray
  rw [Vector.toList_eq_ofFn]
  simp only [Bool.or_eq_false_iff, bne_eq_false_iff_eq, List.any_eq_false, List.mem_ofFn, beq_iff_eq, forall_exists_index,
    forall_apply_eq_imp_iff, and_assoc, ne_eq]

/-- The duty lies within its bounds, and is full under an override. -/
def State.DutyIn (s : State) : Prop :=
  s.cfg.cooling.minDuty ≤ s.fan.current ∧ s.fan.current ≤ 100 ∧ (s.overridden = false ∨ s.fan.current = 100)

theorem State.dutyOk_iff (s : State) : s.DutyOk ↔ (s.cfg.dutyOk ∧ (∀ c ∈ s.store.settings, c.dutyOk) ∧
    ∀ c ∈ s.store.writer.settings?, c.dutyOk) ∧ s.DutyIn := by
  unfold State.DutyOk State.DutyIn
  cases s.overridden <;> simp [and_assoc]

/-- A duty that is full, whatever stands of overrides. -/
theorem State.dutyIn_of_full {s : State} (hc : s.cfg.dutyOk) (h : s.fan.current = 100) : s.DutyIn :=
  ⟨h ▸ hc, h.le, .inr h⟩

/-- The same duty under no override that was not there before. -/
theorem State.DutyIn.of_eq {s t : State} (hs : s.DutyIn) (hc : t.cfg.cooling = s.cfg.cooling)
    (hf : t.fan.current = s.fan.current) (ho : s.overridden = false → t.overridden = false) : t.DutyIn := by
  unfold State.DutyIn at *
  rw [hc, hf]
  exact ⟨hs.1, hs.2.1, hs.2.2.imp_left ho⟩

theorem State.dutyOk_of_air {s t : State} (hs : s.DutyOk) (h : t.air = s.air) : t.DutyOk := by
  simp only [State.air, Air.mk.injEq] at h
  obtain ⟨ht, -, -, hth, -, -, hfan, hc, hst, hw⟩ := h
  unfold State.DutyOk State.overridden Settings.dutyOk at *
  rw [ht, hth, hfan, hc, hst, hw]
  exact hs

/-- R125: the minimum duty of a reset. -/
theorem dutyOk_loaded {o : Option Settings} (h : ∀ c ∈ o, c.dutyOk) : (o.getD Settings.factory).dutyOk := by
  cases o with
  | none => exact (by decide : Settings.factory.cooling.minDuty ≤ 100)
  | some c => exact h c rfl

theorem boot_dutyOk {st : Store} (h : ∀ c ∈ st.settings, c.dutyOk) (alm : Ctx → Alm) (n d a b : Nat)
    (tr : Vector Bool 8) (hd : Bool) (q : List Instr) : (boot st alm n d a b tr hd q).DutyOk :=
  (State.dutyOk_iff _).2 ⟨⟨dutyOk_loaded h, h, nofun⟩, State.dutyIn_of_full (dutyOk_loaded h) rfl⟩

/-- R126: the computed duty lies between the minimum duty and 100, and is 100 under an override. -/
theorem computedDuty_bounds {c : CoolingCfg} (hc : c.minDuty ≤ 100) (o : Bool) (e : Option Int) :
    c.minDuty ≤ computedDuty c o e ∧ computedDuty c o e ≤ 100 ∧ (o = true → computedDuty c o e = 100) := by
  unfold computedDuty
  split
  · exact ⟨hc, Nat.le_refl _, fun _ => rfl⟩
  · split
    · exact ⟨hc, Nat.le_refl _, fun _ => rfl⟩
    · rename_i ho
      exact ⟨by omega, Nat.min_le_left _ _, fun h => absurd h ho⟩

/-- R128: so does the current duty after its move. -/
theorem slew_bounds {m cur d : Nat} (hm : m ≤ d) (hd : d ≤ 100) (hcur : cur ≤ 100) :
    m ≤ slew cur d ∧ slew cur d ≤ 100 ∧ (d = 100 → slew cur d = 100) := by
  unfold slew
  split <;> omega

/-- R125: the minimum duty that a Cooling Set leaves. -/
theorem CoolingSetForm.minDuty_of_apply {f : CoolingSetForm} {c new : CoolingCfg} (h : f.apply c = some new) :
    if f.minDuty.isSome = true then new.minDuty ≤ 100 else new.minDuty = c.minDuty := by
  unfold CoolingSetForm.apply at h
  simp only [Option.bind_eq_bind, Option.bind_eq_some_iff, Option.some.injEq] at h
  obtain ⟨rpm, -, duty, hduty, gain, -, rfl⟩ := h
  unfold orKeep within at hduty
  split
  · split at hduty
    · split at hduty
      · rename_i hb
        cases hduty
        exact hb.2
      · cases hduty
    · rename_i hs _ hn
      rw [hn] at hs
      cases hs
  · split at hduty
    · rename_i hs _ n hn
      rw [hn] at hs
      exact absurd rfl hs
    · cases hduty
      rfl

theorem Fan.tray_lift (f : Fan) (m : Nat) (t : TrayId) : (f.lift m).tray t = f.tray t := by
  unfold Fan.lift
  split <;> rfl

theorem Fan.lift_bounds {f : Fan} {m : Nat} (hm : m ≤ 100) (hf : f.current ≤ 100) :
    m ≤ (f.lift m).current ∧ (f.lift m).current ≤ 100 ∧ (f.current = 100 → (f.lift m).current = 100) := by
  unfold Fan.lift
  split
  · exact ⟨Nat.le_refl _, hm, fun h => by dsimp only; omega⟩
  · exact ⟨by omega, hf, fun h => h⟩

theorem dutyOk_air : AirKept State.DutyOk where
  same hs h := State.dutyOk_of_air hs h
  rest hs _ _ _ h := State.dutyOk_of_air hs h
  restart s cause hs := by
    obtain ⟨-, hst, -⟩ := hs
    refine boot_dutyOk ?_ ..
    show ∀ c ∈ s.store.cutOff.settings, c.dutyOk
    rcases s.store.cutOff_cases.1 with h | h <;> rw [h]
    · exact nofun
    · exact hst
  alarms _ _ hs := hs
  handPwr _ _ hs := hs
  trust {s} d m n _ hs := by
    rw [State.dutyOk_iff] at *
    obtain ⟨hcfg, hin⟩ := hs
    refine ⟨hcfg, ?_⟩
    by_cases h : s.env.trust = .trusted ∧ d ≠ .trusted
    · exact State.dutyIn_of_full hcfg.1 (congrArg Fan.current (if_pos h))
    · refine hin.of_eq rfl (congrArg Fan.current (if_neg h)) fun ho => ?_
      rw [State.overridden_eq_false_iff] at *
      obtain ⟨htr, ht, hth⟩ := ho
      refine ⟨fun t => ?_, not_not.1 fun hd => h ⟨ht, hd⟩, hth⟩
      dsimp only
      rw [Fan.tray_fullIf]
      exact htr t
  thermal {s} hs := by
    rw [State.dutyOk_iff] at *
    obtain ⟨hcfg, hin⟩ := hs
    refine ⟨hcfg, ?_⟩
    by_cases h : (s.env.thermalNow && !s.env.thermal) = true
    · exact State.dutyIn_of_full hcfg.1 (congrArg Fan.current (if_pos h))
    · refine hin.of_eq rfl (congrArg Fan.current (if_neg h)) fun ho => ?_
      rw [State.overridden_eq_false_iff] at *
      obtain ⟨htr, ht, hth⟩ := ho
      refine ⟨fun t => ?_, ht, ?_⟩
      · unfold State.judgeThermal
        dsimp only
        rw [Fan.tray_fullIf]
        exact htr t
      · show s.env.thermalNow = false
        simpa [hth] using h
  duty {s} hs := by
    rw [State.dutyOk_iff] at *
    obtain ⟨hcfg, -, hcur, ho⟩ := hs
    obtain ⟨h1, h2, h3⟩ := computedDuty_bounds hcfg.1 s.overridden (highest s.excesses)
    obtain ⟨h4, h5, h6⟩ := slew_bounds h1 h2 hcur
    refine ⟨hcfg, h4, h5, ?_⟩
    cases hov : s.overridden with
    | false => exact .inl hov
    | true => exact .inr (h6 (h3 hov))
  gates k g r _ hs := hs
  tray {s} k r _ h hs := by
    rw [State.dutyOk_iff] at *
    obtain ⟨hcfg, hin⟩ := hs
    refine ⟨hcfg, hin.of_eq rfl rfl fun ho => ?_⟩
    rw [State.overridden_eq_false_iff] at *
    obtain ⟨htr, hrest⟩ := ho
    refine ⟨fun t => ?_, hrest⟩
    unfold State.setTray
    rw [Fan.tray_setTray]
    split
    · exact fun hr => htr k (h hr)
    · exact htr t
  fail k hs := by
    rw [State.dutyOk_iff] at *
    obtain ⟨hcfg, -⟩ := hs
    exact ⟨hcfg, State.dutyIn_of_full hcfg.1 rfl⟩
  slot i v hs := hs
  cooling {s} f new hnew hs := by
    rw [State.dutyOk_iff] at *
    obtain ⟨⟨hcfg, hst⟩, hin⟩ := hs
    have hduty := CoolingSetForm.minDuty_of_apply hnew
    cases hm : f.minDuty with
    | none =>
      rw [hm] at hduty
      refine ⟨⟨?_, hst⟩, ?_⟩
      · show new.minDuty ≤ 100
        rw [hduty]
        exact hcfg
      · obtain ⟨h1, h2⟩ := hin
        exact ⟨hduty.le.trans h1, h2⟩
    | some n =>
      rw [hm] at hduty
      have hnew100 : new.minDuty ≤ 100 := hduty
      refine ⟨⟨hnew100, hst⟩, ?_⟩
      obtain ⟨h1, h2, h3⟩ := Fan.lift_bounds (f := s.fan) hnew100 hin.2.1
      refine ⟨h1, h2, ?_⟩
      rcases hin.2.2 with ho | hfull
      · refine .inl ?_
        rw [State.overridden_eq_false_iff] at *
        obtain ⟨htr, hrest⟩ := ho
        refine ⟨fun t => ?_, hrest⟩
        show ((s.fan.lift new.minDuty).tray t).state ≠ .failed
        rw [Fan.tray_lift]
        exact htr t
      · exact .inr (h3 hfull)
  complete {s} i hi hs := by
    rw [State.dutyOk_iff] at *
    obtain ⟨⟨hcfg, hst, hw⟩, hin⟩ := hs
    cases i with
    | zones z => exact ⟨⟨hcfg, hst, nofun⟩, hin⟩
    | licences l => exact ⟨⟨hcfg, hst, nofun⟩, hin⟩
    | settings c =>
      refine ⟨⟨hcfg, fun c' hc' => ?_, nofun⟩, hin⟩
      cases hc'
      exact hw c (by rw [hi]; rfl)

theorem dutyOk_kept : Kept State.DutyOk where
  presence _ _ _ hs := hs
  hold _ _ hs := hs
  settle s hs := by
    have hb := s.settle_blocks
    have henv : s.settle.env = s.env := congrArg Blocks.env hb
    have hfan : s.settle.fan = s.fan := congrArg Blocks.fan hb
    have hcfg : s.settle.cfg = s.cfg := congrArg Blocks.cfg hb
    have hst : s.settle.store.settings = s.store.settings := congrArg Blocks.settings hb
    unfold State.DutyOk State.overridden at *
    rw [henv, hfan, hcfg, hst]
    obtain ⟨hc, hset, hw, hrest⟩ := hs
    refine ⟨hc, hset, ?_, hrest⟩
    rcases s.settle_writer with h | h | h | h | h | h <;> rw [h]
    · exact hw
    · exact nofun
    · exact nofun
    · exact nofun
    · exact nofun
    · intro c hc'
      cases hc'
      exact hc
  effect c s hs := dutyOk_air.effect c hs
  loseRail s hs := by
    obtain ⟨hc, hset, -, hrest⟩ := hs
    obtain ⟨hcut, -, -, hw⟩ := s.store.cutOff_cases
    refine ⟨hc, ?_, ?_, hrest⟩
    · show ∀ c ∈ s.store.cutOff.settings, c.dutyOk
      rcases hcut with h | h <;> rw [h]
      · exact nofun
      · exact hset
    · show ∀ c ∈ s.store.cutOff.writer.settings?, c.dutyOk
      rw [hw]
      exact nofun
  coldStart s b hs := boot_dutyOk (by exact hs.2.1) ..
  restart := dutyOk_air.restart

/-- R125, R128. -/
theorem step_dutyOk {s t : State} (hs : s.DutyOk) (h : step s = .next t) : t.DutyOk :=
  dutyOk_kept.step (fun _ _ hs => hs) (fun _ _ hs => hs) hs h

/-- Settles O58: the sets and the claim go through the moves of ZONE, the licence table through those of the chassis,
the duty through those of ENV and of the fans; the store captures and reloads what stands within its bounds. -/
theorem everyStepKeepsConfigurationBounds : Obligations.EveryStepKeepsConfigurationBounds :=
  ⟨fun _ _ => step_zonesOk, fun _ _ => step_claimOk, fun _ _ => step_licencesOk, fun _ _ => step_dutyOk⟩

end Sys2Proof.Machine

/-! # The link leaves UP (O19) -/

namespace Sys2Proof.Machine

/-- The login table and the slots are empty. -/
def Chassis.LinkEmpty (c : Chassis) : Prop := c.logins = [] ∧ c.slots = []

/-- R24, R177: while the link is not UP no move fills the slots. -/
theorem linkEmpty_closed {x : Ctx} (hx : x.linkUp = false) :
    Chassis.ClosedEval x (fun _ => True) Chassis.LinkEmpty := by
  have control (c : Chassis) (p : PortId) (k : Control) (h : c.LinkEmpty) : (c.putControl x p k).LinkEmpty := by
    unfold Chassis.putControl
    rw [if_neg (by rw [hx]; exact nofun)]
    exact h
  exact
    { of_granted := fun _ _ _ _ => trivial
      of_waiting := fun _ _ _ _ => trivial
      of_counted := fun _ _ _ _ => trivial
      of_seatWait := fun _ _ _ _ => trivial
      port := fun _ _ _ _ _ h => h
      joinWait := fun _ _ _ _ h => h
      pwr := fun _ _ _ h => h
      episode := fun _ _ h => h
      count := fun _ _ h => h
      control := fun c p k _ h => control c p k h
      logins := fun c p _ h => ⟨by rw [Chassis.removeLogins_logins, h.1]; rfl, h.2⟩
      alarm_raise := fun _ _ _ h => h
      alarm_clear := fun _ _ _ h => h
      running := fun _ _ h => h
      bind := fun _ _ _ _ _ h => h
      unbind := fun _ _ _ _ h => h
      grace := fun c p n _ h => by
        obtain ⟨g, b, he⟩ := c.setGrace_frame p n
        rw [he]
        exact h
      joinSeat := fun _ _ _ h => h
      leaveSeat := fun _ _ _ h => h
      due := fun _ _ h => h
      lower := fun _ _ _ _ _ h => h
      take := fun c p g _ h => by
        unfold Chassis.takeGrant
        exact control _ _ _ h
      form := fun _ h => h }

/-- R24: the ports that do not drain stay as they are. -/
theorem Chassis.endDrains_of_none {x : Ctx} {c : Chassis} (h : ∀ p, (c.port p).state.isDraining = false) :
    c.endDrains x = c := by
  have hone (p : PortId) : c.endDrainOf x (outer x) p = c := by
    have hp := h p
    unfold Chassis.endDrainOf
    split
    · rename_i d n hst
      rw [hst] at hp
      cases hp
    · rfl
  unfold Chassis.endDrains
  exact List.foldlRecOn (motive := fun d => d = c) _ _ rfl fun d hd p _ => by rw [hd, hone p]

theorem State.leaveUp_of_not_lost {s : State} (h : s.link.losesRestart = false) :
    s.leaveUp = s.emptyLink.onChassis Chassis.endDrains := by
  unfold State.leaveUp
  dsimp only
  rw [h]
  exact if_neg nofun

/-- Settles O19: with no Restart lost the emptied link runs its drains, of which none is left in the table of the nine
states; a lost Restart acts. -/
theorem lossOfSyncEmptiesLink : Obligations.LossOfSyncEmptiesLink := by
  intro s hr hup
  have hloss : s.lossOfSync = s.leaveUp := by
    unfold State.lossOfSync
    rw [hup]
  refine ⟨fun hl hd => ?_, fun hl hs => ?_, fun hl => ?_⟩
  · refine leaves_of_event hr rfl ?_
    rw [hloss, State.leaveUp_of_not_lost hl]
    have : Chassis.endDrains s.emptyLink.ctx s.emptyLink.chassis = s.emptyLink.chassis := Chassis.endDrains_of_none hd
    rw [State.onChassis, this]
    rfl
  · refine ⟨(s.lossOfSync).settle, State.event_of_runs hr _, ?_⟩
    rw [hloss, State.leaveUp_of_not_lost hl]
    have hx : s.emptyLink.ctx.linkUp = false := rfl
    have he : (Chassis.endDrains s.emptyLink.ctx s.emptyLink.chassis).LinkEmpty := by
      unfold Chassis.endDrains
      have hP := linkEmpty_closed hx
      exact List.foldlRecOn (motive := Chassis.LinkEmpty) _ _ ⟨rfl, rfl⟩ fun _ hd p _ => hP.endDrainOf hP.outer trivial hd
    have hsound : s.chassis.Sound s.emptyLink.ctx (Scope.plain False False) :=
      (s.portsOk_iff.1 hs).of_cfg fun _ => rfl
    have hdr (p : PortId) : ((Chassis.endDrains s.emptyLink.ctx s.emptyLink.chassis).port p).state.isDraining = false :=
      Bool.eq_false_iff.2 fun h => (hsound.endDrains.port p).drains h
    have hu : s.emptyLink.onChassis Chassis.endDrains =
        { s.emptyLink with chassis := Chassis.endDrains s.emptyLink.ctx s.emptyLink.chassis } := rfl
    rw [hu]
    generalize Chassis.endDrains s.emptyLink.ctx s.emptyLink.chassis = d at he hdr
    have hb := State.settle_blocks { s.emptyLink with chassis := d }
    have hport (p : PortId) : (State.settle { s.emptyLink with chassis := d }).chassis.port p = d.port p :=
      congrArg (·[p.val]) (congrArg Blocks.ports hb)
    exact ⟨congrArg Blocks.linkState hb, congrArg Blocks.verdictLine hb,
      (congrArg Blocks.controlLine hb).trans (by
        show List.map _ d.slots = []
        rw [he.2]
        rfl),
      congrArg Blocks.responseLine hb, congrArg Blocks.queries hb, (congrArg Blocks.logins hb).trans he.1,
      congrArg Blocks.waiting hb, congrArg Blocks.proc hb, fun p => by rw [hport]; exact hdr p, congrArg Blocks.cfg hb,
      congrArg Blocks.zone hb, congrArg Blocks.env hb, congrArg Blocks.fan hb⟩
  · have hup' : s.leaveUp = (s.emptyLink.onChassis Chassis.endDrains).restartBy .command := by
      unfold State.leaveUp
      dsimp only
      rw [hl]
      exact if_pos rfl
    refine ⟨(s.lossOfSync).settle, State.event_of_runs hr _, ?_⟩
    rw [hloss, hup']
    generalize s.emptyLink.onChassis Chassis.endDrains = u
    obtain ⟨l, z, c, w, v, hset⟩ := State.restartBy_settle .command u
    rw [hset]
    exact ⟨rfl, rfl, rfl, rfl, rfl, fun p => congrArg PortRec.state (u.restartBy_port .command p)⟩

end Sys2Proof.Machine

/-! # Seat requests and Licence Install (O27, O35) -/

namespace Sys2Proof.Machine

/-! ## Seat requests (R84) -/

theorem Chassis.setGrace_port (c : Chassis) (p q : PortId) (n : Nat) : (c.setGrace p n).port q = c.port q := by
  obtain ⟨g, b, h⟩ := c.setGrace_frame p n
  rw [h]
  rfl

/-- R141: the request of a port without grant and without an entry has the port join and an evaluation run. -/
theorem Chassis.grantRequest_of_free {x : Ctx} {c : Chassis} {p : PortId} (hg : (c.port p).granted = none)
    (hw : ∀ e ∈ c.pwr.waitList, e.port ≠ p) :
    c.grantRequest x (outer x) p = (c.joinWait x p .powerWait).evaluate x := by
  have hf : (c.onWaitList p || (c.port p).granted.isSome) = false := by
    rw [hg]
    refine (Bool.or_false _).trans ?_
    exact Bool.eq_false_iff.2 fun h => by
      obtain ⟨e, he, hp⟩ := Chassis.onWaitList_iff.1 h
      exact hw e he hp
  unfold Chassis.grantRequest
  rw [hf, outer_eval]
  rfl

/-- R6: a seat bound to such a port. -/
theorem Chassis.seatBound_of_free {x : Ctx} {c : Chassis} {p : PortId} (hg : (c.port p).granted = none)
    (hw : ∀ e ∈ c.pwr.waitList, e.port ≠ p) (b : Binding) (k : RateClass) :
    c.seatBound x (outer x) p b k = Chassis.evaluate x (Chassis.joinWait x p .powerWait
      (c.setPort p { c.port p with
        state := .powerWait, binding := b, seatCeil := some k,
        effCeil := some (RateClass.lower (x.cfg.port p).reqClass k) })) := by
  unfold Chassis.seatBound
  refine Chassis.grantRequest_of_free ?_ hw
  rw [Chassis.port_setPort_self]
  exact hg

/-- Settles O27: the three outcomes of a seat request, by seat choice and the grace record. -/
theorem seatRequestBindsOrWaits : Obligations.SeatRequestBindsOrWaits := by
  intro x c p hg hw
  refine ⟨fun l hl => ?_, fun hn h0 => ?_, fun hn h0 => ?_⟩
  · have hport : ((c.bindSeat l.id p).setGrace p 0).port p = c.port p := Chassis.setGrace_port ..
    have hpwr : ((c.bindSeat l.id p).setGrace p 0).pwr = c.pwr := Chassis.setGrace_pwr ..
    unfold Chassis.seatRequest
    rw [hl]
    dsimp only
    rw [Chassis.seatBound_of_free (by rw [hport]; exact hg) (by rw [hpwr]; exact hw), hport]
    rfl
  · have hlow : RateClass.lower (x.cfg.port p).reqClass (x.cfg.port p).reqClass = (x.cfg.port p).reqClass := ite_self _
    unfold Chassis.seatRequest
    rw [hn]
    dsimp only
    rw [if_pos h0, Chassis.seatBound_of_free hg hw, hlow]
  · unfold Chassis.seatRequest
    rw [hn]
    dsimp only
    rw [if_neg (by omega)]
    rfl

/-! ## Licence Install (R80) -/

theorem bladesOf?_iff (ns : List Nat) (bs : List BladeId) : bladesOf? ns = some bs ↔ bs.map Fin.val = ns := by
  induction ns generalizing bs with
  | nil =>
    unfold bladesOf?
    rw [List.map_eq_nil_iff, Option.some.injEq, eq_comm]
  | cons n ns ih =>
    unfold bladesOf?
    split
    · rename_i h
      rw [Option.map_eq_some_iff]
      constructor
      · rintro ⟨cs, hcs, rfl⟩
        exact congrArg (n :: ·) ((ih cs).1 hcs)
      · intro hb
        cases bs with
        | nil => cases hb
        | cons c cs =>
          obtain ⟨rfl, hcs⟩ := List.cons.inj hb
          exact ⟨cs, (ih cs).2 hcs, rfl⟩
    · rename_i h
      refine ⟨nofun, fun hb => ?_⟩
      cases bs with
      | nil => cases hb
      | cons c cs => exact absurd c.isLt ((List.cons.inj hb).1 ▸ h)

theorem bladesOf?_isSome (ns : List Nat) : (bladesOf? ns).isSome = true ↔ ∀ b ∈ ns, b ≤ 7 := by
  constructor
  · intro h b hb
    obtain ⟨bs, hbs⟩ := Option.isSome_iff_exists.1 h
    rw [← (bladesOf?_iff ns bs).1 hbs] at hb
    obtain ⟨c, -, rfl⟩ := List.mem_map.1 hb
    exact Nat.le_of_lt_succ c.isLt
  · induction ns with
    | nil => exact fun _ => rfl
    | cons n ns ih =>
      intro h
      unfold bladesOf?
      rw [dif_pos (Nat.lt_succ_of_le (h n List.mem_cons_self)), Option.isSome_map]
      exact ih fun b hb => h b (List.mem_cons_of_mem _ hb)

theorem RateClass.ofNum?_eq_some {n : Nat} {k : RateClass} : RateClass.ofNum? n = some k ↔ k.num = n := by
  constructor
  · intro h
    unfold RateClass.ofNum? at h
    split at h <;> cases h <;> rfl
  · rintro rfl
    exact RateClass.ofNum?_num k

theorem RateClass.ofNum?_isSome (n : Nat) : (RateClass.ofNum? n).isSome = true ↔ 1 ≤ n ∧ n ≤ 4 := by
  constructor
  · intro h
    obtain ⟨k, hk⟩ := Option.isSome_iff_exists.1 h
    rw [← RateClass.ofNum?_eq_some.1 hk]
    cases k <;> decide
  · rintro ⟨h1, h4⟩
    have : n = 1 ∨ n = 2 ∨ n = 3 ∨ n = 4 := by omega
    rcases this with rfl | rfl | rfl | rfl <;> rfl

/-- R80: what a Term licence carries. -/
theorem LicenceInstallForm.term?_eq_some {f : LicenceInstallForm} {t : Option Term} : f.term? = some t ↔
    (if f.term then ∃ h, f.hours = some h ∧ 1 ≤ h else f.hours = none ∧ f.warn = none) ∧
      t = if f.term then f.hours.map (fun h => ⟨h, h, f.warn.getD 168⟩) else none := by
  unfold LicenceInstallForm.term?
  cases hterm : f.term <;> cases hh : f.hours <;> cases hw : f.warn <;> simp [eq_comm, and_comm]

theorem LicenceInstallForm.record?_eq_some {f : LicenceInstallForm} {r : LicenceRec} : f.record? = some r ↔
    ∃ ceil scope term, RateClass.ofNum? f.ceiling = some ceil ∧ bladesOf? f.scope = some scope ∧
      f.term? = some term ∧ (f.id ≠ 0 ∧ 1 ≤ f.seats ∧ f.seats ≤ 256 ∧ f.scope.length ≤ 8 ∧ f.scope.Nodup) ∧
      r = ⟨BitVec.ofNat 16 f.id, f.seats, ceil, scope, term, .active⟩ := by
  simp only [LicenceInstallForm.record?, Option.bind_eq_bind, Option.bind_eq_some_iff, Option.ite_none_right_eq_some,
    Option.some.injEq]
  constructor
  · rintro ⟨c, hc, b, hb, t, ht, h, rfl⟩
    exact ⟨c, b, t, hc, hb, ht, h, rfl⟩
  · rintro ⟨c, b, t, hc, hb, ht, h, rfl⟩
    exact ⟨c, hc, b, hb, t, ht, h, rfl⟩

theorem Chassis.licence?_isSome {c : Chassis} {id : Word16} :
    (c.licence? id).isSome = true ↔ ∃ l ∈ c.licences, l.record.id = id := by
  simp [Chassis.licence?, List.find?_isSome]

/-- Settles O35: the checks in their order, and the ranges of the record. -/
theorem licenceInstallAddsRecord : Obligations.LicenceInstallAddsRecord := by
  refine ⟨fun s pr f hs => ⟨fun hn => ?_, fun r hr => ⟨fun hd => ?_, fun hd hfull => ?_, fun hd hroom => ?_⟩⟩, fun f => ⟨?_, ?_⟩⟩
  · exact leaves_of_refusal (exec_row .licenceInstall s) hs (by unfold State.licenceInstall; rw [hn]; rfl)
  · refine leaves_of_refusal (exec_row .licenceInstall s) hs ?_
    unfold State.licenceInstall
    rw [hr]
    exact if_pos (Chassis.licence?_isSome.2 hd)
  · refine leaves_of_refusal (exec_row .licenceInstall s) hs ?_
    unfold State.licenceInstall
    rw [hr]
    exact (if_neg fun h => by obtain ⟨l, hl, he⟩ := Chassis.licence?_isSome.1 h; exact hd l hl he).trans (if_pos hfull)
  · refine leaves_of_act (exec_row .licenceInstall s) hs ?_
    unfold State.licenceInstall
    rw [hr]
    exact (if_neg fun h => by obtain ⟨l, hl, he⟩ := Chassis.licence?_isSome.1 h; exact hd l hl he).trans
      (if_neg (Nat.not_le.2 hroom))
  · rw [Option.isSome_iff_exists]
    constructor
    · rintro ⟨r, hr⟩
      obtain ⟨c, bs, t, hc, hb, ht, ⟨hid, hs1, hs2, hlen, hnd⟩, -⟩ := LicenceInstallForm.record?_eq_some.1 hr
      exact ⟨hid, ⟨hs1, hs2⟩, (RateClass.ofNum?_isSome _).1 (Option.isSome_iff_exists.2 ⟨c, hc⟩),
        ⟨hlen, (bladesOf?_isSome _).1 (Option.isSome_iff_exists.2 ⟨bs, hb⟩), hnd⟩, (LicenceInstallForm.term?_eq_some.1 ht).1⟩
    · rintro ⟨hid, ⟨hs1, hs2⟩, hc, ⟨hlen, hb, hnd⟩, ht⟩
      obtain ⟨c, hc⟩ := Option.isSome_iff_exists.1 ((RateClass.ofNum?_isSome _).2 hc)
      obtain ⟨bs, hb⟩ := Option.isSome_iff_exists.1 ((bladesOf?_isSome _).2 hb)
      exact ⟨_, LicenceInstallForm.record?_eq_some.2 ⟨c, bs, _, hc, hb, LicenceInstallForm.term?_eq_some.2 ⟨ht, rfl⟩,
        ⟨hid, hs1, hs2, hlen, hnd⟩, rfl⟩⟩
  · intro r hr
    obtain ⟨c, bs, t, hc, hb, ht, -, rfl⟩ := LicenceInstallForm.record?_eq_some.1 hr
    exact ⟨rfl, rfl, RateClass.ofNum?_eq_some.1 hc, (bladesOf?_iff _ _).1 hb, rfl, (LicenceInstallForm.term?_eq_some.1 ht).2⟩

end Sys2Proof.Machine

/-! # The grant wait list and the grant pass (R147, R149, R150) -/

namespace Sys2Proof.Machine

/-! ## The classes offered (R149) -/

theorem RateClass.num_injective : Function.Injective RateClass.num := fun a b h =>
  Option.some.inj ((RateClass.ofNum?_num a).symm.trans ((congrArg RateClass.ofNum? h).trans (RateClass.ofNum?_num b)))

theorem RateClass.mem_downFrom {c g : RateClass} : g ∈ c.downFrom ↔ g.num ≤ c.num := by
  cases c <;> cases g <;> decide

theorem RateClass.downFrom_sorted (c : RateClass) : c.downFrom.Pairwise fun a b => b.num < a.num := by
  cases c <;> decide

theorem mem_offers {ceil : Option RateClass} {b : Bool} {g : RateClass} :
    g ∈ offers ceil b ↔ ∃ k, ceil = some k ∧ (g = k ∨ (b = true ∧ g.num ≤ k.num)) := by
  cases ceil with
  | none => simp [offers]
  | some k =>
    cases b with
    | false => simp [offers]
    | true =>
      simp only [offers, if_true, RateClass.mem_downFrom, Option.some.injEq, exists_eq_left', true_and]
      exact ⟨.inr, fun h => h.elim (fun h => h ▸ Nat.le_refl _) id⟩

theorem offers_sorted (ceil : Option RateClass) (b : Bool) : (offers ceil b).Pairwise fun a b => b.num < a.num := by
  unfold offers
  split
  · exact .nil
  · split
    · exact RateClass.downFrom_sorted _
    · exact List.pairwise_singleton _ _

/-- R149: the class found is the highest that fits. -/
theorem not_of_find?_lt {l : List RateClass} {f : RateClass → Bool} {g k : RateClass}
    (hl : l.Pairwise fun a b => b.num < a.num) (hg : l.find? f = some g) (hk : k ∈ l) (hlt : g.num < k.num) : f k = false := by
  obtain ⟨-, as, bs, rfl, has⟩ := List.find?_eq_some_iff_append.1 hg
  rcases List.mem_append.1 hk with hk | hk
  · simpa using has k hk
  · exfalso
    have hcons := (List.pairwise_append.1 hl).2.1
    rcases List.mem_cons.1 hk with rfl | hk
    · exact Nat.lt_irrefl _ hlt
    · exact Nat.lt_asymm hlt ((List.pairwise_cons.1 hcons).1 k hk)

/-! ## The order of the wait list (R147) -/

/-- Ordered by shed priority descending, entries of one priority by their join numbers. -/
def WaitOrdered (prio : PortId → Nat) (l : List WaitEntry) : Prop :=
  l.Pairwise fun a b => prio b.port < prio a.port ∨ (prio a.port = prio b.port ∧ a.joinNo < b.joinNo)

theorem insertWait_ordered {prio : PortId → Nat} {e : WaitEntry} {l : List WaitEntry} (hl : WaitOrdered prio l)
    (he : ∀ f ∈ l, f.joinNo < e.joinNo) : WaitOrdered prio (insertWait prio e l) := by
  induction l with
  | nil => exact List.pairwise_singleton _ _
  | cons f fs ih =>
    obtain ⟨hf, hfs⟩ := List.pairwise_cons.1 hl
    unfold insertWait
    split
    · rename_i hle
      refine List.pairwise_cons.2 ⟨fun a ha => ?_, ih hfs fun g hg => he g (List.mem_cons_of_mem _ hg)⟩
      rcases List.mem_cons.1 ((insertWait_perm prio e fs).mem_iff.1 ha) with rfl | ha
      · rcases Nat.lt_or_eq_of_le hle with h | h
        · exact .inl h
        · exact .inr ⟨h.symm, he f List.mem_cons_self⟩
      · exact hf a ha
    · rename_i hlt
      refine List.pairwise_cons.2 ⟨fun a ha => .inl ?_, hl⟩
      rcases List.mem_cons.1 ha with rfl | ha
      · exact Nat.lt_of_not_le hlt
      · rcases hf a ha with h | h
        · exact h.trans (Nat.lt_of_not_le hlt)
        · exact h.1 ▸ Nat.lt_of_not_le hlt

theorem foldl_insertWait_ordered {prio : PortId → Nat} (l acc : List WaitEntry)
    (hl : l.Pairwise fun a b => a.joinNo < b.joinNo) (hacc : WaitOrdered prio acc)
    (h : ∀ a ∈ acc, ∀ e ∈ l, a.joinNo < e.joinNo) :
    WaitOrdered prio (l.foldl (fun acc e => insertWait prio e acc) acc) := by
  induction l generalizing acc with
  | nil => exact hacc
  | cons e es ih =>
    obtain ⟨he, hes⟩ := List.pairwise_cons.1 hl
    refine ih _ hes (insertWait_ordered hacc fun f hf => h f hf e List.mem_cons_self) fun a ha f hf => ?_
    rcases List.mem_cons.1 ((insertWait_perm prio e acc).mem_iff.1 ha) with rfl | ha
    · exact he f hf
    · exact h a ha f (List.mem_cons_of_mem _ hf)

theorem Chassis.waitOrder_ordered {x : Ctx} {c : Chassis} (h : c.pwr.waitList.Pairwise fun a b => a.joinNo < b.joinNo) :
    WaitOrdered (fun p => (x.cfg.port p).priority) (c.waitOrder x) :=
  foldl_insertWait_ordered _ [] h .nil fun _ ha => by cases ha

/-! ## One offer (R149, R150) -/

/-- The classes offered to an entry. -/
def Chassis.offersTo (x : Ctx) (c : Chassis) (e : WaitEntry) : List RateClass :=
  offers (c.port e.port).effCeil (x.cfg.port e.port).reducedOk

/-- The grants counted in the pacing window. -/
def Pwr.counted (w : Pwr) : Nat := (w.pacing.map Pacing.count).getD 0

theorem Pwr.paced_iff (w : Pwr) : w.paced = true ↔ 16 ≤ w.counted := by
  unfold Pwr.paced Pwr.counted
  cases w.pacing with
  | none => exact ⟨nofun, fun h => absurd h (by decide)⟩
  | some g => exact decide_eq_true_iff

/-- What one grant leaves: the port's record, its slot, the wait list without it, one grant more counted. -/
structure Chassis.GrantStep (x : Ctx) (e : WaitEntry) (g : RateClass) (c d : Chassis) : Prop where
  port : d.port e.port = { c.port e.port with state := .linkWait, granted := some g }
  same : ∀ q, q ≠ e.port → d.port q = c.port q
  slot : x.linkUp = true → (e.port, Control.enable g) ∈ d.slots
  slots : ∀ v ∈ c.slots, v.1 ≠ e.port → v ∈ d.slots
  waits : d.pwr.waitList = c.pwr.waitList.filter fun f => f.port != e.port
  pacing : d.pwr.pacing = (c.pwr.countGrant x.clockMs).pacing
  budget : d.pwr.budget = c.pwr.budget
  inputs : d.pwr.inputs = c.pwr.inputs
  episode : d.pwr.episode = c.pwr.episode
  logins : d.logins = c.logins
  grace : d.grace = c.grace
  seatWait : d.seatWait = c.seatWait

theorem mem_placeSlot_self (p : PortId) (k : Control) (l : List (PortId × Control)) : (p, k) ∈ placeSlot p k l := by
  unfold placeSlot
  split
  · rename_i h
    obtain ⟨e, he, hp⟩ := List.any_eq_true.1 h
    exact List.mem_map.2 ⟨e, he, if_pos hp⟩
  · exact List.mem_append_right _ (List.mem_singleton.2 rfl)

theorem mem_placeSlot_of_ne {p : PortId} {k : Control} {l : List (PortId × Control)} {v : PortId × Control} (hv : v ∈ l)
    (hp : v.1 ≠ p) : v ∈ placeSlot p k l := by
  unfold placeSlot
  split
  · exact List.mem_map.2 ⟨v, hv, if_neg fun h => hp (beq_iff_eq.1 h)⟩
  · exact List.mem_append_left _ hv

theorem Chassis.takeGrant_pwr (x : Ctx) (p : PortId) (g : RateClass) (c : Chassis) : (c.takeGrant x p g).pwr = c.pwr := by
  unfold Chassis.takeGrant
  rw [Chassis.putControl_pwr]
  rfl

theorem Chassis.takeGrant_slots {x : Ctx} (h : x.linkUp = true) (p : PortId) (g : RateClass) (c : Chassis) :
    (c.takeGrant x p g).slots = placeSlot p (.enable g) c.slots := by
  unfold Chassis.takeGrant Chassis.putControl
  rw [if_pos h]
  rfl

theorem Chassis.takeGrant_slots_down {x : Ctx} (h : x.linkUp ≠ true) (p : PortId) (g : RateClass) (c : Chassis) :
    (c.takeGrant x p g).slots = c.slots := by
  unfold Chassis.takeGrant Chassis.putControl
  rw [if_neg h]
  rfl

theorem Chassis.grantStep (x : Ctx) (c : Chassis) (e : WaitEntry) (g : RateClass) :
    c.GrantStep x e g (((c.takeGrant x e.port g).leaveWait x e.port).setPwr
      (((c.takeGrant x e.port g).leaveWait x e.port).pwr.countGrant x.clockMs)) := by
  obtain ⟨a, b, w, h⟩ := Chassis.leaveWait_frame x e.port (c.takeGrant x e.port g)
  have hw := Chassis.takeGrant_pwr x e.port g c
  have hport (q : PortId) := Chassis.port_takeGrant x c e.port q g
  rw [h, hw]
  exact
    { port := (hport e.port).trans (if_pos rfl)
      same := fun q hq => (hport q).trans (if_neg hq)
      slot := fun hx => by
        show _ ∈ (c.takeGrant x e.port g).slots
        rw [Chassis.takeGrant_slots hx]
        exact mem_placeSlot_self ..
      slots := fun v hv hp => by
        show _ ∈ (c.takeGrant x e.port g).slots
        by_cases hx : x.linkUp = true
        · rw [Chassis.takeGrant_slots hx]
          exact mem_placeSlot_of_ne hv hp
        · rw [Chassis.takeGrant_slots_down hx]
          exact hv
      waits := rfl
      pacing := rfl
      budget := rfl
      inputs := rfl
      episode := rfl
      logins := by
        show (c.takeGrant x e.port g).logins = c.logins
        unfold Chassis.takeGrant
        rw [Chassis.putControl_logins]
        rfl
      grace := by
        show (c.takeGrant x e.port g).grace = c.grace
        unfold Chassis.takeGrant
        rw [Chassis.putControl_grace]
        rfl
      seatWait := by
        show (c.takeGrant x e.port g).seatWait = c.seatWait
        unfold Chassis.takeGrant
        rw [Chassis.putControl_seatWait]
        rfl }

/-- R149: an offer finds pacing in the way, or no class that fits, or gives the highest that fits. -/
theorem Chassis.offerGrant_cases (x : Ctx) (c : Chassis) (e : WaitEntry) :
    (16 ≤ c.pwr.counted ∧ c.offerGrant x e = c) ∨
    (c.pwr.counted < 16 ∧ c.offerGrant x e = c ∧
      ∀ g ∈ c.offersTo x e, c.pwr.budget < c.demand x + x.cfg.power.draw g + c.margin x) ∨
    (c.pwr.counted < 16 ∧ ∃ g ∈ c.offersTo x e, c.demand x + x.cfg.power.draw g + c.margin x ≤ c.pwr.budget ∧
      (∀ k ∈ c.offersTo x e, g.num < k.num → c.pwr.budget < c.demand x + x.cfg.power.draw k + c.margin x) ∧
      c.GrantStep x e g (c.offerGrant x e)) := by
  unfold Chassis.offerGrant
  split
  · rename_i h
    exact .inl ⟨c.pwr.paced_iff.1 h, rfl⟩
  · rename_i h
    have hcount : c.pwr.counted < 16 := Nat.lt_of_not_le fun h' => h (c.pwr.paced_iff.2 h')
    dsimp only
    split
    · rename_i hn
      exact .inr (.inl ⟨hcount, rfl, fun g hg => by simpa using List.find?_eq_none.1 hn g hg⟩)
    · rename_i g hg
      refine .inr (.inr ⟨hcount, g, List.mem_of_find?_eq_some hg, by simpa using List.find?_some hg, fun k hk hlt => ?_, ?_⟩)
      · simpa using not_of_find?_lt (offers_sorted _ _) hg hk hlt
      · exact c.grantStep x e g

namespace Chassis.GrantStep

variable {x : Ctx} {e : WaitEntry} {g : RateClass} {c d : Chassis} (h : c.GrantStep x e g d)
include h

theorem margin : d.margin x = c.margin x := by
  unfold Chassis.margin
  rw [h.episode]

/-- R139: the demand grows by the draw of a port that held no grant. -/
theorem demand (hg : (c.port e.port).granted = none) : d.demand x = c.demand x + x.cfg.power.draw g := by
  have hdraw (q : PortId) : x.cfg.power.drawOf (d.port q).granted =
      x.cfg.power.drawOf (c.port q).granted + if q = e.port then x.cfg.power.draw g else 0 := by
    split
    · rename_i hq
      rw [hq, h.port, hg]
      exact (Nat.zero_add _).symm
    · rename_i hq
      rw [h.same q hq]
      rfl
  have hpd : d.portDraw x = c.portDraw x + x.cfg.power.draw g := by
    rw [Chassis.portDraw_eq, Chassis.portDraw_eq, Finset.sum_congr rfl fun q _ => hdraw q, Finset.sum_add_distrib,
      Finset.sum_ite_eq', if_pos (Finset.mem_univ _)]
  unfold Chassis.demand
  rw [h.inputs, hpd]
  exact (Nat.add_assoc ..).symm

theorem counted : d.pwr.counted = c.pwr.counted + 1 := by
  unfold Pwr.counted
  rw [h.pacing]
  unfold Pwr.countGrant
  cases c.pwr.pacing <;> rfl

theorem offersTo {f : WaitEntry} (hf : f.port ≠ e.port) : d.offersTo x f = c.offersTo x f := by
  unfold Chassis.offersTo
  rw [h.same _ hf]

end Chassis.GrantStep

/-! ## The grant pass (R149, R150) -/

/-- The pacing window after `n` grants, the first of which starts it where none runs. -/
def pacingAfter (now n : Nat) : Option Pacing → Pacing
  | some v => { v with count := v.count + n }
  | none => ⟨n, now + 250⟩

theorem pacingAfter_add (now n : Nat) (w : Option Pacing) :
    pacingAfter now n (some (pacingAfter now 1 w)) = pacingAfter now (n + 1) w := by
  cases w with
  | none => exact congrArg (Pacing.mk · _) (Nat.add_comm 1 n)
  | some v => exact congrArg (Pacing.mk · _) (by rw [Nat.add_comm n 1]; exact Nat.add_assoc ..)

theorem Pwr.countGrant_pacing (w : Pwr) (now : Nat) : (w.countGrant now).pacing = some (pacingAfter now 1 w.pacing) := by
  unfold Pwr.countGrant
  cases w.pacing <;> rfl

/-- What the offers to the entries of `os` leave: the grants `gs`, in their order. -/
structure Chassis.GrantRun (x : Ctx) (os : List WaitEntry) (gs : List (WaitEntry × RateClass)) (c d : Chassis) : Prop where
  sub : (gs.map Prod.fst).Sublist os
  offered : ∀ v ∈ gs, v.2 ∈ c.offersTo x v.1
  port : ∀ v ∈ gs, d.port v.1.port = { c.port v.1.port with state := .linkWait, granted := some v.2 }
  slot : x.linkUp = true → ∀ v ∈ gs, (v.1.port, Control.enable v.2) ∈ d.slots
  high : ∀ v ∈ gs, ∀ k ∈ c.offersTo x v.1, v.2.num < k.num →
    c.pwr.budget + x.cfg.power.draw v.2 < d.demand x + x.cfg.power.draw k + c.margin x
  same : ∀ p, (∀ v ∈ gs, v.1.port ≠ p) → d.port p = c.port p
  slots : ∀ v ∈ c.slots, (∀ u ∈ gs, u.1.port ≠ v.1) → v ∈ d.slots
  waits : d.pwr.waitList = c.pwr.waitList.filter fun f => !(gs.map fun v => v.1.port).contains f.port
  demand : d.demand x = c.demand x + (gs.map fun v => x.cfg.power.draw v.2).sum
  fits : gs ≠ [] → d.demand x + c.margin x ≤ c.pwr.budget
  first : ∀ e g, os.head? = some e → g ∈ c.offersTo x e → c.pwr.counted < 16 →
    c.demand x + x.cfg.power.draw g + c.margin x ≤ c.pwr.budget →
    (∀ k ∈ c.offersTo x e, g.num < k.num → c.pwr.budget < c.demand x + x.cfg.power.draw k + c.margin x) → (e, g) ∈ gs
  paced : c.pwr.counted + gs.length ≤ max 16 c.pwr.counted
  left : c.pwr.counted + gs.length < 16 → ∀ e ∈ os, e ∉ gs.map Prod.fst → ∀ g ∈ c.offersTo x e,
    c.pwr.budget < d.demand x + x.cfg.power.draw g + c.margin x
  pacing : d.pwr.pacing = if gs = [] then c.pwr.pacing else some (pacingAfter x.clockMs gs.length c.pwr.pacing)
  budget : d.pwr.budget = c.pwr.budget
  inputs : d.pwr.inputs = c.pwr.inputs

namespace Chassis.GrantRun

variable {x : Ctx} {e : WaitEntry} {es : List WaitEntry} {gs : List (WaitEntry × RateClass)} {c d : Chassis}

theorem demand_le (h : c.GrantRun x es gs d) : c.demand x ≤ d.demand x := by
  rw [h.demand]
  exact Nat.le_add_right _ _

/-- An entry to which nothing is given. -/
theorem skip (h : c.GrantRun x es gs d) (hno : c.pwr.counted < 16 → ∀ g ∈ c.offersTo x e,
    c.pwr.budget < c.demand x + x.cfg.power.draw g + c.margin x) : c.GrantRun x (e :: es) gs d :=
  { h with
    sub := h.sub.cons e
    first := fun e' g he hg hc hfit _ => by
      cases he
      exact absurd hfit (Nat.not_le.2 (hno hc g hg))
    left := fun hc f hf hnot g hg => by
      rcases List.mem_cons.1 hf with rfl | hf
      · have := hno ((Nat.le_add_right _ _).trans_lt hc) g hg
        have := h.demand_le
        omega
      · exact h.left hc f hf hnot g hg }

theorem port_mem (h : c.GrantRun x es gs d) {v : WaitEntry × RateClass} (hv : v ∈ gs) : v.1 ∈ es :=
  h.sub.subset (List.mem_map.2 ⟨v, hv, rfl⟩)

/-- An entry to which the highest class that fits is given. -/
theorem cons {g : RateClass} {c' : Chassis} (h : c'.GrantRun x es gs d) (hs : c.GrantStep x e g c')
    (he : ∀ f ∈ es, f.port ≠ e.port) (hnone : (c.port e.port).granted = none) (hc : c.pwr.counted < 16)
    (hgo : g ∈ c.offersTo x e) (hfit : c.demand x + x.cfg.power.draw g + c.margin x ≤ c.pwr.budget)
    (hhigh : ∀ k ∈ c.offersTo x e, g.num < k.num → c.pwr.budget < c.demand x + x.cfg.power.draw k + c.margin x) :
    c.GrantRun x (e :: es) ((e, g) :: gs) d := by
  have hne {v : WaitEntry × RateClass} (hv : v ∈ gs) : v.1.port ≠ e.port := he _ (h.port_mem hv)
  have hdem := hs.demand hnone
  have hle := h.demand_le
  exact
    { sub := h.sub.cons_cons e
      offered := fun v hv => by
        rcases List.mem_cons.1 hv with rfl | hv
        · exact hgo
        · rw [← hs.offersTo (hne hv)]
          exact h.offered v hv
      port := fun v hv => by
        rcases List.mem_cons.1 hv with rfl | hv
        · rw [h.same e.port fun _ hv => hne hv]
          exact hs.port
        · rw [h.port v hv, hs.same _ (hne hv)]
      slot := fun hx v hv => by
        rcases List.mem_cons.1 hv with rfl | hv
        · exact h.slots _ (hs.slot hx) fun _ hu => hne hu
        · exact h.slot hx v hv
      high := fun v hv k hk hlt => by
        rcases List.mem_cons.1 hv with rfl | hv
        · have := hhigh k hk hlt
          dsimp only
          omega
        · have := h.high v hv k (by rwa [hs.offersTo (hne hv)]) hlt
          rwa [hs.budget, hs.margin] at this
      same := fun p hp => by
        rw [h.same p fun v hv => hp v (List.mem_cons_of_mem _ hv)]
        exact hs.same p fun hpe => hp (e, g) List.mem_cons_self hpe.symm
      slots := fun v hv hu => h.slots v (hs.slots v hv fun hve => hu (e, g) List.mem_cons_self hve.symm) fun u hug =>
        hu u (List.mem_cons_of_mem _ hug)
      waits := by
        rw [h.waits, hs.waits, List.filter_filter]
        refine List.filter_congr fun f _ => ?_
        simp only [List.map_cons, List.contains_cons, Bool.not_or]
        rw [Bool.and_comm]
        rfl
      demand := by
        rw [h.demand, hdem, List.map_cons, List.sum_cons, Nat.add_assoc]
      fits := fun _ => by
        by_cases hgs : gs = []
        · rw [h.demand, hgs, hdem]
          exact hfit
        · have := h.fits hgs
          rwa [hs.budget, hs.margin] at this
      first := fun f k hf hk _ hkfit hkhigh => by
        cases hf
        have hkg : k = g := by
          rcases Nat.lt_trichotomy k.num g.num with hlt | heq | hlt
          · exact absurd hfit (Nat.not_le.2 (hkhigh g hgo hlt))
          · exact Machine.RateClass.num_injective heq
          · exact absurd hkfit (Nat.not_le.2 (hhigh k hk hlt))
        rw [hkg]
        exact List.mem_cons_self
      paced := by
        have := h.paced
        rw [hs.counted] at this
        rw [List.length_cons]
        omega
      left := fun hlt f hf hnot k hk => by
        have hfe : f ≠ e := fun h => hnot (List.mem_map.2 ⟨(e, g), List.mem_cons_self, h.symm⟩)
        have hf := (List.mem_cons.1 hf).resolve_left hfe
        have := h.left (by rw [hs.counted]; rw [List.length_cons] at hlt; omega) f hf
          (fun hm => hnot (List.mem_cons_of_mem _ hm)) k (by rwa [hs.offersTo (he f hf)])
        rwa [hs.budget, hs.margin] at this
      pacing := by
        rw [if_neg (List.cons_ne_nil _ _), h.pacing, hs.pacing, Pwr.countGrant_pacing, List.length_cons]
        by_cases hgs : gs = []
        · rw [if_pos hgs, hgs]
          rfl
        · rw [if_neg hgs, pacingAfter_add]
      budget := h.budget.trans hs.budget
      inputs := h.inputs.trans hs.inputs }

end Chassis.GrantRun

/-- R149: offers to ports without a grant, none twice. -/
theorem Chassis.exists_grantRun (x : Ctx) (os : List WaitEntry) : ∀ c : Chassis, (os.map WaitEntry.port).Nodup →
    (∀ e ∈ os, (c.port e.port).granted = none) → ∃ gs, c.GrantRun x os gs (os.foldl (Chassis.offerGrant x) c) := by
  induction os with
  | nil =>
    intro c _ _
    exact ⟨[],
      { sub := .slnil, offered := nofun, port := nofun, slot := nofun, high := nofun, same := fun _ _ => rfl
        slots := fun _ hv _ => hv, waits := (List.filter_true _).symm, demand := rfl, fits := fun h => absurd rfl h
        first := nofun, paced := Nat.le_max_right _ _, left := nofun, pacing := rfl, budget := rfl, inputs := rfl }⟩
  | cons e es ih =>
    intro c hn hg
    obtain ⟨he, hn⟩ := List.nodup_cons.1 hn
    have hne (f : WaitEntry) (hf : f ∈ es) : f.port ≠ e.port := fun h => he (List.mem_map.2 ⟨f, hf, h⟩)
    have hg' (f : WaitEntry) (hf : f ∈ es) : (c.port f.port).granted = none := hg f (List.mem_cons_of_mem _ hf)
    rw [List.foldl_cons]
    rcases c.offerGrant_cases x e with ⟨hc, hs⟩ | ⟨hc, hs, hno⟩ | ⟨hc, g, hgo, hfit, hhigh, hstep⟩
    · rw [hs]
      obtain ⟨gs, h⟩ := ih c hn hg'
      exact ⟨gs, h.skip fun h => absurd hc (Nat.not_le.2 h)⟩
    · rw [hs]
      obtain ⟨gs, h⟩ := ih c hn hg'
      exact ⟨gs, h.skip fun _ => hno⟩
    · obtain ⟨gs, h⟩ := ih _ hn fun f hf => by rw [hstep.same _ (hne f hf)]; exact hg' f hf
      exact ⟨(e, g) :: gs, h.cons hstep hne (hg e List.mem_cons_self) hc hgo hfit hhigh⟩

end Sys2Proof.Machine

/-! # The governor's timers and the evaluation's grant pass (O51) -/

namespace Sys2Proof.Machine

/-! ## What an evaluation does after its shed or grant pass (R146, R148) -/

theorem Chassis.closeEpisode_frame (x : Ctx) (c : Chassis) : ∃ a b,
    c.closeEpisode x = { c with alm := a, pwr := { c.pwr with episode := b } } := by
  unfold Chassis.closeEpisode
  split
  · exact ⟨_, _, rfl⟩
  · exact ⟨_, _, rfl⟩

theorem Chassis.evaluateWith_frame {x : Ctx} {pass : Chassis → Chassis} {c : Chassis} (hs : c.pwr.inputs.settled = true) :
    ∃ a e b w, c.evaluateWith x pass =
      { (c.formBudget x).shedOrGrant x ⟨id, pass⟩ with
        alm := a
        pwr := { ((c.formBudget x).shedOrGrant x ⟨id, pass⟩).pwr with episode := e, powerWait := b, waitTimer := w } } := by
  unfold Chassis.evaluateWith
  rw [if_pos hs]
  generalize (c.formBudget x).shedOrGrant x ⟨id, pass⟩ = d
  obtain ⟨a, e, he⟩ := d.closeEpisode_frame x
  obtain ⟨a', b, w, hj⟩ := (d.closeEpisode x).judgePowerWait_frame x
  exact ⟨a', e, b, w, by rw [hj, he]⟩

theorem Chassis.shedOrGrant_of_holdoff {x : Ctx} {h : Hooks} {c : Chassis} (hd : c.demand x ≤ c.pwr.budget)
    (ho : c.pwr.holdoff ≠ none) : c.shedOrGrant x h = c := by
  unfold Chassis.shedOrGrant
  rw [if_neg (Nat.not_lt.2 hd), if_neg ho]

theorem Chassis.shedOrGrant_of_fits {x : Ctx} {h : Hooks} {c : Chassis} (hd : c.demand x ≤ c.pwr.budget)
    (ho : c.pwr.holdoff = none) : c.shedOrGrant x h = c.grantPass x := by
  unfold Chassis.shedOrGrant
  rw [if_neg (Nat.not_lt.2 hd), if_pos ho]

/-! ## The wait list (R147, R148) -/

theorem Chassis.joinWait_of_le {x : Ctx} {c : Chassis} (p : PortId) (k : WaitKind) (h : c.pwr.nextJoin ≤ 4294967295) :
    (c.joinWait x p k).pwr.waitList = c.pwr.waitList ++ [⟨p, k, c.pwr.nextJoin, x.clockMs⟩] ∧
    (c.joinWait x p k).pwr.nextJoin = c.pwr.nextJoin + 1 := by
  have hw : decide (Config.joinMax < c.pwr.nextJoin) = false := decide_eq_false (Nat.not_lt.2 h)
  simp only [Chassis.joinWait, Chassis.setPwr, hw]
  exact ⟨rfl, rfl⟩

theorem renumber_length (ws : List WaitEntry) : (renumber ws).length = ws.length := by simp [renumber]

theorem Chassis.joinWait_of_gt {x : Ctx} {c : Chassis} (p : PortId) (k : WaitKind) (h : 4294967295 < c.pwr.nextJoin) :
    (c.joinWait x p k).pwr.waitList = renumber c.pwr.waitList ++ [⟨p, k, c.pwr.waitList.length, x.clockMs⟩] ∧
    (c.joinWait x p k).pwr.nextJoin = c.pwr.waitList.length + 1 := by
  have hw : decide (Config.joinMax < c.pwr.nextJoin) = true := decide_eq_true h
  simp only [Chassis.joinWait, Chassis.setPwr, hw, if_true, renumber_length, and_self]

theorem renumber_kinds (ws : List WaitEntry) : (renumber ws).map WaitEntry.kind = ws.map WaitEntry.kind := by
  rw [renumber, List.map_map]
  exact (List.map_map (g := WaitEntry.kind) (f := Prod.fst) (l := ws.zipIdx)).symm.trans (by rw [List.zipIdx_map_fst])

theorem any_powerWait_false {ws : List WaitEntry} :
    (ws.any fun e => e.kind == .powerWait) = false ↔ ∀ k ∈ ws.map WaitEntry.kind, k = .shed := by
  rw [List.any_eq_false]
  constructor
  · intro h k hk
    obtain ⟨e, he, rfl⟩ := List.mem_map.1 hk
    have := h e he
    cases hke : e.kind with
    | shed => rfl
    | powerWait => rw [hke] at this; exact absurd rfl this
  · intro h e he hk
    rw [h _ (List.mem_map_of_mem he)] at hk
    cases hk

theorem Chassis.joinWait_waitTimer (x : Ctx) (c : Chassis) (p : PortId) (k : WaitKind) :
    (c.joinWait x p k).pwr.waitTimer =
      if k = .powerWait ∧ ∀ e ∈ c.pwr.waitList, e.kind = .shed then some (x.clockMs + 10000) else c.pwr.waitTimer := by
  have hkinds (b : Bool) : ((if b then renumber c.pwr.waitList else c.pwr.waitList).map WaitEntry.kind) =
      c.pwr.waitList.map WaitEntry.kind := by
    split
    · exact renumber_kinds _
    · rfl
  refine if_congr ?_ rfl rfl
  rw [Bool.and_eq_true, Bool.not_eq_true', any_powerWait_false, hkinds]
  exact and_congr beq_iff_eq List.forall_mem_map

/-! ## The timers (R146, R148, R150) -/

theorem Chassis.pacingEnd_of_nil {x : Ctx} {c : Chassis} (h : c.pwr.waitList = []) :
    c.pacingEnd x = c.setPwr { c.pwr with pacing := none } := by
  unfold Chassis.pacingEnd
  exact if_pos (List.isEmpty_iff.2 h)

theorem Chassis.pacingEnd_of_waiting {x : Ctx} {c : Chassis} (h : c.pwr.waitList ≠ []) :
    c.pacingEnd x = (c.setPwr { c.pwr with pacing := none }).evaluate x := by
  unfold Chassis.pacingEnd
  exact if_neg fun he => h (List.isEmpty_iff.1 he)

theorem State.pacingEnd_of_some {s : State} {g : Pacing} (h : s.chassis.pwr.pacing = some g) :
    s.pacingEnd = State.onChassis Chassis.pacingEnd (s.carry g.dueMs) := by
  rw [State.pacingEnd, h]

/-! ## The grants of an evaluation (R149, R150) -/

/-- The ports that were given a grant stand for their entries, where no port is on the list twice. -/
theorem filter_granted {ws : List WaitEntry} {gs : List (WaitEntry × RateClass)} (hn : (ws.map WaitEntry.port).Nodup)
    (hgs : ∀ v ∈ gs, v.1 ∈ ws) :
    (ws.filter fun e => !(gs.map fun v => v.1.port).contains e.port) = ws.filter fun e => !(gs.map Prod.fst).contains e := by
  refine List.filter_congr fun e he => congrArg _ ?_
  rw [Bool.eq_iff_iff, List.contains_iff_mem, List.contains_iff_mem, List.mem_map, List.mem_map]
  constructor
  · rintro ⟨v, hv, hp⟩
    exact ⟨v, hv, List.inj_on_of_nodup_map hn (hgs v hv) he hp⟩
  · rintro ⟨v, hv, rfl⟩
    exact ⟨v, hv, rfl⟩

/-- R149: the evaluation's grants, where none stands above the budget and the holdoff does not run. -/
theorem Chassis.evaluate_grants (x : Ctx) (c : Chassis) (hs : c.pwr.inputs.settled = true)
    (hd : c.demand x ≤ (c.formBudget x).pwr.budget) (ho : c.pwr.holdoff = none)
    (hg : ∀ e ∈ c.pwr.waitList, (c.port e.port).granted = none) (hn : (c.pwr.waitList.map WaitEntry.port).Nodup)
    (hj : c.pwr.waitList.Pairwise fun a b => a.joinNo < b.joinNo) :
    ∃ os gs d, os.Perm c.pwr.waitList ∧ WaitOrdered (fun p => (x.cfg.port p).priority) os ∧
      (c.formBudget x).GrantRun x os gs d ∧ ∃ a e b w,
        c.evaluate x = { d with alm := a, pwr := { d.pwr with episode := e, powerWait := b, waitTimer := w } } := by
  obtain ⟨a, e, b, w, heval⟩ := Chassis.evaluateWith_frame (x := x) (pass := Chassis.bindingPass x id) hs
  rw [Chassis.shedOrGrant_of_fits (c := c.formBudget x) hd ho] at heval
  have hperm := (c.formBudget x).waitOrder_perm x
  obtain ⟨gs, hrun⟩ := (c.formBudget x).exists_grantRun x ((c.formBudget x).waitOrder x)
    ((hperm.map _).nodup_iff.2 hn) fun e he => hg e (hperm.mem_iff.1 he)
  exact ⟨_, gs, _, hperm, Chassis.waitOrder_ordered hj, hrun, a, e, b, w, heval⟩

/-- Settles O51: the timers by the model's own branches, the wait list by what a joining adds to it, and the grants by
the run of the grant pass over the ordered list. -/
theorem governorTimersRunOut : Obligations.GovernorTimersRunOut := by
  unfold Obligations.GovernorTimersRunOut
  intro s hr w at_
  refine ⟨fun due h => leaves_of_event hr rfl ?holdoff, fun h => leaves_of_event hr rfl ?noHoldoff,
    fun g h hw => leaves_of_event hr rfl ?idleWindow, fun g h hw => leaves_of_event hr rfl ?window,
    fun h => leaves_of_event hr rfl ?noWindow, fun due h => leaves_of_event hr rfl ?wait,
    fun h => leaves_of_event hr rfl ?noWait, fun p k => ⟨fun h => ?joins, fun h => ?joinsAnew, ?timer⟩,
    fun hs => ⟨fun hd ho => ?held, fun hd ho hg hn hj => ?grants⟩⟩
  case holdoff => simp only [State.holdoffEnd, show s.chassis.pwr.holdoff = some due from h]; rfl
  case noHoldoff => simp only [State.holdoffEnd, show s.chassis.pwr.holdoff = none from h]
  case idleWindow =>
    rw [State.pacingEnd_of_some h, State.onChassis, Chassis.pacingEnd_of_nil (c := (s.carry g.dueMs).chassis) hw]
    rfl
  case window =>
    rw [State.pacingEnd_of_some h, State.onChassis, Chassis.pacingEnd_of_waiting (c := (s.carry g.dueMs).chassis) hw]
    rfl
  case noWindow => simp only [State.pacingEnd, show s.chassis.pwr.pacing = none from h]
  case wait => simp only [State.waitTimerEnd, show s.chassis.pwr.waitTimer = some due from h]; rfl
  case noWait => simp only [State.waitTimerEnd, show s.chassis.pwr.waitTimer = none from h]
  case joins => exact Chassis.joinWait_of_le p k h
  case joinsAnew => exact Chassis.joinWait_of_gt p k h
  case timer => exact Chassis.joinWait_waitTimer s.ctx s.chassis p k
  case held =>
    obtain ⟨a, e, b, v, heval⟩ :=
      Chassis.evaluateWith_frame (x := s.ctx) (pass := Chassis.bindingPass s.ctx id) (c := s.chassis) hs
    have hkeep := Chassis.shedOrGrant_of_holdoff (h := ⟨id, Chassis.bindingPass s.ctx id⟩)
      (c := s.chassis.formBudget s.ctx) hd (Option.isSome_iff_ne_none.1 ho)
    rw [hkeep] at heval
    rw [Chassis.evaluate, heval]
    exact ⟨rfl, rfl, rfl⟩
  case grants =>
    intro prio m draw offered count
    obtain ⟨os, gs, d, hperm, hord, hrun, a, e, b, v, heval⟩ :=
      Chassis.evaluate_grants s.ctx s.chassis hs hd ho hg hn hj
    have hoff (f : WaitEntry) (g : RateClass) :
        offered f g ↔ g ∈ (s.chassis.formBudget s.ctx).offersTo s.ctx f := mem_offers.symm
    have hin (u : WaitEntry × RateClass) (hu : u ∈ gs) : u.1 ∈ w.waitList := hperm.mem_iff.1 (hrun.port_mem hu)
    have hwaits : d.pwr.waitList = w.waitList.filter fun f => !(gs.map Prod.fst).contains f :=
      hrun.waits.trans (filter_granted hn hin)
    rw [heval]
    refine ⟨os, gs, hperm, hord, hrun.sub, fun u hu => ⟨(hoff _ _).2 (hrun.offered u hu), hrun.port u hu,
      fun hx => hrun.slot hx u hu, fun k hk hlt => hrun.high u hu k ((hoff _ _).1 hk) hlt⟩, hrun.same, hwaits,
      hrun.demand, hrun.fits, fun f g hf hfo hc hfit hhigh => hrun.first f g hf ((hoff _ _).1 hfo) hc hfit
        fun k hk => hhigh k ((hoff _ _).2 hk), hrun.paced, fun hlt f hf g hfo => ?_, ?_⟩
    · have hf' : f ∈ w.waitList.filter fun f => !(gs.map Prod.fst).contains f := hwaits ▸ hf
      obtain ⟨hfw, hfn⟩ := List.mem_filter.1 hf'
      exact hrun.left hlt f (hperm.mem_iff.2 hfw) (fun hm => by simp [hm] at hfn) g ((hoff _ _).1 hfo)
    · refine hrun.pacing.trans (if_congr Iff.rfl rfl (congrArg some ?_))
      show pacingAfter s.clockMs gs.length w.pacing = _
      cases w.pacing <;> rfl

end Sys2Proof.Machine

/-! # Evaluations and passes, by what they do at each port

An evaluation and a binding pass reach a port in four ways: a revocation, an offer of a grant, and the two parts of a
binding pass. A property that these four keep at one port, and that every other port's moves keep, is kept by both. -/

namespace Sys2Proof.Machine

/-- Both hooks keep a property. -/
structure Hooks.Keeps (h : Hooks) (P : Chassis → Prop) : Prop where
  eval : ∀ c, P c → P (h.eval c)
  pass : ∀ c, P c → P (h.pass c)

/-- What shed passes and binding passes are made of keeps a property, whatever the causes inside them do. -/
structure Chassis.Served (x : Ctx) (P : Chassis → Prop) : Prop where
  due : ∀ (c : Chassis) b, P c → P { c with passDue := b }
  revoke : ∀ (h : Hooks) c p, h.Keeps P → (c.port p).granted.isSome = true → P c → P (c.revoke x h p)
  serveGrace : ∀ (h : Hooks) c p, h.Keeps P → P c → P (Chassis.serveGrace x h c p)
  serveWaiting : ∀ (h : Hooks) c p, h.Keeps P → P c → P (Chassis.serveWaiting x h c p)

namespace Chassis.Served

variable {x : Ctx} {P : Chassis → Prop} (hP : Chassis.Served x P)
include hP

theorem markPass {c : Chassis} (hc : P c) : P c.markPass := hP.due _ _ hc

theorem onePass {h : Hooks} (hh : h.Keeps P) {c : Chassis} (hc : P c) : P (c.onePass x h) := by
  have h1 : P (allPorts.foldl (Chassis.serveGrace x h) c) :=
    List.foldlRecOn (motive := P) _ _ hc fun _ hd p _ => hP.serveGrace h _ p hh hd
  exact List.foldlRecOn (motive := P) _ _ h1 fun _ hd p _ => hP.serveWaiting h _ p hh hd

theorem passes {eval : Chassis → Chassis} (he : ∀ c, P c → P (eval c)) (n : Nat) {c : Chassis} (hc : P c) :
    P (c.passes x eval n) := by
  induction n generalizing c with
  | zero => exact hP.due _ _ hc
  | succ n ih =>
    have h1 : P (Chassis.onePass x ⟨eval, Chassis.markPass⟩ { c with passDue := false }) :=
      hP.onePass ⟨he, fun _ => hP.markPass⟩ (hP.due _ _ hc)
    unfold Chassis.passes
    dsimp only
    split
    · exact ih h1
    · exact h1

theorem bindingPass {eval : Chassis → Chassis} (he : ∀ c, P c → P (eval c)) {c : Chassis} (hc : P c) :
    P (c.bindingPass x eval) := hP.passes he 257 hc

theorem passIfDue {eval : Chassis → Chassis} (he : ∀ c, P c → P (eval c)) {c : Chassis} (hc : P c) :
    P (c.passIfDue x eval) := by
  unfold Chassis.passIfDue
  split
  · exact hP.bindingPass he hc
  · exact hc

theorem shedLoop {h : Hooks} (hh : h.Keeps P) (budget n : Nat) {c : Chassis} (any : Bool) (hc : P c) :
    P (c.shedLoop x h budget n any).1 := by
  induction n generalizing c any with
  | zero => exact hc
  | succ n ih =>
    unfold Chassis.shedLoop
    split
    · exact hc
    · split
      · exact hc
      · rename_i p hp
        exact ih _ (hP.revoke h _ _ hh (Chassis.of_nextShed hp).1 hc)

end Chassis.Served

/-- The rest of an evaluation keeps a property as well. -/
structure Chassis.Governed (x : Ctx) (P : Chassis → Prop) : Prop extends Chassis.Served x P where
  form : ∀ c, P c → P (c.formBudget x)
  holdoff : ∀ (c : Chassis) n, P c → P (c.setPwr { c.pwr with holdoff := n })
  opens : ∀ c, P c → P (c.openEpisode x)
  closes : ∀ c, P c → P (c.closeEpisode x)
  judges : ∀ c, P c → P (c.judgePowerWait x)
  offer : ∀ (b c : Chassis) e, e ∈ b.pwr.waitList → P b → P c → P (c.offerGrant x e)

namespace Chassis.Governed

variable {x : Ctx} {P : Chassis → Prop} (hP : Chassis.Governed x P)
include hP

theorem shedPass {h : Hooks} (hh : h.Keeps P) {c : Chassis} (hc : P c) : P (c.shedPass x h) := by
  have hl := hP.shedLoop hh c.pwr.budget 256 false hc
  unfold Chassis.shedPass
  dsimp only
  split
  · exact hP.opens _ (hP.holdoff _ _ hl)
  · exact hl

theorem grantPass {c : Chassis} (hc : P c) : P (c.grantPass x) :=
  List.foldlRecOn (motive := P) _ _ hc fun d hd e he => hP.offer c d e (Chassis.mem_waitOrder.1 he) hc hd

theorem shedOrGrant {h : Hooks} (hh : h.Keeps P) {c : Chassis} (hc : P c) : P (c.shedOrGrant x h) := by
  unfold Chassis.shedOrGrant
  split
  · exact hP.shedPass hh hc
  · split
    · exact hP.grantPass hc
    · exact hc

theorem evaluateWith {pass : Chassis → Chassis} (hh : ∀ c, P c → P (pass c)) {c : Chassis} (hc : P c) :
    P (c.evaluateWith x pass) := by
  unfold Chassis.evaluateWith
  split
  · exact hP.judges _ (hP.closes _ (hP.shedOrGrant ⟨fun _ h => h, hh⟩ (hP.form _ hc)))
  · exact hc

theorem evaluate {c : Chassis} (hc : P c) : P (c.evaluate x) := by
  unfold Chassis.evaluate
  exact hP.evaluateWith (fun _ => hP.bindingPass fun _ h => h) hc

theorem evaluateInPass {c : Chassis} (hc : P c) : P (c.evaluateInPass x) := by
  unfold Chassis.evaluateInPass
  exact hP.evaluateWith (fun _ => hP.markPass) hc

theorem pass {c : Chassis} (hc : P c) : P (c.pass x) := by
  unfold Chassis.pass
  exact hP.bindingPass (fun _ => hP.evaluateInPass) hc

theorem outer : (Machine.outer x).Keeps P := by
  refine ⟨fun c hc => ?_, fun c hc => ?_⟩
  · rw [outer_eval]; exact hP.evaluate hc
  · rw [outer_pass]; exact hP.pass hc

theorem inRebind : (Machine.inRebind x).Keeps P := ⟨fun _ => hP.evaluateInPass, fun _ => hP.markPass⟩

theorem recording : Machine.recording.Keeps P := ⟨fun _ h => h, fun _ => hP.markPass⟩

theorem handPwr (f : PwrInputs → PwrInputs) {c : Chassis}
    (hc : P (c.setPwr { c.pwr with inputs := f c.pwr.inputs })) : P (c.handPwr x f) := by
  unfold Chassis.handPwr
  exact hP.evaluate hc

end Chassis.Governed

/-! ## What the other ports' moves leave of one port -/

/-- One port's record, its place on the seat wait list, its logins, its slot and its grace record stay; it does not
join the grant wait list; and the licences keep their ids and states. -/
structure Chassis.Still (p : PortId) (c d : Chassis) : Prop where
  port : d.port p = c.port p
  seat : p ∈ d.seatWait ↔ p ∈ c.seatWait
  off : c.onWaitList p = false → d.onWaitList p = false
  logins : d.loginCount p = c.loginCount p
  slot : ∀ k, (p, k) ∈ d.slots ↔ (p, k) ∈ c.slots
  grace : d.graceOf p = c.graceOf p
  keys : d.licKeys = c.licKeys

theorem Chassis.MovesAt.still {p q : PortId} {c d : Chassis} (h : c.MovesAt q d) (hq : p ≠ q) (hg : d.grace = c.grace)
    (hs : d.slots = c.slots) : c.Still p d := by
  have hv := h.view p hq
  exact
    { port := congrArg PortView.r hv
      seat := by
        rw [← List.count_pos_iff, ← List.count_pos_iff]
        exact iff_of_eq (congrArg (0 < ·) (congrArg PortView.seat hv))
      off := fun ho => (d.onWaitList_eq_false p).2 ((congrArg PortView.waits hv).trans ((c.onWaitList_eq_false p).1 ho))
      logins := congrArg PortView.logins hv
      slot := fun k => by rw [hs]
      grace := by unfold Chassis.graceOf; rw [hg]
      keys := h.keys }

namespace Chassis.Still

variable {p : PortId} {c d e : Chassis}

theorem refl (p : PortId) (c : Chassis) : c.Still p c :=
  ⟨rfl, .rfl, id, rfl, fun _ => .rfl, rfl, rfl⟩

theorem trans (h : c.Still p d) (h' : d.Still p e) : c.Still p e :=
  ⟨h'.port.trans h.port, h'.seat.trans h.seat, fun ho => h'.off (h.off ho), h'.logins.trans h.logins,
    fun k => (h'.slot k).trans (h.slot k), h'.grace.trans h.grace, h'.keys.trans h.keys⟩

/-- What the governor changes beside the wait list, and the alarms. -/
theorem of_pwr (h : ∀ e ∈ d.pwr.waitList, e ∈ c.pwr.waitList) (he : d = { c with pwr := d.pwr, alm := d.alm, passDue := d.passDue, graceRunning := d.graceRunning }) :
    c.Still p d := by
  have hon (ho : c.onWaitList p = false) : d.onWaitList p = false :=
    List.any_eq_false.2 fun e hm => List.any_eq_false.1 ho e (h e hm)
  rw [he] at hon ⊢
  exact ⟨rfl, .rfl, hon, rfl, fun _ => .rfl, rfl, rfl⟩

theorem putControl {q : PortId} (x : Ctx) (k : Control) (hq : p ≠ q) : c.Still p (c.putControl x q k) := by
  have hv := (c.movesAt_putControl q x k).view p hq
  refine
    { port := congrArg PortView.r hv
      seat := by rw [Chassis.putControl_seatWait]
      off := fun ho => by unfold Chassis.onWaitList; rw [Chassis.putControl_pwr]; exact ho
      logins := congrArg PortView.logins hv
      slot := fun j => ?_
      grace := by unfold Chassis.graceOf; rw [Chassis.putControl_grace]
      keys := (c.movesAt_putControl q x k).keys }
  unfold Chassis.putControl
  split
  · constructor
    · intro hm
      dsimp only at hm
      unfold placeSlot at hm
      split at hm
      · obtain ⟨v, hv, hve⟩ := List.mem_map.1 hm
        split at hve
        · exact absurd (congrArg Prod.fst hve).symm hq
        · exact hve ▸ hv
      · rcases List.mem_append.1 hm with hm | hm
        · exact hm
        · exact absurd (congrArg Prod.fst (List.mem_singleton.1 hm)) hq
    · exact fun hm => mem_placeSlot_of_ne hm hq
  · exact .rfl

theorem setGrace {q : PortId} (n : Nat) (hq : p ≠ q) : c.Still p (c.setGrace q n) := by
  refine
    { port := by unfold Chassis.port; rw [Chassis.setGrace_ports]
      seat := by rw [Chassis.setGrace_seatWait]
      off := fun ho => by unfold Chassis.onWaitList; rw [Chassis.setGrace_pwr]; exact ho
      logins := by unfold Chassis.loginCount; rw [Chassis.setGrace_logins]
      slot := fun k => by rw [Chassis.setGrace_slots]
      grace := ?_
      keys := (c.movesAt_setGrace q n).keys }
  unfold Chassis.setGrace
  split
  · rfl
  · exact Vector.getElem_set_ne q.isLt _ fun hv => hq (Fin.ext hv.symm)

end Chassis.Still

/-- A property of one port and the licences' ids and states. -/
def Chassis.Local (p : PortId) (P : Chassis → Prop) : Prop := ∀ c d, Chassis.Still p c d → P c → P d

namespace Chassis.Local

variable {p : PortId} {P : Chassis → Prop} (hP : Chassis.Local p P) (x : Ctx)
include hP

theorem moves : Chassis.Moves x (· ≠ p) P where
  port c q r hq _ := hP _ _ ((c.movesAt_setPort q r).still (Ne.symm hq) rfl rfl)
  joinWait c q k hq := hP _ _ ((c.movesAt_joinWait q x k).still (Ne.symm hq) rfl rfl)
  pwr _ _ hw := hP _ _ (.of_pwr hw.waitList rfl)
  count _ _ := hP _ _ (.of_pwr (fun _ h => h) rfl)
  control _ _ k hq := hP _ _ (.putControl x k (Ne.symm hq))
  logins c q hq := hP _ _ ((c.movesAt_removeLogins q).still (Ne.symm hq) rfl rfl)
  alarm_raise _ _ _ := hP _ _ (.of_pwr (fun _ h => h) rfl)
  alarm_clear _ _ _ := hP _ _ (.of_pwr (fun _ h => h) rfl)
  running _ _ := hP _ _ (.of_pwr (fun _ h => h) rfl)
  bind c q l hq _ := hP _ _ ((c.movesAt_bindSeat q l.id).still (Ne.symm hq) rfl rfl)
  unbind c q id hq := hP _ _ ((c.movesAt_unbindSeat q id).still (Ne.symm hq) rfl rfl)
  grace _ _ n hq := hP _ _ (.setGrace n (Ne.symm hq))
  joinSeat c q hq := hP _ _ ((c.movesAt_joinSeatWait q).still (Ne.symm hq) rfl rfl)
  leaveSeat c q hq := hP _ _ ((c.movesAt_leaveSeatWait q).still (Ne.symm hq) rfl rfl)
  due _ _ := hP _ _ (.of_pwr (fun _ h => h) rfl)

/-- Hooks that keep it do so where another port is lowered. -/
theorem keep {h : Hooks} (hh : h.Keeps P) : h.Keep x (· ≠ p) P :=
  ⟨hh.eval, hh.pass, fun c q g hq _ hc => hh.eval _ ((hP.moves x).logins _ q hq ((hP.moves x).control _ q (.enable g) hq
    (hP _ _ ((c.movesAt_setPort q { c.port q with granted := some g, state := .linkWait, negotiated := none }).still
      (Ne.symm hq) rfl rfl) hc)))⟩

theorem offerGrant {e : WaitEntry} (he : e.port ≠ p) {c : Chassis} (hc : P c) : P (c.offerGrant x e) := by
  unfold Chassis.offerGrant
  split
  · exact hc
  · dsimp only
    split
    · exact hc
    · rename_i g _
      have ht : P (c.takeGrant x e.port g) := (hP.moves x).control _ _ _ he
        (hP _ _ ((c.movesAt_setPort e.port { c.port e.port with state := .linkWait, granted := some g }).still
          (Ne.symm he) rfl rfl) hc)
      exact hP ((c.takeGrant x e.port g).leaveWait x e.port) _ (.of_pwr (fun _ h => h) rfl)
        ((hP.moves x).leaveWait e.port ht)

theorem formBudget {c : Chassis} (hc : P c) : P (c.formBudget x) := by
  refine hP c _ ?_ hc
  exact .of_pwr (fun _ h => h) rfl

theorem openEpisode {c : Chassis} (hc : P c) : P (c.openEpisode x) := by
  unfold Chassis.openEpisode
  split
  · exact hP c _ (.of_pwr (fun _ h => h) rfl) hc
  · exact hc

theorem closeEpisode {c : Chassis} (hc : P c) : P (c.closeEpisode x) := by
  obtain ⟨a, b, h⟩ := c.closeEpisode_frame x
  rw [h]
  exact hP c _ (.of_pwr (fun _ h => h) rfl) hc

end Chassis.Local

/-- What a shed pass and a binding pass do at a port keeps a property of it. -/
structure Chassis.Tracked (x : Ctx) (p : PortId) (P : Chassis → Prop) : Prop where
  at_port : Chassis.Local p P
  revoke : ∀ (h : Hooks) c, h.Keeps P → (c.port p).granted.isSome = true → P c → P (c.revoke x h p)
  rebind : ∀ (h : Hooks) c l, h.Keeps P → (c.port p).binding = .counted → c.seatChoice x p = some l → P c →
    P (((c.bindSeat l.id p).setGrace p 0).seatNotice x h p (.licence l.id) (some l.ceiling))
  bind : ∀ (h : Hooks) c l, h.Keeps P → p ∈ c.seatWait → c.seatChoice x p = some l → P c →
    P (((c.leaveSeatWait p).bindSeat l.id p).seatBound x h p (.licence l.id) l.ceiling)

namespace Chassis.Tracked

variable {x : Ctx} {p : PortId} {P : Chassis → Prop} (hP : Chassis.Tracked x p P)
include hP

theorem served : Chassis.Served x P where
  due := (hP.at_port.moves x).due
  revoke h c q hh hg hc := by
    by_cases hq : q = p
    · subst hq
      exact hP.revoke h c hh hg hc
    · exact (hP.at_port.moves x).revoke (hP.at_port.keep x hh) hq hc
  serveGrace h c q hh hc := by
    have hm := hP.at_port.moves x
    unfold Chassis.serveGrace
    split
    · rename_i hb
      split
      · rename_i l hl
        by_cases hq : q = p
        · subst hq
          exact hP.rebind h c l hh hb hl hc
        · exact hm.seatNotice (hP.at_port.keep x hh) hq (hm.grace _ _ _ hq (hm.bind _ _ _ hq hl hc)) _ _
      · exact hc
    · exact hc
  serveWaiting h c q hh hc := by
    have hm := hP.at_port.moves x
    unfold Chassis.serveWaiting
    split
    · rename_i hw
      split
      · rename_i l hl
        by_cases hq : q = p
        · subst hq
          exact hP.bind h c l hh (List.contains_iff_mem.1 hw) hl hc
        · exact hm.seatBound (hP.at_port.keep x hh) hq (hm.bind _ _ _ hq (by exact hl) (hm.leaveSeat _ _ hq hc)) _ _
      · exact hc
    · exact hc

theorem shedPass {h : Hooks} (hh : h.Keeps P) {c : Chassis} (hc : P c) : P (c.shedPass x h) := by
  have hl := hP.served.shedLoop hh c.pwr.budget 256 false hc
  unfold Chassis.shedPass
  dsimp only
  split
  · refine hP.at_port.openEpisode x (hP.at_port _ _ ?_ hl)
    exact .of_pwr (fun _ h => h) rfl
  · exact hl

/-- So does an evaluation, where an offer at the port does. -/
theorem governed (ho : ∀ (b c : Chassis) e, e.port = p → e ∈ b.pwr.waitList → P b → P c → P (c.offerGrant x e)) :
    Chassis.Governed x P where
  toServed := hP.served
  form _ := hP.at_port.formBudget x
  holdoff _ _ := hP.at_port _ _ (.of_pwr (fun _ h => h) rfl)
  opens _ := hP.at_port.openEpisode x
  closes _ := hP.at_port.closeEpisode x
  judges c := (hP.at_port.moves x).judgePowerWait
  offer b c e he hb hc := by
    by_cases hp : e.port = p
    · exact ho b c e hp he hb hc
    · exact hP.at_port.offerGrant x hp hc

end Chassis.Tracked

/-! ## A port that neither waits nor holds anything that a pass gives -/

/-- A port without a grant, on neither wait list and without a counted grace binding: an evaluation and a pass pass it
over. -/
structure Chassis.Inert (p : PortId) (c : Chassis) : Prop where
  granted : (c.port p).granted = none
  off : c.onWaitList p = false
  seat : p ∉ c.seatWait
  binding : (c.port p).binding ≠ .counted

theorem Chassis.Still.inert {p : PortId} {c d : Chassis} (h : c.Still p d) (hc : c.Inert p) : d.Inert p :=
  ⟨by rw [h.port]; exact hc.granted, h.off hc.off, fun hs => hc.seat (h.seat.1 hs), by rw [h.port]; exact hc.binding⟩

/-- All that `Still` speaks of stays. -/
theorem Chassis.Inert.tracked {p : PortId} {c : Chassis} (x : Ctx) (hc : c.Inert p) : Chassis.Tracked x p (c.Still p) where
  at_port _ _ h hc := hc.trans h
  revoke _ d _ hg hd := by rw [(hd.inert hc).granted] at hg; cases hg
  rebind _ d _ _ hb _ hd := absurd hb (hd.inert hc).binding
  bind _ d _ _ hs _ hd := absurd hs (hd.inert hc).seat

theorem Chassis.Inert.governed {p : PortId} {c : Chassis} (x : Ctx) (hc : c.Inert p) : Chassis.Governed x (c.Still p) :=
  (hc.tracked x).governed fun b d e he hm hb _ => by
    have h := List.any_eq_false.1 ((hb.inert hc).off) e hm
    exact absurd (beq_iff_eq.2 he) h

theorem Chassis.Inert.evaluate {p : PortId} {c : Chassis} (x : Ctx) (hc : c.Inert p) : c.Still p (c.evaluate x) :=
  (hc.governed x).evaluate (.refl p c)

theorem Chassis.Inert.pass {p : PortId} {c : Chassis} (x : Ctx) (hc : c.Inert p) : c.Still p (c.pass x) :=
  (hc.governed x).pass (.refl p c)

end Sys2Proof.Machine

/-! # The evaluation: budget, shed pass and episode (O50) -/

namespace Sys2Proof.Machine

/-! ## The stages of the budget (R135 to R137) -/

/-- The Good slots. -/
def PwrInputs.goodSlots (i : PwrInputs) : List SlotId := (List.finRange 4).filter fun k => i.slots[k.val] = .good

theorem PwrInputs.goodRatings_eq (i : PwrInputs) (s : SupplyCfg) :
    i.goodRatings s = i.goodSlots.map fun k => s.ratings[k.val] := by
  have hz : i.slots.toList.zip s.ratings.toList =
      (List.finRange 4).map fun k => (i.slots[k.val], s.ratings[k.val]) := by
    rw [Vector.toList_eq_ofFn, Vector.toList_eq_ofFn, List.ofFn_eq_map, List.ofFn_eq_map, List.zip_map']
  unfold PwrInputs.goodRatings PwrInputs.goodSlots
  rw [hz, List.filter_map, List.map_map]
  refine congrArg (List.map _) (List.filter_congr fun k _ => ?_)
  simp only [Function.comp, beq_eq_decide]

theorem rawSupply_sum {mode : SupplyMode} {l : List Nat} (h : mode = .combined ∨ l.length < 2) : rawSupply mode l = l.sum := by
  unfold rawSupply
  split
  · exact absurd h (by simp)
  · rfl

theorem rawSupply_spareOne {l : List Nat} (h : 2 ≤ l.length) : rawSupply .spareOne l = l.sum - l.foldl max 0 := by
  match l, h with
  | _ :: _ :: _, _ => rfl

theorem rawSupply_le (mode : SupplyMode) (l : List Nat) : rawSupply mode l ≤ l.sum := by
  unfold rawSupply
  split
  · exact Nat.sub_le _ _
  · exact Nat.le_refl _

theorem foldl_max_spec (l : List Nat) (m : Nat) : l.foldl max m ∈ m :: l ∧ ∀ a ∈ m :: l, a ≤ l.foldl max m := by
  induction l generalizing m with
  | nil => simp
  | cons a l ih =>
    obtain ⟨hm, hle⟩ := ih (max m a)
    rw [List.foldl_cons]
    refine ⟨?_, fun b hb => ?_⟩
    · rcases List.mem_cons.1 hm with h | h
      · rcases Nat.le_total m a with hma | hma
        · rw [h, Nat.max_eq_right hma]; simp
        · rw [h, Nat.max_eq_left hma]; simp
      · exact List.mem_cons_of_mem _ (List.mem_cons_of_mem _ h)
    · have hmax := hle _ List.mem_cons_self
      rcases List.mem_cons.1 hb with rfl | hb
      · exact (Nat.le_max_left _ _).trans hmax
      · rcases List.mem_cons.1 hb with rfl | hb
        · exact (Nat.le_max_right _ _).trans hmax
        · exact hle _ (List.mem_cons_of_mem _ hb)

/-- R135: in Spare-One one largest rating is left out. -/
theorem rawSupply_leaves_largest {α : Type} (f : α → Nat) {l : List α} (h : 2 ≤ l.length) :
    ∃ k ∈ l, (∀ j ∈ l, f j ≤ f k) ∧ rawSupply .spareOne (l.map f) + f k = (l.map f).sum := by
  obtain ⟨hm, hle⟩ := foldl_max_spec (l.map f) 0
  have hk : ∃ k ∈ l, f k = (l.map f).foldl max 0 := by
    rcases List.mem_cons.1 hm with h0 | hm
    · obtain ⟨k, hk⟩ := List.exists_mem_of_length_pos (Nat.lt_of_lt_of_le Nat.zero_lt_two h)
      have := hle _ (List.mem_cons_of_mem _ (List.mem_map_of_mem (f := f) hk))
      exact ⟨k, hk, by omega⟩
    · exact List.mem_map.1 hm
  obtain ⟨k, hk, he⟩ := hk
  refine ⟨k, hk, fun j hj => he ▸ hle _ (List.mem_cons_of_mem _ (List.mem_map_of_mem hj)), ?_⟩
  have : f k ≤ (l.map f).sum := List.le_sum_of_mem (List.mem_map_of_mem hk)
  rw [rawSupply_spareOne (by rwa [List.length_map]), ← he]
  omega

theorem derate_eq (w : PowerCfg) (t : Int) :
    (derate w t : Int) = if t ≤ w.knee then 1000 else max 500 (1000 - w.slope * (t - w.knee)) := by
  unfold derate
  split
  · rfl
  · obtain ⟨k, hk⟩ := Int.eq_ofNat_of_zero_le (show 0 ≤ t - w.knee by omega)
    rw [hk]
    have : (w.slope : Int) * (k : Int) = ((w.slope * k : Nat) : Int) := by push_cast; rfl
    rw [this, Int.toNat_natCast]
    omega

theorem derate_le (w : PowerCfg) (t : Int) : derate w t ≤ 1000 := by
  unfold derate
  split <;> omega

theorem PwrInputs.inletT_trusted {i : PwrInputs} {v : Int} (w : PowerCfg) (ht : i.trust = .trusted) (hv : i.inlet = some v) :
    i.inletT w = v := by
  unfold PwrInputs.inletT
  rw [ht, hv]

theorem PwrInputs.inletT_untrusted {i : PwrInputs} (w : PowerCfg) (h : i.trust ≠ .trusted ∨ i.inlet = none) :
    i.inletT w = w.untrustedInlet := by
  unfold PwrInputs.inletT
  split
  · rename_i ht hv
    rcases h with h | h
    · exact absurd ht h
    · rw [h] at hv; cases hv
  · rfl

theorem PwrInputs.budget_le (i : PwrInputs) (cfg : Settings) :
    (i.stages cfg).budget cfg.power ≤ (i.goodRatings cfg.supply).sum := by
  have hraw := rawSupply_le cfg.supply.mode (i.goodRatings cfg.supply)
  have hel : rawSupply cfg.supply.mode (i.goodRatings cfg.supply) * derate cfg.power (i.inletT cfg.power) / 1000 ≤
      rawSupply cfg.supply.mode (i.goodRatings cfg.supply) :=
    Nat.div_le_of_le_mul (by rw [Nat.mul_comm]; exact Nat.mul_le_mul_right _ (derate_le _ _))
  unfold Stages.budget PwrInputs.stages
  dsimp only
  split <;> omega

theorem PwrInputs.redundancyLost_iff (i : PwrInputs) (cfg : Settings) : i.redundancyLost cfg = true ↔
    i.settled = true ∧ cfg.supply.mode = .spareOne ∧ (i.goodRatings cfg.supply).length < 2 := by
  simp [PwrInputs.redundancyLost, and_assoc]

/-- R139: the four parts of the demand. -/
theorem Chassis.demand_eq (x : Ctx) (c : Chassis) : c.demand x =
    x.cfg.power.chassisBase + c.pwr.inputs.blades * x.cfg.power.bladeBase + c.pwr.inputs.present * x.cfg.power.trayDraw
      + ((List.finRange 256).map fun p => x.cfg.power.drawOf (c.port p).granted).sum := by
  unfold Chassis.demand
  rw [Chassis.portDraw_eq, ← List.sum_ofFn, List.ofFn_eq_map]

/-! ## What an evaluation forms and asks of the alarm unit (R143) -/

/-- The keys under which grace bindings, the wait list and the shed pass ask. -/
def passKeys : List (AlarmKind × Nat) := [(.graceRunning, 0), (.powerWait, 0), (.powerShedActive, 0)]

theorem mem_passKeys {k : AlarmKind} (h : chassisKind k = true) : (k, 0) ∈ passKeys := by
  revert h
  cases k <;> simp [chassisKind, passKeys]

/-- The budget is formed of the inputs `i`, and since then alarms of passes alone have moved. -/
structure Chassis.Formed (x : Ctx) (i : PwrInputs) (a : Alm) (c : Chassis) : Prop where
  inputs : c.pwr.inputs = i
  stages : c.pwr.stages = some (i.stages x.cfg)
  budget : c.pwr.budget = (i.stages x.cfg).budget x.cfg.power
  redundancyLost : c.pwr.redundancyLost = i.redundancyLost x.cfg
  alm : Alm.Touch passKeys passKeys a c.alm

theorem Chassis.Formed.of_eq {x : Ctx} {i : PwrInputs} {a : Alm} {c d : Chassis} (h : c.Formed x i a) (hp : d.pwr = c.pwr)
    (ha : d.alm = c.alm) : d.Formed x i a :=
  ⟨hp ▸ h.inputs, hp ▸ h.stages, hp ▸ h.budget, hp ▸ h.redundancyLost, ha ▸ h.alm⟩

/-- Nothing in an evaluation changes what it has formed. -/
theorem Chassis.formed_closed (x : Ctx) (i : PwrInputs) (a : Alm) :
    Chassis.ClosedEval x (fun _ => True) (Chassis.Formed x i a) where
  of_granted _ _ _ _ := trivial
  of_waiting _ _ _ _ := trivial
  of_counted _ _ _ _ := trivial
  of_seatWait _ _ _ _ := trivial
  port _ _ _ _ _ h := h.of_eq rfl rfl
  lower _ _ _ _ _ h := h.of_eq rfl rfl
  take c p g _ h := h.of_eq (Chassis.takeGrant_pwr x p g c) (by unfold Chassis.takeGrant; rw [Chassis.putControl_alm]; rfl)
  joinWait _ _ _ _ h := ⟨h.inputs, h.stages, h.budget, h.redundancyLost, h.alm⟩
  pwr _ _ hw h := ⟨hw.inputs.trans h.inputs, hw.stages.trans h.stages, hw.budget.trans h.budget,
    hw.redundancyLost.trans h.redundancyLost, h.alm⟩
  episode _ _ h := ⟨h.inputs, h.stages, h.budget, h.redundancyLost, h.alm⟩
  form c h := by
    have hj : c.alm.judge x .redundancyLost 0 c.pwr.redundancyLost (c.pwr.inputs.redundancyLost x.cfg) = c.alm := by
      rw [h.redundancyLost, h.inputs]
      cases i.redundancyLost x.cfg <;> rfl
    exact ⟨h.inputs, by rw [← h.inputs]; rfl, by rw [← h.inputs]; rfl, by rw [← h.inputs]; rfl,
      (show (c.formBudget x).alm = c.alm from hj) ▸ h.alm⟩
  count _ _ h := ⟨h.inputs, h.stages, h.budget, h.redundancyLost, h.alm⟩
  control c p k _ h := h.of_eq (by rw [Chassis.putControl_pwr]) (by rw [Chassis.putControl_alm])
  logins _ _ _ h := h.of_eq rfl rfl
  alarm_raise c k hk h := ⟨h.inputs, h.stages, h.budget, h.redundancyLost, h.alm.trans
    ((Alm.Touch.raise x k 0 c.alm).mono (by simpa using mem_passKeys hk) (by simpa using mem_passKeys hk))⟩
  alarm_clear c k hk h := ⟨h.inputs, h.stages, h.budget, h.redundancyLost, h.alm.trans
    ((Alm.Touch.clear x k 0 c.alm).mono (by simpa using mem_passKeys hk) (List.nil_subset _))⟩
  running _ _ h := h.of_eq rfl rfl
  bind _ _ _ _ _ h := h.of_eq rfl rfl
  unbind _ _ _ _ h := h.of_eq rfl rfl
  grace c p n _ h := h.of_eq (by rw [Chassis.setGrace_pwr]) (by rw [Chassis.setGrace_alm])
  joinSeat _ _ _ h := h.of_eq rfl rfl
  leaveSeat _ _ _ h := h.of_eq rfl rfl
  due _ _ h := h.of_eq rfl rfl

theorem Chassis.formBudget_formed (x : Ctx) (c : Chassis) : (c.formBudget x).Formed x c.pwr.inputs (c.formBudget x).alm :=
  ⟨rfl, rfl, rfl, rfl, .refl ..⟩

theorem Chassis.evaluateWith_formed {x : Ctx} {pass : Chassis → Chassis} {c : Chassis} (hs : c.pwr.inputs.settled = true)
    (hp : ∀ d, d.Formed x c.pwr.inputs (c.formBudget x).alm → (pass d).Formed x c.pwr.inputs (c.formBudget x).alm) :
    (c.evaluateWith x pass).Formed x c.pwr.inputs (c.formBudget x).alm := by
  have hP := Chassis.formed_closed x c.pwr.inputs (c.formBudget x).alm
  unfold Chassis.evaluateWith
  rw [if_pos hs]
  exact hP.judgePowerWait (hP.closeEpisode (hP.shedOrGrant (hP.keep (fun _ h => h) hp) (c.formBudget_formed x)))

theorem Chassis.evaluate_formed (x : Ctx) (c : Chassis) (hs : c.pwr.inputs.settled = true) :
    (c.evaluate x).Formed x c.pwr.inputs (c.formBudget x).alm := by
  have hP := Chassis.formed_closed x c.pwr.inputs (c.formBudget x).alm
  unfold Chassis.evaluate
  exact Chassis.evaluateWith_formed hs fun _ => hP.bindingPass (hP.keep (fun _ h => h) fun _ => hP.markPass)

end Sys2Proof.Machine

/-! # The shed pass and the episode (O50) -/

namespace Sys2Proof.Machine

/-! ## The shed order (R144) -/

theorem rank_le_of_lowest {α : Type} {rank : α → Nat} {a : α} : ∀ {l : List α}, lowest rank l = some a → ∀ b ∈ l, rank a ≤ rank b
  | [], h => by cases h
  | d :: ds, h => by
    intro b hb
    unfold lowest at h
    split at h
    · rename_i hn
      cases h
      rw [lowest_eq_none hn] at hb
      rw [List.mem_singleton.1 hb]
    · rename_i e he
      have ih := rank_le_of_lowest he
      split at h
      · cases h
        rcases List.mem_cons.1 hb with rfl | hb
        · exact Nat.le_of_lt ‹_›
        · exact ih b hb
      · cases h
        rcases List.mem_cons.1 hb with rfl | hb
        · exact Nat.le_refl _
        · exact (Nat.le_of_not_lt ‹_›).trans (ih b hb)

/-- R144: `p` stands before `q` in the shed order. -/
def Chassis.ShedsBefore (x : Ctx) (c : Chassis) (p q : PortId) : Prop :=
  (x.cfg.port p).priority < (x.cfg.port q).priority ∨
    ((x.cfg.port p).priority = (x.cfg.port q).priority ∧
      (((c.port p).state ≠ .online ∧ (c.port q).state = .online) ∨
        (((c.port p).state = .online ↔ (c.port q).state = .online) ∧ q.val < p.val)))

theorem Chassis.shedsBefore_of_rank {x : Ctx} {c : Chassis} {p q : PortId} (hpq : p ≠ q)
    (h : shedRank (x.cfg.port p).priority (c.port p).state p ≤ shedRank (x.cfg.port q).priority (c.port q).state q) :
    c.ShedsBefore x p q := by
  have hv : p.val ≠ q.val := fun hv => hpq (Fin.ext hv)
  have hp := p.isLt
  have hq := q.isLt
  unfold Chassis.ShedsBefore
  unfold shedRank at h
  by_cases ho : (c.port p).state = .online <;> by_cases hr : (c.port q).state = .online
  · simp only [ho, hr, if_true, ne_eq, not_true_eq_false, false_and, false_or, true_and] at h ⊢
    omega
  · simp only [ho, hr, if_true, if_false, ne_eq, not_true_eq_false, false_and, or_false, and_false, iff_false] at h ⊢
    omega
  · simp only [ho, hr, if_true, if_false, ne_eq, not_false_eq_true, true_or, and_true] at h ⊢
    omega
  · simp only [ho, hr, if_false, ne_eq, not_false_eq_true, and_false, false_or, true_and] at h ⊢
    omega

/-- A grant that may be revoked. -/
def Chassis.Sheddable (x : Ctx) (c : Chassis) (p : PortId) : Prop :=
  (c.port p).granted.isSome = true ∧ (x.cfg.port p).priority ≤ 6

theorem Chassis.shedsBefore_of_nextShed {x : Ctx} {c : Chassis} {p q : PortId} (h : c.nextShed x = some p)
    (hq : c.Sheddable x q) (hpq : q ≠ p) : c.ShedsBefore x p q := by
  refine Chassis.shedsBefore_of_rank (Ne.symm hpq) (rank_le_of_lowest h q (List.mem_filter.2 ⟨List.mem_finRange q, ?_⟩))
  simpa [Chassis.Sheddable] using hq

/-! ## One revocation (R145) -/

/-- What the revocation of a port in LINK-WAIT or ONLINE leaves. -/
structure Chassis.ShedStep (x : Ctx) (p : PortId) (c d : Chassis) : Prop where
  port : d.port p = { c.port p with state := .shed, granted := none, negotiated := none }
  same : ∀ q, q ≠ p → d.port q = c.port q
  slot : x.linkUp = true → (p, Control.disable) ∈ d.slots
  slots : ∀ v ∈ c.slots, v.1 ≠ p → v ∈ d.slots
  logins : d.logins = c.logins.filter fun e => e.port != p
  waits : d.pwr.waitList.map (fun e => (e.port, e.kind)) = c.pwr.waitList.map (fun e => (e.port, e.kind)) ++ [(p, .shed)]
  inputs : d.pwr.inputs = c.pwr.inputs
  budget : d.pwr.budget = c.pwr.budget
  holdoff : d.pwr.holdoff = c.pwr.holdoff
  episode : d.pwr.episode = c.pwr.episode
  alm : d.alm = c.alm
  grace : d.grace = c.grace
  seatWait : d.seatWait = c.seatWait

theorem renumber_portKinds (ws : List WaitEntry) :
    (renumber ws).map (fun e => (e.port, e.kind)) = ws.map fun e => (e.port, e.kind) := by
  rw [renumber, List.map_map]
  exact (List.map_map (g := fun e : WaitEntry => (e.port, e.kind)) (f := Prod.fst) (l := ws.zipIdx)).symm.trans
    (by rw [List.zipIdx_map_fst])

theorem Chassis.joinWait_portKinds (x : Ctx) (c : Chassis) (p : PortId) (k : WaitKind) :
    (c.joinWait x p k).pwr.waitList.map (fun e => (e.port, e.kind)) =
      c.pwr.waitList.map (fun e => (e.port, e.kind)) ++ [(p, k)] := by
  have hws : (if decide (Config.joinMax < c.pwr.nextJoin) = true then renumber c.pwr.waitList else c.pwr.waitList).map
      (fun e => (e.port, e.kind)) = c.pwr.waitList.map fun e => (e.port, e.kind) := by
    split
    · exact renumber_portKinds _
    · rfl
  unfold Chassis.joinWait
  dsimp only [Chassis.setPwr]
  rw [List.map_append, hws]
  rfl

theorem Chassis.revoke_shedStep (x : Ctx) (h : Hooks) (p : PortId) (c : Chassis)
    (hr : (c.port p).state = .linkWait ∨ (c.port p).state = .online) : c.ShedStep x p (c.revoke x h p) := by
  have he : c.revoke x h p = (((c.setPort p { c.port p with state := .shed, granted := none, negotiated := none }).putControl
      x p .disable).removeLogins p).joinWait x p .shed := by
    unfold Chassis.revoke
    rcases hr with hr | hr <;> simp only [hr]
  rw [he]
  have hport (q : PortId) : ((((c.setPort p { c.port p with state := .shed, granted := none, negotiated := none }).putControl
      x p .disable).removeLogins p).joinWait x p .shed).port q =
      (c.setPort p { c.port p with state := .shed, granted := none, negotiated := none }).port q :=
    congrArg (·[q.val]) (Chassis.putControl_ports ..)
  have hpwr : (Chassis.putControl x p .disable (c.setPort p
      { c.port p with state := .shed, granted := none, negotiated := none })).pwr = c.pwr := Chassis.putControl_pwr ..
  refine
    { port := by rw [hport, Chassis.port_setPort_self]
      same := fun q hq => by rw [hport, Chassis.port_setPort_ne _ _ hq]
      slot := fun hx => ?_
      slots := fun v hv hp => ?_
      logins := congrArg (List.filter _) (Chassis.putControl_logins ..)
      waits := ?_
      inputs := Eq.trans (by rfl) (congrArg Pwr.inputs hpwr)
      budget := Eq.trans (by rfl) (congrArg Pwr.budget hpwr)
      holdoff := Eq.trans (by rfl) (congrArg Pwr.holdoff hpwr)
      episode := Eq.trans (by rfl) (congrArg Pwr.episode hpwr)
      alm := Chassis.putControl_alm ..
      grace := Chassis.putControl_grace ..
      seatWait := Chassis.putControl_seatWait .. }
  · show _ ∈ (Chassis.putControl x p .disable _).slots
    unfold Chassis.putControl
    rw [if_pos hx]
    exact mem_placeSlot_self ..
  · show _ ∈ (Chassis.putControl x p .disable _).slots
    unfold Chassis.putControl
    split
    · exact mem_placeSlot_of_ne hv hp
    · exact hv
  · rw [Chassis.joinWait_portKinds]
    exact congrArg (fun w : Pwr => w.waitList.map (fun e => (e.port, e.kind)) ++ [(p, .shed)]) hpwr

/-- R139: a revocation takes the port's draw from the demand. -/
theorem Chassis.ShedStep.demand {x : Ctx} {p : PortId} {c d : Chassis} (h : c.ShedStep x p d) :
    d.demand x + x.cfg.power.drawOf (c.port p).granted = c.demand x := by
  have hdraw (q : PortId) : x.cfg.power.drawOf (c.port q).granted = x.cfg.power.drawOf (d.port q).granted +
      if q = p then x.cfg.power.drawOf (c.port p).granted else 0 := by
    split
    · rename_i hq
      rw [hq, h.port]
      exact (Nat.zero_add _).symm
    · rename_i hq
      rw [h.same q hq]
      rfl
  have hpd : c.portDraw x = d.portDraw x + x.cfg.power.drawOf (c.port p).granted := by
    rw [Chassis.portDraw_eq, Chassis.portDraw_eq, Finset.sum_congr rfl fun q _ => hdraw q, Finset.sum_add_distrib,
      Finset.sum_ite_eq', if_pos (Finset.mem_univ _)]
  unfold Chassis.demand
  rw [h.inputs, hpd]
  exact Nat.add_assoc ..

/-! ## A run of revocations where no port drains (R144, R145) -/

/-- What the revocations of `ps`, in that order, leave. -/
structure Chassis.ShedRun (x : Ctx) (budget : Nat) (ps : List PortId) (c d : Chassis) : Prop where
  order : ps.Pairwise (c.ShedsBefore x)
  may : ∀ p ∈ ps, c.Sheddable x p
  rest : ∀ p q, p ∈ ps → q ∉ ps → c.Sheddable x q → c.ShedsBefore x p q
  port : ∀ p ∈ ps, d.port p = { c.port p with state := .shed, granted := none, negotiated := none }
  same : ∀ p, p ∉ ps → d.port p = c.port p
  last : ∀ p ∈ ps.getLast?, budget < d.demand x + x.cfg.power.drawOf (c.port p).granted
  slot : x.linkUp = true → ∀ p ∈ ps, (p, Control.disable) ∈ d.slots
  slots : ∀ v ∈ c.slots, v.1 ∉ ps → v ∈ d.slots
  logins : d.logins = c.logins.filter fun e => !ps.contains e.port
  waits : d.pwr.waitList.map (fun e => (e.port, e.kind)) =
    c.pwr.waitList.map (fun e => (e.port, e.kind)) ++ ps.map fun p => (p, .shed)
  inputs : d.pwr.inputs = c.pwr.inputs
  budget : d.pwr.budget = c.pwr.budget
  holdoff : d.pwr.holdoff = c.pwr.holdoff
  episode : d.pwr.episode = c.pwr.episode
  alm : d.alm = c.alm

namespace Chassis.ShedRun

variable {x : Ctx} {b : Nat} {p : PortId} {ps : List PortId} {c c' d : Chassis}

theorem nil (x : Ctx) (b : Nat) (c : Chassis) : c.ShedRun x b [] c :=
  { order := .nil, may := nofun, rest := nofun, port := nofun, same := fun _ _ => rfl, last := nofun, slot := nofun
    slots := fun _ hv _ => hv, logins := (List.filter_true _).symm, waits := (List.append_nil _).symm, inputs := rfl
    budget := rfl, holdoff := rfl, episode := rfl, alm := rfl }

theorem cons (h : c'.ShedRun x b ps d) (hs : c.ShedStep x p c') (hn : c.nextShed x = some p) (hb : b < c.demand x) :
    c.ShedRun x b (p :: ps) d := by
  have hp : p ∉ ps := fun hp => by
    have := (h.may p hp).1
    rw [hs.port] at this
    cases this
  have hne {q : PortId} (hq : q ∈ ps) : q ≠ p := fun he => hp (he ▸ hq)
  have hmay {q : PortId} (hq : q ≠ p) : c'.Sheddable x q ↔ c.Sheddable x q := by
    unfold Chassis.Sheddable
    rw [hs.same q hq]
  have hbefore {q r : PortId} (hq : q ≠ p) (hr : r ≠ p) : c'.ShedsBefore x q r ↔ c.ShedsBefore x q r := by
    unfold Chassis.ShedsBefore
    rw [hs.same q hq, hs.same r hr]
  exact
    { order := List.pairwise_cons.2 ⟨fun q hq => Chassis.shedsBefore_of_nextShed hn ((hmay (hne hq)).1 (h.may q hq)) (hne hq),
        h.order.imp_of_mem fun hq hr => (hbefore (hne hq) (hne hr)).1⟩
      may := fun q hq => by
        rcases List.mem_cons.1 hq with rfl | hq
        · exact Chassis.of_nextShed hn
        · exact (hmay (hne hq)).1 (h.may q hq)
      rest := fun q r hq hr hmr => by
        obtain ⟨hrp, hr⟩ := not_or.1 (mt List.mem_cons.2 hr)
        rcases List.mem_cons.1 hq with rfl | hq
        · exact Chassis.shedsBefore_of_nextShed hn hmr hrp
        · exact (hbefore (hne hq) hrp).1 (h.rest q r hq hr ((hmay hrp).2 hmr))
      port := fun q hq => by
        rcases List.mem_cons.1 hq with rfl | hq
        · rw [h.same _ hp, hs.port]
        · rw [h.port q hq, hs.same q (hne hq)]
      same := fun q hq => by
        obtain ⟨hqp, hq⟩ := not_or.1 (mt List.mem_cons.2 hq)
        rw [h.same q hq, hs.same q hqp]
      last := fun q hq => by
        cases ps with
        | nil =>
          obtain rfl : p = q := by simpa using hq
          have hd : d.demand x = c'.demand x := by
            unfold Chassis.demand Chassis.portDraw
            rw [h.inputs, show d.ports = c'.ports from Vector.ext fun i hi => h.same ⟨i, hi⟩ List.not_mem_nil]
          rw [hd, hs.demand]
          exact hb
        | cons a as =>
          rw [List.getLast?_cons_cons] at hq
          rw [← hs.same q (hne (List.mem_of_getLast? hq))]
          exact h.last q hq
      slot := fun hx q hq => by
        rcases List.mem_cons.1 hq with rfl | hq
        · exact h.slots _ (hs.slot hx) hp
        · exact h.slot hx q hq
      slots := fun v hv hvp => by
        obtain ⟨hne, hvp⟩ := not_or.1 (mt List.mem_cons.2 hvp)
        exact h.slots v (hs.slots v hv hne) hvp
      logins := by
        rw [h.logins, hs.logins, List.filter_filter]
        refine List.filter_congr fun e _ => ?_
        rw [List.contains_cons, Bool.not_or, Bool.and_comm]
        rfl
      waits := by rw [h.waits, hs.waits, List.append_assoc]; rfl
      inputs := h.inputs.trans hs.inputs
      budget := h.budget.trans hs.budget
      holdoff := h.holdoff.trans hs.holdoff
      episode := h.episode.trans hs.episode
      alm := h.alm.trans hs.alm }

end Chassis.ShedRun

/-- Every grant is that of a port in LINK-WAIT or ONLINE. -/
def Chassis.NoDrainGrants (c : Chassis) : Prop :=
  ∀ p, (c.port p).granted.isSome = true → (c.port p).state = .linkWait ∨ (c.port p).state = .online

theorem Chassis.ShedStep.noDrainGrants {x : Ctx} {p : PortId} {c d : Chassis} (h : c.ShedStep x p d) (hc : c.NoDrainGrants) :
    d.NoDrainGrants := by
  intro q hq
  by_cases hqp : q = p
  · rw [hqp, h.port] at hq
    cases hq
  · rw [h.same q hqp] at hq ⊢
    exact hc q hq

theorem Chassis.exists_shedRun (x : Ctx) (h : Hooks) (b n : Nat) : ∀ (c : Chassis) (any : Bool), c.NoDrainGrants →
    ∃ ps, c.ShedRun x b ps (c.shedLoop x h b n any).1 ∧ (c.shedLoop x h b n any).2 = (any || !ps.isEmpty) := by
  induction n with
  | zero => exact fun c any _ => ⟨[], .nil x b c, (Bool.or_false _).symm⟩
  | succ n ih =>
    intro c any hc
    unfold Chassis.shedLoop
    split
    · exact ⟨[], .nil x b c, (Bool.or_false _).symm⟩
    · rename_i hd
      cases hn : c.nextShed x with
      | none => exact ⟨[], .nil x b c, (Bool.or_false _).symm⟩
      | some p =>
        have hs := c.revoke_shedStep x h p (hc p (Chassis.of_nextShed hn).1)
        obtain ⟨ps, hrun, hany⟩ := ih _ true (hs.noDrainGrants hc)
        exact ⟨p :: ps, hrun.cons hs hn (Nat.lt_of_not_le hd), hany.trans (by simp)⟩

end Sys2Proof.Machine

/-! # The evaluation settles O50 -/

namespace Sys2Proof.Machine

/-! ## The episode (R146) -/

/-- R148: the Power Wait judgement asks under its own key. -/
theorem Chassis.judgePowerWait_touch (x : Ctx) (c : Chassis) :
    Alm.Touch [(.powerWait, 0)] [(.powerWait, 0)] c.alm (c.judgePowerWait x).alm := by
  have hr := Alm.Touch.raise x .powerWait 0 c.alm
  have hc := (Alm.Touch.clear x .powerWait 0 c.alm).mono (List.Subset.refl _) (List.nil_subset [(.powerWait, 0)])
  unfold Chassis.judgePowerWait
  split
  · dsimp only
    split
    · exact hc
    · exact .refl ..
  · split <;> dsimp only <;> split
    · exact .refl ..
    · exact hr
    · exact hc
    · exact .refl ..

/-- A property that every move keeps is kept by shed passes and binding passes. -/
theorem Chassis.Moves.served {x : Ctx} {P : Chassis → Prop} (hP : Chassis.Moves x (fun _ => True) P)
    (hl : ∀ (c : Chassis) p g, P c →
      P (c.setPort p { c.port p with granted := some g, state := .linkWait, negotiated := none })) : Chassis.Served x P := by
  have keep {h : Hooks} (hh : h.Keeps P) : h.Keep x (fun _ => True) P :=
    ⟨hh.eval, hh.pass, fun c p g _ _ hc => hh.eval _ (hP.logins _ p trivial (hP.control _ p (.enable g) trivial (hl c p g hc)))⟩
  refine ⟨hP.due, fun h c p hh _ hc => hP.revoke (keep hh) trivial hc, fun h c p hh hc => ?_, fun h c p hh hc => ?_⟩
  · unfold Chassis.serveGrace
    split
    · split
      · rename_i l hl
        exact hP.seatNotice (keep hh) trivial (hP.grace _ _ _ trivial (hP.bind _ _ _ trivial hl hc)) _ _
      · exact hc
    · exact hc
  · unfold Chassis.serveWaiting
    split
    · split
      · rename_i l hl
        exact hP.seatBound (keep hh) trivial (hP.bind _ _ _ trivial (by exact hl) (hP.leaveSeat _ _ trivial hc)) _ _
      · exact hc
    · exact hc

/-- An episode is open. -/
def Chassis.EpisodeOpen (c : Chassis) : Prop := c.pwr.episode = true

theorem Chassis.episode_moves (x : Ctx) : Chassis.Moves x (fun _ => True) Chassis.EpisodeOpen where
  port _ _ _ _ _ h := h
  joinWait _ _ _ _ h := h
  pwr _ _ hw h := hw.episode.trans h
  count _ _ h := h
  control _ _ _ _ h := by unfold Chassis.EpisodeOpen; rw [Chassis.putControl_pwr]; exact h
  logins _ _ _ h := h
  alarm_raise _ _ _ h := h
  alarm_clear _ _ _ h := h
  running _ _ h := h
  bind _ _ _ _ _ h := h
  unbind _ _ _ _ h := h
  grace _ _ _ _ h := by unfold Chassis.EpisodeOpen; rw [Chassis.setGrace_pwr]; exact h
  joinSeat _ _ _ h := h
  leaveSeat _ _ _ h := h
  due _ _ h := h

/-- R146: an open episode stays open through shed pass and grant pass. -/
theorem Chassis.shedOrGrant_episode {x : Ctx} {pass : Chassis → Chassis} {c : Chassis}
    (hp : ∀ d, d.EpisodeOpen → (pass d).EpisodeOpen) (hc : c.EpisodeOpen) : (c.shedOrGrant x ⟨id, pass⟩).EpisodeOpen := by
  have hs := (Chassis.episode_moves x).served fun _ _ _ h => h
  have hl := hs.shedLoop (h := ⟨id, pass⟩) ⟨fun _ h => h, hp⟩ c.pwr.budget 256 false hc
  unfold Chassis.shedOrGrant
  split
  · unfold Chassis.shedPass
    dsimp only
    split
    · unfold Chassis.openEpisode
      split
      · rfl
      · exact hl
    · exact hl
  · split
    · refine List.foldlRecOn (motive := Chassis.EpisodeOpen) _ _ hc fun d hd e _ => ?_
      rcases d.offerGrant_cases x e with ⟨-, h⟩ | ⟨-, h, -⟩ | ⟨-, g, -, -, -, h⟩
      · rw [h]; exact hd
      · rw [h]; exact hd
      · exact h.episode.trans hd
    · exact hc

theorem Chassis.closeEpisode_of_shed {x : Ctx} {c : Chassis} (h : c.pwr.hasShed = true) : c.closeEpisode x = c := by
  unfold Chassis.closeEpisode
  rw [h, Bool.not_true, Bool.and_false]
  rfl

/-- R146: an episode is open only where a SHED entry stands. -/
theorem Chassis.closeEpisode_hasShed {x : Ctx} {c : Chassis} (h : (c.closeEpisode x).pwr.episode = true) :
    (c.closeEpisode x).pwr.hasShed = true := by
  unfold Chassis.closeEpisode at h ⊢
  split
  · rename_i hs
    rw [if_pos hs] at h
    cases h
  · rename_i hs
    rw [if_neg hs] at h
    by_contra hn
    exact hs (by rw [h, Bool.eq_false_iff.2 hn]; rfl)

theorem Pwr.hasShed_iff (w : Pwr) : w.hasShed = true ↔ ∃ e ∈ w.waitList, e.kind = .shed := by
  simp [Pwr.hasShed]

theorem Chassis.evaluate_episode {x : Ctx} {c : Chassis} (hs : c.pwr.inputs.settled = true)
    (h : (c.evaluate x).pwr.episode = true) : ∃ e ∈ (c.evaluate x).pwr.waitList, e.kind = .shed := by
  unfold Chassis.evaluate Chassis.evaluateWith at h ⊢
  rw [if_pos hs] at h ⊢
  generalize (c.formBudget x).shedOrGrant x _ = d at h ⊢
  obtain ⟨a, b, w, hj⟩ := (d.closeEpisode x).judgePowerWait_frame x
  rw [hj] at h ⊢
  exact (Pwr.hasShed_iff _).1 (Chassis.closeEpisode_hasShed h)

/-- R146: an episode that closes has Power Shed Active cleared. -/
theorem Chassis.evaluateWith_closes {x : Ctx} {pass : Chassis → Chassis} {c : Chassis} (hs : c.pwr.inputs.settled = true)
    (hpass : ∀ d, d.Formed x c.pwr.inputs (c.formBudget x).alm → (pass d).Formed x c.pwr.inputs (c.formBudget x).alm)
    (hep : ∀ d, d.EpisodeOpen → (pass d).EpisodeOpen) (ha : c.alm.Ok) (hc : c.pwr.episode = true)
    (hd : (c.evaluateWith x pass).pwr.episode = false) : (c.evaluateWith x pass).alm.Ended .powerShedActive 0 := by
  have hP := Chassis.formed_closed x c.pwr.inputs (c.formBudget x).alm
  unfold Chassis.evaluateWith at hd ⊢
  rw [if_pos hs] at hd ⊢
  have hform := hP.shedOrGrant (hP.keep (h := ⟨id, pass⟩) (fun _ h => h) hpass) (c.formBudget_formed x)
  have hopen := Chassis.shedOrGrant_episode (x := x) (c := c.formBudget x) hep hc
  generalize (c.formBudget x).shedOrGrant x ⟨id, pass⟩ = d at hd hform hopen ⊢
  have hok : d.alm.Ok := hform.alm.ok ((Alm.Touch.judge x .redundancyLost 0 _ _ c.alm).ok ha)
  refine ((d.closeEpisode x).judgePowerWait_touch x).ended_iff (by decide) |>.2 ?_
  obtain ⟨a, b, w, hj⟩ := (d.closeEpisode x).judgePowerWait_frame x
  rw [hj] at hd
  have hclosed : (d.pwr.episode && !d.pwr.hasShed) = true := by
    by_contra hn
    have : d.closeEpisode x = d := by unfold Chassis.closeEpisode; exact if_neg hn
    rw [this] at hd
    exact absurd (hopen.symm.trans hd) nofun
  unfold Chassis.closeEpisode
  rw [if_pos hclosed]
  exact hok.clear_ended x .powerShedActive 0

theorem Chassis.evaluate_closes {x : Ctx} {c : Chassis} (hs : c.pwr.inputs.settled = true) (ha : c.alm.Ok)
    (hc : c.pwr.episode = true) (hd : (c.evaluate x).pwr.episode = false) : (c.evaluate x).alm.Ended .powerShedActive 0 := by
  have hP := Chassis.formed_closed x c.pwr.inputs (c.formBudget x).alm
  unfold Chassis.evaluate at hd ⊢
  exact Chassis.evaluateWith_closes hs (fun _ => hP.bindingPass (hP.keep (fun _ h => h) fun _ => hP.markPass))
    (fun _ => ((Chassis.episode_moves x).served fun _ _ _ h => h).bindingPass fun _ h => h) ha hc hd

/-! ## Redundancy Lost (R135) -/

theorem Chassis.evaluate_redundancy {x : Ctx} {c : Chassis} (hs : c.pwr.inputs.settled = true) :
    (c.pwr.redundancyLost = false → c.pwr.inputs.redundancyLost x.cfg = true → c.alm.entries.length < 64 →
      (c.evaluate x).alm.Stands .redundancyLost 0) ∧
    (c.alm.Ok → c.pwr.redundancyLost = true → c.pwr.inputs.redundancyLost x.cfg = false →
      (c.evaluate x).alm.Ended .redundancyLost 0) := by
  have ht := (c.evaluate_formed x hs).alm
  have hf : (c.formBudget x).alm = c.alm.judge x .redundancyLost 0 c.pwr.redundancyLost (c.pwr.inputs.redundancyLost x.cfg) := rfl
  refine ⟨fun ho hn hl => (ht.stands_iff (by decide)).2 ?_, fun ha ho hn => (ht.ended_iff (by decide)).2 ?_⟩
  · rw [hf, ho, hn]
    exact Alm.raise_stands hl
  · rw [hf, ho, hn]
    exact ha.clear_ended x .redundancyLost 0

/-! ## The shed pass of an evaluation (R144 to R146) -/

theorem Alm.raise_entries_le (x : Ctx) (k : AlarmKind) (n : Nat) (a : Alm) :
    (a.raise x k n).entries.length ≤ a.entries.length + 1 := by
  unfold Alm.raise
  split
  · exact Nat.le_succ _
  · split
    · rw [Alm.notifyAlarm_entries, List.length_append]
      exact Nat.le_refl _
    · split
      · exact Nat.le_succ _
      · rw [Alm.notifyAlarm_entries]
        exact Nat.le_succ _

theorem Alm.clear_entries_le (x : Ctx) (k : AlarmKind) (n : Nat) (a : Alm) :
    (a.clear x k n).entries.length ≤ a.entries.length := by
  have hrem : (Alm.freed x (Alm.notifyAlarm x k n .cleared (a.remove k n))).entries.length ≤ a.entries.length := by
    rw [Alm.freed_entries, Alm.notifyAlarm_entries]
    exact List.length_filter_le ..
  unfold Alm.clear
  split
  · exact Nat.le_refl _
  · split
    · exact Nat.le_refl _
    · split
      · rw [Alm.notifyAlarm_entries]
        exact (List.length_map ..).le
      · exact hrem
    · exact hrem

/-- The budget's judgement adds one entry at most. -/
theorem Chassis.formBudget_length_le (x : Ctx) (c : Chassis) :
    (c.formBudget x).alm.entries.length ≤ c.alm.entries.length + 1 := by
  show (c.alm.judge x .redundancyLost 0 _ _).entries.length ≤ _
  unfold Alm.judge
  split
  · exact Alm.raise_entries_le ..
  · exact (Alm.clear_entries_le ..).trans (Nat.le_succ _)
  · exact Nat.le_succ _

/-- R146: an episode that opens has Power Shed Active raised. -/
theorem Chassis.openEpisode_of_shed {x : Ctx} {c : Chassis} (h : c.pwr.hasShed = true) :
    ∃ a, c.openEpisode x = { c with alm := a, pwr := { c.pwr with episode := true } } ∧
      (c.pwr.episode = false → c.alm.entries.length < 64 → a.Stands .powerShedActive 0) := by
  cases he : c.pwr.episode with
  | true =>
    have hk : c.openEpisode x = c := by
      unfold Chassis.openEpisode
      rw [he, Bool.not_true, Bool.and_false]
      rfl
    exact ⟨c.alm, by rw [hk, ← he], nofun⟩
  | false =>
    have ho : (c.pwr.hasShed && !c.pwr.episode) = true := by rw [h, he]; rfl
    unfold Chassis.openEpisode
    rw [if_pos ho]
    exact ⟨_, rfl, fun _ hl => Alm.raise_stands hl⟩

/-- What the shed pass leaves, where no port drains. -/
theorem Chassis.shedPass_run {x : Ctx} {h : Hooks} {c : Chassis} (hc : c.NoDrainGrants) :
    ∃ ps e a ep ho, c.ShedRun x c.pwr.budget ps e ∧
      c.shedPass x h = { e with alm := a, pwr := { e.pwr with episode := ep, holdoff := ho } } ∧
      (ps = [] → ho = c.pwr.holdoff) ∧
      (ps ≠ [] → ho = some (x.clockMs + x.cfg.power.holdoffSecs * 1000) ∧ ep = true ∧
        (c.shedPass x h).pwr.hasShed = true ∧
        (c.pwr.episode = false → c.alm.entries.length < 64 → a.Stands .powerShedActive 0)) := by
  obtain ⟨ps, hrun, hany⟩ := Chassis.exists_shedRun x h c.pwr.budget 256 c false hc
  unfold Chassis.shedPass
  dsimp only
  generalize c.shedLoop x h c.pwr.budget 256 false = r at hrun hany ⊢
  cases ps with
  | nil =>
    rw [if_neg (by rw [hany]; exact nofun)]
    exact ⟨[], r.1, r.1.alm, _, _, hrun, rfl, fun _ => hrun.holdoff, fun h => absurd rfl h⟩
  | cons p ps =>
    have hshed : (r.1.setPwr { r.1.pwr with
        holdoff := some (x.clockMs + x.cfg.power.holdoffSecs * 1000) }).pwr.hasShed = true := by
      have hm : (p, WaitKind.shed) ∈ r.1.pwr.waitList.map fun e => (e.port, e.kind) := by
        rw [hrun.waits]
        exact List.mem_append_right _ List.mem_cons_self
      obtain ⟨e, he, hek⟩ := List.mem_map.1 hm
      exact (Pwr.hasShed_iff _).2 ⟨e, he, congrArg Prod.snd hek⟩
    rw [if_pos (by rw [hany]; rfl)]
    obtain ⟨a, ho, hst⟩ := Chassis.openEpisode_of_shed (x := x) hshed
    refine ⟨p :: ps, r.1, a, true, some (x.clockMs + x.cfg.power.holdoffSecs * 1000), hrun, by rw [ho]; rfl, nofun,
      fun _ => ⟨rfl, rfl, by rw [ho]; exact hshed, fun he hl => hst (hrun.episode.trans he) ?_⟩⟩
    show r.1.alm.entries.length < 64
    rw [hrun.alm]
    exact hl

/-- What an evaluation above the budget leaves, where no port drains. -/
theorem Chassis.evaluate_sheds {x : Ctx} {c : Chassis} (hs : c.pwr.inputs.settled = true)
    (hd : (c.formBudget x).pwr.budget < c.demand x) (hc : c.NoDrainGrants) :
    ∃ ps e a ep b w ho, (c.formBudget x).ShedRun x (c.formBudget x).pwr.budget ps e ∧
      c.evaluate x = { e with alm := a, pwr := { e.pwr with episode := ep, powerWait := b, waitTimer := w, holdoff := ho } } ∧
      (ps = [] → ho = c.pwr.holdoff) ∧
      (ps ≠ [] → ho = some (x.clockMs + x.cfg.power.holdoffSecs * 1000) ∧ ep = true ∧
        (c.pwr.episode = false → c.alm.entries.length < 63 → a.Stands .powerShedActive 0)) := by
  have hsg (h : Hooks) : (c.formBudget x).shedOrGrant x h = (c.formBudget x).shedPass x h := by
    unfold Chassis.shedOrGrant
    exact if_pos hd
  unfold Chassis.evaluate Chassis.evaluateWith
  rw [if_pos hs, hsg]
  generalize (⟨id, Chassis.bindingPass x id⟩ : Hooks) = h
  obtain ⟨ps, e, a, ep, ho, hrun, he, hnil, hcons⟩ := Chassis.shedPass_run (x := x) (h := h) (c := c.formBudget x) hc
  by_cases hps : ps = []
  · obtain ⟨a1, ep1, h1⟩ := ((c.formBudget x).shedPass x h).closeEpisode_frame x
    obtain ⟨a2, b, w, h2⟩ := (((c.formBudget x).shedPass x h).closeEpisode x).judgePowerWait_frame x
    exact ⟨ps, e, a2, ep1, b, w, ho, hrun, by rw [h2, h1, he], hnil, fun h => absurd hps h⟩
  · obtain ⟨hho, hep, hshed, hst⟩ := hcons hps
    rw [Chassis.closeEpisode_of_shed hshed]
    obtain ⟨a2, b, w, h2⟩ := ((c.formBudget x).shedPass x h).judgePowerWait_frame x
    refine ⟨ps, e, a2, ep, b, w, ho, hrun, by rw [h2, he], hnil, fun _ => ⟨hho, hep, fun hce hl => ?_⟩⟩
    have ht := ((c.formBudget x).shedPass x h).judgePowerWait_touch x
    rw [h2, he] at ht
    exact (ht.stands_iff (by decide)).2 (hst hce ((c.formBudget_length_le x).trans_lt (Nat.succ_lt_succ hl)))

/-- Settles O50: the stages by the model's branches, the rest by what an evaluation forms and by the run of its shed
pass. -/
theorem evaluationKeepsDemandInBudget : Obligations.EvaluationKeepsDemandInBudget := by
  unfold Obligations.EvaluationKeepsDemandInBudget
  refine ⟨fun i cfg => ?stages, fun x c => ⟨fun hs => ?unsettled, fun hs => ?formed, ?demand, fun hs => ?alarms⟩⟩
  case stages =>
    intro good sum st w
    have hlen : (i.goodRatings cfg.supply).length = good.length := by
      rw [i.goodRatings_eq]
      exact List.length_map ..
    have hsum : (i.goodRatings cfg.supply).sum = sum := by
      rw [i.goodRatings_eq]
      rfl
    refine ⟨fun h => ?_, fun hm hl => ?_, fun v ht hv => i.inletT_trusted _ ht hv, fun h => i.inletT_untrusted _ h,
      derate_eq .., rfl, rfl, rfl, rfl, hsum ▸ i.budget_le cfg, by rw [← hlen]; exact i.redundancyLost_iff cfg⟩
    · exact (rawSupply_sum (by rwa [hlen])).trans hsum
    · obtain ⟨k, hk, hmax, hraw⟩ := rawSupply_leaves_largest (fun k : SlotId => cfg.supply.ratings[k.val]) hl
      refine ⟨k, hk, hmax, ?_⟩
      show rawSupply cfg.supply.mode (i.goodRatings cfg.supply) + _ = _
      rw [hm, i.goodRatings_eq]
      exact hraw
  case unsettled =>
    unfold Chassis.evaluate Chassis.evaluateWith
    rw [if_neg (by rw [hs]; exact nofun)]
  case formed =>
    have hf := c.evaluate_formed x hs
    refine ⟨hf.inputs, hf.stages, hf.budget, hf.redundancyLost, ?_⟩
    show (c.evaluate x).Held x
    unfold Chassis.evaluate
    exact (Chassis.evaluateWith_held (Hooks.quiet_bindingPass x) hs).1
  case demand =>
    refine (c.demand_eq x).trans (congrArg _ (congrArg List.sum (List.map_congr_left fun p _ => ?_)))
    cases (c.port p).granted with
    | none => rfl
    | some g => cases g <;> rfl
  case alarms =>
    have hf := c.evaluate_formed x hs
    have hr := Chassis.evaluate_redundancy (x := x) hs
    refine ⟨fun ho hn hl => hr.1 ho (hf.redundancyLost ▸ hn) hl, fun ha ho hn => hr.2 ha ho (hf.redundancyLost ▸ hn),
      fun he => Chassis.evaluate_episode hs he, fun ha hc hd => Chassis.evaluate_closes hs ha hc hd, fun hb hg => ?_⟩
    have hbudget : (c.formBudget x).pwr.budget < c.demand x := hf.budget.symm.trans_lt hb
    obtain ⟨ps, e, a, ep, b, w, ho, hrun, heval, hnil, hcons⟩ := Chassis.evaluate_sheds hs hbudget hg
    have hlast (p : PortId) (hp : p ∈ ps.getLast?) :
        (c.evaluate x).pwr.budget < (c.evaluate x).demand x + x.cfg.power.drawOf (c.port p).granted := by
      rw [hf.budget, heval]
      exact hrun.last p hp
    refine ⟨ps, hrun.order, hrun.may, hrun.rest, ?_, ?_, hlast, ?_, ?_, ?_, ?_, ?_⟩ <;> rw [heval]
    · exact hrun.port
    · exact hrun.same
    · exact hrun.logins
    · exact hrun.slot
    · exact hrun.waits
    · exact hnil
    · exact hcons

end Sys2Proof.Machine

/-! # A port that gives its grant back: faults, drain ends, Port Disable (O13, O16, O28) -/

namespace Sys2Proof.Machine

/-! ## A port without a grant and off the wait lists -/

/-- A port without a grant, on neither wait list. -/
structure Chassis.Loose (p : PortId) (c : Chassis) : Prop where
  granted : (c.port p).granted = none
  off : c.onWaitList p = false
  seat : p ∉ c.seatWait

theorem Chassis.Loose.inert {p : PortId} {c : Chassis} (h : c.Loose p) (hb : (c.port p).binding ≠ .counted) : c.Inert p :=
  ⟨h.granted, h.off, h.seat, hb⟩

theorem Chassis.Loose.of_eq {p : PortId} {c d : Chassis} (h : c.Loose p) (hg : (d.port p).granted = none)
    (hw : d.pwr.waitList = c.pwr.waitList) (hs : d.seatWait = c.seatWait) : d.Loose p :=
  ⟨hg, by unfold Chassis.onWaitList; rw [hw]; exact h.off, hs ▸ h.seat⟩

theorem Chassis.Still.loose {p : PortId} {c d : Chassis} (h : c.Still p d) (hc : c.Loose p) : d.Loose p :=
  ⟨by rw [h.port]; exact hc.granted, h.off hc.off, fun hs => hc.seat (h.seat.1 hs)⟩

/-- What an evaluation leaves of a port that holds no grant and waits nowhere: all but a counted grace binding, which a
binding pass inside it may turn into a seat. -/
structure Chassis.Idle (p : PortId) (c d : Chassis) : Prop where
  loose : d.Loose p
  state : (d.port p).state = (c.port p).state
  negotiated : (d.port p).negotiated = (c.port p).negotiated
  binding : (d.port p).binding = (c.port p).binding ∨
    ((c.port p).binding = .counted ∧ ∃ id, (d.port p).binding = .licence id)
  logins : d.loginCount p = c.loginCount p
  slot : ∀ k, (p, k) ∈ d.slots ↔ (p, k) ∈ c.slots

theorem Chassis.Idle.of_still {p : PortId} {c d e : Chassis} (hd : c.Idle p d) (h : d.Still p e) : c.Idle p e :=
  ⟨h.loose hd.loose, by rw [h.port]; exact hd.state, by rw [h.port]; exact hd.negotiated,
    by rw [h.port]; exact hd.binding, h.logins.trans hd.logins, fun k => (h.slot k).trans (hd.slot k)⟩

theorem Chassis.ceilingFell_of_none {x : Ctx} {h : Hooks} {p : PortId} {c : Chassis} (hg : (c.port p).granted = none) :
    c.ceilingFell x h p = c := by
  unfold Chassis.ceilingFell
  simp only [hg]

/-- R87: the rebinding of a port without a grant. -/
theorem Chassis.rebind_of_loose {x : Ctx} {h : Hooks} {p : PortId} {c : Chassis} (l : LicenceRec)
    (hg : (c.port p).granted = none) :
    ((c.bindSeat l.id p).setGrace p 0).seatNotice x h p (.licence l.id) (some l.ceiling) =
      ((c.bindSeat l.id p).setGrace p 0).setPort p { c.port p with
        binding := .licence l.id, seatCeil := some l.ceiling
        effCeil := effective (x.cfg.port p).reqClass (some l.ceiling) } := by
  have hport : ((c.bindSeat l.id p).setGrace p 0).port p = c.port p := Chassis.setGrace_port ..
  unfold Chassis.seatNotice
  rw [hport, Chassis.ceilingFell_of_none (by rw [Chassis.port_setPort_self]; exact hg)]

theorem Chassis.Loose.tracked {p : PortId} {c : Chassis} (x : Ctx) : Chassis.Tracked x p (c.Idle p) where
  at_port _ _ h hd := hd.of_still h
  revoke _ d _ hg hd := by rw [hd.loose.granted] at hg; cases hg
  rebind h d l _ hb _ hd := by
    have hcb : (c.port p).binding = .counted := by
      rcases hd.binding with hc | ⟨-, id, hl⟩
      · exact hc.symm.trans hb
      · rw [hl] at hb; cases hb
    rw [Chassis.rebind_of_loose l hd.loose.granted]
    have hrec := Chassis.port_setPort_self ((d.bindSeat l.id p).setGrace p 0) p { d.port p with
      binding := .licence l.id, seatCeil := some l.ceiling, effCeil := effective (x.cfg.port p).reqClass (some l.ceiling) }
    exact
      { loose := hd.loose.of_eq (by rw [hrec]; exact hd.loose.granted)
          (congrArg Pwr.waitList (Chassis.setGrace_pwr (d.bindSeat l.id p) p 0)) (Chassis.setGrace_seatWait (d.bindSeat l.id p) p 0)
        state := by rw [hrec]; exact hd.state
        negotiated := by rw [hrec]; exact hd.negotiated
        binding := .inr ⟨hcb, l.id, by rw [hrec]⟩
        logins := by
          refine Eq.trans ?_ hd.logins
          unfold Chassis.loginCount
          rw [Chassis.setPort_logins, Chassis.setGrace_logins]
          rfl
        slot := fun k => by
          refine Iff.trans ?_ (hd.slot k)
          rw [Chassis.setPort_slots, Chassis.setGrace_slots]
          rfl }
  bind _ d _ _ hs _ hd := absurd hs hd.loose.seat

theorem Chassis.Loose.governed {p : PortId} {c : Chassis} (x : Ctx) : Chassis.Governed x (c.Idle p) :=
  (Chassis.Loose.tracked x).governed fun _ _ e he hm hb _ =>
    absurd (beq_iff_eq.2 he) (List.any_eq_false.1 hb.loose.off e hm)

theorem Chassis.Loose.idle {p : PortId} {c : Chassis} (h : c.Loose p) : c.Idle p c :=
  ⟨h, rfl, rfl, .inl rfl, rfl, fun _ => .rfl⟩

theorem Chassis.Loose.evaluate {p : PortId} {c : Chassis} (x : Ctx) (h : c.Loose p) : c.Idle p (c.evaluate x) :=
  (Chassis.Loose.governed x).evaluate h.idle

/-! ## Grant and seat given back (R141, R85) -/

theorem Chassis.leaveWait_off (x : Ctx) (p : PortId) (c : Chassis) : (c.leaveWait x p).onWaitList p = false := by
  obtain ⟨a, b, w, h⟩ := c.leaveWait_frame x p
  rw [h]
  exact List.any_eq_false.2 fun e he hp => by
    have := (List.mem_filter.1 he).2
    rw [beq_iff_eq.1 hp] at this
    simp at this

/-- R141: after a release the port holds no grant and stands off the grant wait list. -/
theorem Chassis.grantRelease_idle (x : Ctx) {p : PortId} {c : Chassis} (hs : p ∉ c.seatWait) :
    c.Idle p (c.grantRelease x (outer x) p) := by
  unfold Chassis.grantRelease
  split
  · rw [outer_eval]
    obtain ⟨a, b, w, hf⟩ := (c.setPort p { c.port p with granted := none }).leaveWait_frame x p
    have hport : ((c.setPort p { c.port p with granted := none }).leaveWait x p).port p = { c.port p with granted := none } := by
      rw [hf]
      exact Chassis.port_setPort_self ..
    have hl : ((c.setPort p { c.port p with granted := none }).leaveWait x p).Loose p :=
      ⟨by rw [hport], Chassis.leaveWait_off .., by rw [hf]; exact hs⟩
    have hi := hl.evaluate x
    refine ⟨hi.loose, hi.state.trans (by rw [hport]), hi.negotiated.trans (by rw [hport]), ?_, hi.logins.trans (by rw [hf]; rfl),
      fun k => (hi.slot k).trans (by rw [hf]; exact .rfl)⟩
    have hb := hi.binding
    rw [hport] at hb
    exact hb
  · rename_i h
    rw [Bool.or_eq_true, not_or, Bool.not_eq_true, Bool.not_eq_true, Option.isSome_eq_false_iff, Option.isNone_iff_eq_none] at h
    exact Chassis.Loose.idle ⟨h.2, h.1, hs⟩

/-- What a seat release leaves of a port without a grant. -/
structure Chassis.SeatFreed (p : PortId) (c d : Chassis) : Prop where
  loose : d.Loose p
  port : d.port p = { c.port p with binding := .none, seatCeil := none, effCeil := none }
  logins : d.loginCount p = c.loginCount p
  slot : ∀ k, (p, k) ∈ d.slots ↔ (p, k) ∈ c.slots

theorem Chassis.SeatFreed.of_still {p : PortId} {c d e : Chassis} (hd : c.SeatFreed p d) (h : d.Still p e) :
    c.SeatFreed p e :=
  ⟨h.loose hd.loose, h.port.trans hd.port, h.logins.trans hd.logins, fun k => (h.slot k).trans (hd.slot k)⟩

theorem Chassis.seatRelease_freed (x : Ctx) {p : PortId} {c : Chassis} (h : c.Loose p) :
    c.SeatFreed p (c.seatRelease x (outer x) p) := by
  have hclear : c.SeatFreed p (c.setPort p { c.port p with binding := .none, seatCeil := none, effCeil := none }) :=
    ⟨h.of_eq (by rw [Chassis.port_setPort_self]; exact h.granted) rfl rfl, Chassis.port_setPort_self .., rfl, fun _ => .rfl⟩
  unfold Chassis.seatRelease
  dsimp only
  split
  · exact hclear
  · rename_i id _
    rw [outer_pass]
    have hun : c.SeatFreed p (Chassis.unbindSeat id p
        (c.setPort p { c.port p with binding := .none, seatCeil := none, effCeil := none })) :=
      ⟨hclear.loose.of_eq hclear.loose.granted rfl rfl, hclear.port, hclear.logins, hclear.slot⟩
    exact hun.of_still ((hun.loose.inert (by rw [hun.port]; exact nofun)).pass x)
  · obtain ⟨g, b, hg⟩ := (c.setPort p { c.port p with binding := .none, seatCeil := none, effCeil := none }).setGrace_frame p 0
    rw [hg]
    exact ⟨hclear.loose.of_eq hclear.loose.granted rfl rfl, hclear.port, hclear.logins, hclear.slot⟩
  · exact ⟨hclear.loose.of_eq hclear.loose.granted rfl rfl, hclear.port, hclear.logins, hclear.slot⟩

/-! ## A port that asks for a grant (R141, R149) -/

/-- A port that has asked for a grant and has none. -/
structure Chassis.Asking (p : PortId) (c d : Chassis) : Prop where
  state : (d.port p).state = .powerWait
  granted : (d.port p).granted = none
  seat : p ∉ d.seatWait
  negotiated : (d.port p).negotiated = (c.port p).negotiated
  binding : (d.port p).binding ≠ .drainHold
  logins : d.loginCount p = c.loginCount p
  slot : ∀ k, (p, k) ∈ d.slots ↔ (p, k) ∈ c.slots

/-- A port that has asked for a grant, and may have got one. -/
structure Chassis.Asked (p : PortId) (c d : Chassis) : Prop where
  state : (d.port p).state = .linkWait ∨ ((d.port p).state = .powerWait ∧ ∀ k, (p, k) ∈ d.slots ↔ (p, k) ∈ c.slots)
  negotiated : (d.port p).negotiated = (c.port p).negotiated
  binding : (d.port p).binding ≠ .drainHold
  logins : d.loginCount p = c.loginCount p

theorem Chassis.Asking.asked {p : PortId} {c d : Chassis} (h : c.Asking p d) : c.Asked p d :=
  ⟨.inr ⟨h.state, h.slot⟩, h.negotiated, h.binding, h.logins⟩

theorem Chassis.asking_tracked (x : Ctx) (p : PortId) (c : Chassis) : Chassis.Tracked x p (c.Asking p) where
  at_port _ _ h hd := ⟨by rw [h.port]; exact hd.state, by rw [h.port]; exact hd.granted, fun hs => hd.seat (h.seat.1 hs),
    by rw [h.port]; exact hd.negotiated, by rw [h.port]; exact hd.binding, h.logins.trans hd.logins,
    fun k => (h.slot k).trans (hd.slot k)⟩
  revoke _ d _ hg hd := by rw [hd.granted] at hg; cases hg
  rebind h d l _ _ _ hd := by
    rw [Chassis.rebind_of_loose l hd.granted]
    obtain ⟨g, b, hf⟩ := (d.bindSeat l.id p).setGrace_frame p 0
    rw [hf]
    have hrec (c' : Chassis) := Chassis.port_setPort_self c' p { d.port p with
      binding := .licence l.id, seatCeil := some l.ceiling, effCeil := effective (x.cfg.port p).reqClass (some l.ceiling) }
    exact ⟨by rw [hrec]; exact hd.state, by rw [hrec]; exact hd.granted, hd.seat, by rw [hrec]; exact hd.negotiated,
      by rw [hrec]; exact nofun, hd.logins, hd.slot⟩
  bind _ d _ _ hs _ hd := absurd hs hd.seat

theorem Chassis.asked_local (p : PortId) (c : Chassis) : Chassis.Local p (c.Asked p) := fun d e h hd =>
  ⟨by rw [h.port]; exact hd.state.imp id fun hs => ⟨hs.1, fun k => (h.slot k).trans (hs.2 k)⟩,
    by rw [h.port]; exact hd.negotiated, by rw [h.port]; exact hd.binding, h.logins.trans hd.logins⟩

theorem Chassis.Asked.grantPass {p : PortId} {c d : Chassis} (x : Ctx) (hd : c.Asked p d) : c.Asked p (d.grantPass x) := by
  refine List.foldlRecOn (motive := c.Asked p) _ _ hd fun d hd e _ => ?_
  by_cases he : e.port = p
  · rcases d.offerGrant_cases x e with ⟨-, h⟩ | ⟨-, h, -⟩ | ⟨-, g, -, -, -, h⟩
    · rw [h]; exact hd
    · rw [h]; exact hd
    · subst he
      exact ⟨.inl (by rw [h.port]), by rw [h.port]; exact hd.negotiated, by rw [h.port]; exact hd.binding,
        Eq.trans (by unfold Chassis.loginCount; rw [h.logins]) hd.logins⟩
  · exact (Chassis.asked_local p c).offerGrant x he hd

/-- R143: an evaluation revokes nothing of the port, and may grant. -/
theorem Chassis.Asking.evaluateWith {x : Ctx} {pass : Chassis → Chassis} {p : PortId} {c d : Chassis}
    (hp : ∀ d, c.Asking p d → c.Asking p (pass d)) (hd : c.Asking p d) : c.Asked p (d.evaluateWith x pass) := by
  have hT := Chassis.asking_tracked x p c
  have hL := Chassis.asked_local p c
  have hf := hT.at_port.formBudget x hd
  have hsg : c.Asked p ((d.formBudget x).shedOrGrant x ⟨id, pass⟩) := by
    unfold Chassis.shedOrGrant
    split
    · exact (hT.shedPass (h := ⟨id, pass⟩) ⟨fun _ h => h, hp⟩ hf).asked
    · split
      · exact hf.asked.grantPass x
      · exact hf.asked
  unfold Chassis.evaluateWith
  split
  · exact (hL.moves x).judgePowerWait (hL.closeEpisode x hsg)
  · exact hd.asked

theorem Chassis.Asking.evaluate {p : PortId} {c d : Chassis} (x : Ctx) (hd : c.Asking p d) : c.Asked p (d.evaluate x) := by
  unfold Chassis.evaluate
  exact Chassis.Asking.evaluateWith (fun _ => (Chassis.asking_tracked x p c).served.bindingPass fun _ h => h) hd

/-- What a seat request leaves of a port that holds neither seat nor grant. -/
structure Chassis.SeatAsked (p : PortId) (c d : Chassis) : Prop where
  state : (d.port p).state = .linkWait ∨
    (((d.port p).state = .unseated ∨ (d.port p).state = .powerWait) ∧ ∀ k, (p, k) ∈ d.slots ↔ (p, k) ∈ c.slots)
  negotiated : (d.port p).negotiated = (c.port p).negotiated
  binding : (d.port p).binding ≠ .drainHold
  logins : d.loginCount p = c.loginCount p

theorem Chassis.Asked.seatAsked {p : PortId} {c d : Chassis} (h : c.Asked p d) : c.SeatAsked p d :=
  ⟨h.state.imp id fun hs => ⟨.inr hs.1, hs.2⟩, h.negotiated, h.binding, h.logins⟩

theorem Chassis.seatBound_asked {x : Ctx} {p : PortId} {c d : Chassis} (hd : d.Loose p) {b : Binding} (hb : b ≠ .drainHold)
    (k : RateClass) (hport : d.port p = c.port p) (hl : d.loginCount p = c.loginCount p)
    (hs : ∀ k, (p, k) ∈ d.slots ↔ (p, k) ∈ c.slots) : c.Asked p (d.seatBound x (outer x) p b k) := by
  have hw : ∀ e ∈ d.pwr.waitList, e.port ≠ p := fun e he hp => List.any_eq_false.1 hd.off e he (beq_iff_eq.2 hp)
  rw [Chassis.seatBound_of_free hd.granted hw]
  have hrec := Chassis.port_setPort_self d p { d.port p with
    state := .powerWait, binding := b, seatCeil := some k, effCeil := some (RateClass.lower (x.cfg.port p).reqClass k) }
  refine Chassis.Asking.evaluate x ⟨?_, ?_, hd.seat, ?_, ?_, hl, hs⟩
  · exact congrArg PortRec.state hrec
  · exact (congrArg PortRec.granted hrec).trans hd.granted
  · exact (congrArg PortRec.negotiated hrec).trans (by rw [hport])
  · exact fun h => hb ((congrArg PortRec.binding hrec).symm.trans h)

theorem Chassis.seatRequest_asked (x : Ctx) {p : PortId} {c : Chassis} (h : c.Loose p)
    (hb : (c.port p).binding ≠ .drainHold) : c.SeatAsked p (c.seatRequest x (outer x) p) := by
  unfold Chassis.seatRequest
  split
  · rename_i l _
    obtain ⟨g, b, hf⟩ := (c.bindSeat l.id p).setGrace_frame p 0
    rw [hf]
    refine (Chassis.seatBound_asked (c := c) (d := { c.bindSeat l.id p with grace := g, licencesDirty := b })
      (b := .licence l.id) ?_ nofun l.ceiling rfl rfl fun _ => .rfl).seatAsked
    exact h.of_eq h.granted rfl rfl
  · split
    · exact (Chassis.seatBound_asked h (b := .counted) nofun _ rfl rfl fun _ => .rfl).seatAsked
    · have hrec := Chassis.port_setPort_self c p { c.port p with state := .unseated }
      refine ⟨.inr ⟨.inl ?_, fun _ => .rfl⟩, ?_, ?_, rfl⟩
      · exact congrArg PortRec.state hrec
      · exact Eq.trans (congrArg PortRec.negotiated hrec) rfl
      · exact fun hd => hb ((congrArg PortRec.binding hrec).symm.trans hd)

/-! ## The end of a drain (R17) -/

/-- A port at rest in DISABLED, without logins and with Port Control Disable in its slot. -/
structure Chassis.Stopped (x : Ctx) (p : PortId) (d : Chassis) : Prop where
  loose : d.Loose p
  port : d.port p = ⟨.disabled, none, .none, none, none, none⟩
  logins : d.loginCount p = 0
  slot : x.linkUp = true → (p, Control.disable) ∈ d.slots

theorem Chassis.loginCount_removeLogins (p : PortId) (c : Chassis) : (c.removeLogins p).loginCount p = 0 :=
  congrArg PortView.logins (c.view_removeLogins p)

theorem Chassis.putControl_mem {x : Ctx} (hx : x.linkUp = true) (p : PortId) (k : Control) (c : Chassis) :
    (p, k) ∈ (c.putControl x p k).slots := by
  unfold Chassis.putControl
  rw [if_pos hx]
  exact mem_placeSlot_self ..

theorem Chassis.drainEnd_disabled (x : Ctx) {p : PortId} {c : Chassis} (hs : p ∉ c.seatWait) :
    (c.drainEnd x (outer x) p .disabled).Stopped x p := by
  have h1 := Chassis.grantRelease_idle x (c := c.removeLogins p) hs
  unfold Chassis.drainEnd
  dsimp only
  generalize (c.removeLogins p).grantRelease x (outer x) p = c1 at h1 ⊢
  have hrec := Chassis.port_setPort_self (c1.putControl x p .disable) p
    { (c1.putControl x p .disable).port p with state := .disabled, negotiated := none }
  have hport : (c1.putControl x p .disable).port p = c1.port p := by unfold Chassis.port; rw [Chassis.putControl_ports]
  have h2 : (Chassis.setPort (c1.putControl x p .disable) p
      { (c1.putControl x p .disable).port p with state := .disabled, negotiated := none }).Loose p := by
    refine h1.loose.of_eq ?_ (congrArg Pwr.waitList (Chassis.putControl_pwr ..)) (Chassis.putControl_seatWait ..)
    rw [hrec, hport]
    exact h1.loose.granted
  have h3 := Chassis.seatRelease_freed x h2
  refine ⟨h3.loose, ?_, h3.logins.trans (Eq.trans ?_ (h1.logins.trans (c.loginCount_removeLogins p))),
    fun hx => (h3.slot _).2 (Chassis.putControl_mem hx ..)⟩
  · rw [h3.port, hrec, hport]
    dsimp only
    rw [h1.loose.granted]
  · unfold Chassis.loginCount
    rw [Chassis.setPort_logins, Chassis.putControl_logins]

theorem Chassis.drainEnd_unseated (x : Ctx) {p : PortId} {c : Chassis} (hs : p ∉ c.seatWait) :
    ∃ b : Chassis, b.Stopped x p ∧ b.SeatAsked p (c.drainEnd x (outer x) p .unseated) := by
  have h := Chassis.drainEnd_disabled x hs
  exact ⟨_, h, Chassis.seatRequest_asked x h.loose (by rw [h.port]; exact nofun)⟩

end Sys2Proof.Machine

/-! # Port Fault, drain ends and Port Disable (O13, O16, O28) -/

namespace Sys2Proof.Machine

/-! ## What the blocks say after an event -/

/-- An event leaves the chassis it made, but for the alarms and the slots that the end of the event moves. -/
theorem exists_of_event {c : Instr} {f : State → State} {s : State} (h : s.Runs) (hc : exec c s = s.event f) :
    ∃ t, exec c s = .next t ∧ t.blocks = (f s).blocks := by
  obtain ⟨t, ht, hb⟩ := State.event_blocks f s h
  exact ⟨t, hc.trans ht, hb⟩

theorem port_of_blocks {s t : State} (h : t.blocks = s.blocks) (p : PortId) : t.chassis.port p = s.chassis.port p :=
  congrArg (fun b : Blocks => b.ports[p.val]) h

theorem logins_of_blocks {s t : State} (h : t.blocks = s.blocks) : t.chassis.logins = s.chassis.logins :=
  congrArg Blocks.logins h

theorem seatWait_of_blocks {s t : State} (h : t.blocks = s.blocks) : t.chassis.seatWait = s.chassis.seatWait :=
  congrArg Blocks.seatWait h

theorem pwr_of_blocks {s t : State} (h : t.blocks = s.blocks) : t.chassis.pwr = s.chassis.pwr := congrArg Blocks.pwr h

theorem graceOf_of_blocks {s t : State} (h : t.blocks = s.blocks) (p : PortId) :
    t.chassis.graceOf p = s.chassis.graceOf p := congrArg (fun b : Blocks => b.grace[p.val]) h

theorem not_loggedIn_of_count {c : Chassis} {p : PortId} (h : c.loginCount p = 0) (a : Addr) : ¬ c.LoggedIn a p := by
  intro hm
  have := List.eq_nil_of_length_eq_zero h
  exact List.filter_eq_nil_iff.1 this _ hm (beq_iff_eq.2 rfl)

theorem loggedIn_of_blocks {s t : State} (h : t.blocks = s.blocks) {p : PortId} (hn : s.chassis.loginCount p = 0) (a : Addr) :
    ¬ t.chassis.LoggedIn a p := by
  unfold Chassis.LoggedIn
  rw [logins_of_blocks h]
  exact not_loggedIn_of_count hn a

theorem mem_controlLine {s : State} {p : PortId} {k : Control} (h : (p, k) ∈ s.chassis.slots) :
    .portControl p k ∈ s.blocks.controlLine :=
  List.mem_append_right _ (List.mem_map.2 ⟨(p, k), h, rfl⟩)

theorem mem_controlLine_of_blocks {s t : State} (hb : t.blocks = s.blocks) {p : PortId} {k : Control}
    (h : (p, k) ∈ s.chassis.slots) : .portControl p k ∈ t.blocks.controlLine := hb ▸ mem_controlLine h

theorem State.ctx_linkUp {s : State} (h : s.link.state = .up) : s.ctx.linkUp = true := by
  unfold State.ctx
  rw [h]
  rfl

/-! ## The table's row of a port (R1 to R6) -/

theorem Chassis.RowOk.not_seat {c : Chassis} {p : PortId} (h : c.RowOk p) (hs : (c.port p).state ≠ .unseated) :
    p ∉ c.seatWait := fun hm => hs (h.2.2.2.1.1 hm)

theorem Chassis.RowOk.granted_none {c : Chassis} {p : PortId} (h : c.RowOk p) (hs : (c.port p).state.runs = false) :
    (c.port p).granted = none := by
  have := h.2.2.1
  rw [hs, Option.isSome_eq_false_iff, Option.isNone_iff_eq_none] at this
  exact this

theorem Chassis.RowOk.off {c : Chassis} {p : PortId} (h : c.RowOk p) (hs : (c.port p).state.waitKind = none) :
    c.onWaitList p = false := by
  rw [Chassis.onWaitList_eq_false]
  have := h.2.2.2.2.1
  rw [hs] at this
  exact this

/-! ## Port Fault (R10, R11) -/

/-- R10: what a fault leaves of a running port. -/
theorem Chassis.portFault_idle {x : Ctx} {p : PortId} {c : Chassis} (hs : p ∉ c.seatWait)
    (hr : (c.port p).state = .linkWait ∨ (c.port p).state = .online) :
    let d := c.portFault x (outer x) p
    (d.port p).state = .fault ∧ (d.port p).granted = none ∧ (d.port p).negotiated = none ∧
      ((d.port p).binding = (c.port p).binding ∨
        ((c.port p).binding = .counted ∧ ∃ id, (d.port p).binding = .licence id)) ∧
      d.loginCount p = 0 ∧ (x.linkUp = true → (p, Control.disable) ∈ d.slots) := by
  have h1 := Chassis.grantRelease_idle x (c := c.setPort p { c.port p with state := .fault }) hs
  have heq : c.portFault x (outer x) p =
      Chassis.setPort (((((c.setPort p { c.port p with state := .fault }).grantRelease x (outer x) p).putControl x p
        .disable).removeLogins p)) p { ((((c.setPort p { c.port p with state := .fault }).grantRelease x (outer x)
          p).putControl x p .disable).removeLogins p).port p with negotiated := none } := by
    unfold Chassis.portFault
    rcases hr with hr | hr <;> simp only [hr]
  dsimp only
  rw [heq]
  generalize (c.setPort p { c.port p with state := .fault }).grantRelease x (outer x) p = c1 at h1 ⊢
  have hport : ((c1.putControl x p .disable).removeLogins p).port p = c1.port p := by
    show (c1.putControl x p .disable).port p = _
    unfold Chassis.port
    rw [Chassis.putControl_ports]
  have hst := h1.state
  have hbi := h1.binding
  rw [Chassis.port_setPort_self] at hst hbi
  rw [Chassis.port_setPort_self, hport]
  exact ⟨hst, h1.loose.granted, rfl, hbi, Chassis.loginCount_removeLogins .., fun hx => Chassis.putControl_mem hx ..⟩

/-- Settles O13: a fault by what a grant release leaves of the port, Fault Cleared as a grant request. -/
theorem faultStopsPortUntilCleared : Obligations.FaultStopsPortUntilCleared := by
  unfold Obligations.FaultStopsPortUntilCleared
  refine ⟨fun s p hr hup hok hst => ?fault, fun s p hr hup hst => ?still, fun s p hr hup hok hst => ?cleared,
    fun s p hr hup hst => ?idle⟩
  case fault =>
    obtain ⟨t, ht, hb⟩ := exists_of_event (c := .portFault p) hr rfl
    rw [State.frameIn_up hup rfl] at hb
    have hrow := hok.1 p
    have hne : (s.chassis.port p).state ≠ .unseated := by rcases hst with h | h <;> rw [h] <;> exact nofun
    have hseated : (s.chassis.port p).state.seated = true := by rcases hst with h | h <;> rw [h] <;> rfl
    obtain ⟨hs1, hg, hn, hbi, hl, hsl⟩ := Chassis.portFault_idle (x := s.ctx) (hrow.not_seat hne) hst
    have hbne := hrow.1.2 hseated
    have hport : t.chassis.port p = (s.chassis.portFault s.ctx (outer s.ctx) p).port p := port_of_blocks hb p
    refine ⟨t, ht, by rw [hport]; exact hs1, by rw [hport]; exact hg, by rw [hport]; exact hn, ?_, fun hc => ?_,
      loggedIn_of_blocks hb hl, mem_controlLine_of_blocks hb (hsl (State.ctx_linkUp hup))⟩
    · rw [hport]
      rcases hbi with h | ⟨-, id, h⟩ <;> rw [h]
      · exact hbne
      · exact nofun
    · rw [hport]
      exact hbi.resolve_right fun h => hc h.1
  case still =>
    refine leaves_of_frame hr rfl hup rfl ?_
    rw [State.onChassis]
    have : s.chassis.portFault s.ctx (outer s.ctx) p = s.chassis := by
      cases h : (s.chassis.port p).state with
      | linkWait | online | draining => rw [h] at hst; cases hst
      | absent | disabled | unseated | powerWait | shed | fault => simp only [Chassis.portFault, h]
    rw [this]
  case cleared =>
    have hrow := hok.1 p
    have hg := hrow.granted_none (by rw [hst]; rfl)
    have hoff := hrow.off (by rw [hst]; rfl)
    refine leaves_of_frame hr rfl hup rfl ?_
    rw [State.onChassis]
    have : s.chassis.faultCleared s.ctx (outer s.ctx) p =
        ((s.chassis.setPort p { s.chassis.port p with state := .powerWait }).joinWait s.ctx p .powerWait).evaluate s.ctx := by
      unfold Chassis.faultCleared
      rw [hst]
      exact Chassis.grantRequest_of_free (by rw [Chassis.port_setPort_self]; exact hg) fun e he hp =>
        List.any_eq_false.1 hoff e he (beq_iff_eq.2 hp)
    rw [this]
  case idle =>
    refine leaves_of_frame hr rfl hup rfl ?_
    rw [State.onChassis]
    have : s.chassis.faultCleared s.ctx (outer s.ctx) p = s.chassis := by
      unfold Chassis.faultCleared
      split
      · rename_i h; exact absurd h hst
      · rfl
    rw [this]

/-! ## Drain ends (R17, R18) -/

theorem Chassis.portFault_of_draining {x : Ctx} {h : Hooks} {p : PortId} {c : Chassis} {t : DrainTarget} {due : Nat}
    (hst : (c.port p).state = .draining t due) : c.portFault x h p = c.drainEnd x h p t := by
  simp only [Chassis.portFault, hst]

theorem Chassis.linkDown_of_draining {x : Ctx} {h : Hooks} {p : PortId} {c : Chassis} {t : DrainTarget} {due : Nat}
    (hst : (c.port p).state = .draining t due) : c.linkDown x h p = c.drainEnd x h p t := by
  simp only [Chassis.linkDown, hst]

theorem State.drainTimer_of_draining {p : PortId} {s : State} {t : DrainTarget} {due : Nat}
    (hst : (s.chassis.port p).state = .draining t due) :
    s.drainTimer p = State.onChassis (fun x => Chassis.drainEnd x (outer x) p t) (s.carry due) := by
  simp only [State.drainTimer, hst]

/-- Each of the three causes ends the drain, at its own clock. -/
theorem exists_drainEnd {s : State} {p : PortId} {t : DrainTarget} {due : Nat} (hr : s.Runs)
    (hst : (s.chassis.port p).state = .draining t due) {c : Instr}
    (hc : c ∈ [Instr.drainTimerExpiry p, .linkDown p, .portFault p]) (hup : c ≠ .drainTimerExpiry p → s.link.state = .up) :
    ∃ u v : State, exec c s = .next u ∧ u.blocks = v.blocks ∧ ∃ x : Ctx, (s.link.state = .up → x.linkUp = true) ∧
      v.chassis = s.chassis.drainEnd x (outer x) p t := by
  simp only [List.mem_cons, List.not_mem_nil, or_false] at hc
  rcases hc with rfl | rfl | rfl
  · obtain ⟨u, hu, hb⟩ := exists_of_event (c := .drainTimerExpiry p) hr rfl
    rw [State.drainTimer_of_draining hst] at hb
    exact ⟨u, _, hu, hb, _, fun h => State.ctx_linkUp (s := s.carry due) h, rfl⟩
  · have hup := hup nofun
    obtain ⟨u, hu, hb⟩ := exists_of_event (c := .linkDown p) hr rfl
    rw [State.frameIn_up hup rfl] at hb
    exact ⟨u, _, hu, hb, s.ctx, State.ctx_linkUp, Chassis.linkDown_of_draining hst⟩
  · have hup := hup nofun
    obtain ⟨u, hu, hb⟩ := exists_of_event (c := .portFault p) hr rfl
    rw [State.frameIn_up hup rfl] at hb
    exact ⟨u, _, hu, hb, s.ctx, State.ctx_linkUp, Chassis.portFault_of_draining hst⟩

/-- Settles O16: by what the end of a drain leaves toward each target. -/
theorem drainEndStopsPort : Obligations.DrainEndStopsPort := by
  unfold Obligations.DrainEndStopsPort
  refine ⟨fun s p t due hr hok hst c hc hup => ?ends, fun s p hr hst => leaves_of_event hr rfl ?idle⟩
  case ends =>
    obtain ⟨u, v, hu, hb, x, hx, hv⟩ := exists_drainEnd hr hst hc hup
    have hseat : p ∉ s.chassis.seatWait := (hok.1 p).not_seat (by rw [hst]; exact nofun)
    have hport := port_of_blocks hb p
    cases t with
    | disabled =>
      have h := Chassis.drainEnd_disabled x hseat
      rw [← hv] at h
      exact ⟨u, hu, loggedIn_of_blocks hb h.logins, fun _ => ⟨hport.trans h.port,
        fun hup => mem_controlLine_of_blocks hb (h.slot (hx hup))⟩, nofun⟩
    | unseated =>
      obtain ⟨b, h, ha⟩ := Chassis.drainEnd_unseated x hseat
      rw [← hv] at ha
      refine ⟨u, hu, loggedIn_of_blocks hb (ha.logins.trans h.logins), nofun, fun _ => ⟨?_, ?_, ?_, fun hup hn => ?_⟩⟩
      · rw [hport, ha.negotiated, h.port]
      · rw [hport]; exact ha.binding
      · rw [hport]
        rcases ha.state with hs | ⟨hs | hs, -⟩
        · exact .inr (.inr hs)
        · exact .inl hs
        · exact .inr (.inl hs)
      · rw [hport] at hn
        exact mem_controlLine_of_blocks hb (((ha.state.resolve_left hn).2 _).2 (h.slot (hx hup)))
  case idle =>
    have : s.drainTimer p = s := by
      cases h : (s.chassis.port p).state with
      | draining => rw [h] at hst; cases hst
      | absent | disabled | unseated | powerWait | linkWait | online | shed | fault => simp only [State.drainTimer, h]
    rw [this]

/-! ## Port Disable (R13) -/

/-- R13: a port that waits for a grant or stands in FAULT gives seat and places back. -/
theorem Chassis.disablePort_rests (x : Ctx) {p : PortId} {c : Chassis} (hs : p ∉ c.seatWait)
    (hst : (c.port p).state = .powerWait ∨ (c.port p).state = .shed ∨ (c.port p).state = .fault) :
    let d := c.disablePort x (outer x) p
    d.port p = ⟨.disabled, (c.port p).negotiated, .none, none, none, none⟩ ∧ d.onWaitList p = false := by
  have h1 := Chassis.grantRelease_idle x (c := c.setPort p { c.port p with state := .disabled }) hs
  have heq : c.disablePort x (outer x) p =
      ((c.setPort p { c.port p with state := .disabled }).grantRelease x (outer x) p).seatRelease x (outer x) p := by
    rcases hst with h | h | h <;> simp only [Chassis.disablePort, h]
  dsimp only
  rw [heq]
  generalize (c.setPort p { c.port p with state := .disabled }).grantRelease x (outer x) p = c1 at h1 ⊢
  have h2 := Chassis.seatRelease_freed x h1.loose
  have hst := h1.state
  have hn := h1.negotiated
  rw [Chassis.port_setPort_self] at hst hn
  refine ⟨?_, h2.loose.off⟩
  rw [h2.port]
  dsimp only at hst hn ⊢
  rw [hst, hn, h1.loose.granted]

/-- R13, R16: a running port without a login or a drain time is DISABLED at once. -/
theorem Chassis.disablePort_stops {x : Ctx} {p : PortId} {c : Chassis} (hs : p ∉ c.seatWait)
    (hst : (c.port p).state = .linkWait ∨ (c.port p).state = .online)
    (hd : (x.cfg.port p).drainSecs = 0 ∨ c.loginCount p = 0) : (c.disablePort x (outer x) p).Stopped x p := by
  have heq : c.disablePort x (outer x) p = c.startDrain x (outer x) p .disabled := by
    rcases hst with h | h <;> simp only [Chassis.disablePort, h]
  rw [heq]
  unfold Chassis.startDrain
  dsimp only
  rw [if_pos (by rw [Bool.or_eq_true, decide_eq_true_eq, decide_eq_true_eq]; exact hd)]
  exact Chassis.drainEnd_disabled x hs

theorem Chassis.startDrain_of_pos {x : Ctx} {h : Hooks} {p : PortId} {t : DrainTarget} {c : Chassis}
    (hd : 0 < (x.cfg.port p).drainSecs) (hl : 0 < c.loginCount p) : c.startDrain x h p t =
      c.setPort p { c.port p with state := .draining t (x.clockMs + (x.cfg.port p).drainSecs * 1000) } := by
  unfold Chassis.startDrain
  dsimp only
  refine if_neg ?_
  simp only [Bool.or_eq_true, decide_eq_true_eq, not_or]
  exact ⟨hd.ne', hl.ne'⟩

/-- Settles O28: by the state of the port. -/
theorem portDisableStopsPort : Obligations.PortDisableStopsPort := by
  intro s pr p h hok r secs e
  have hacts {c : Chassis} (hc : s.chassis.disablePort e.ctx (outer e.ctx) p = c) :
      Leaves .portDisable s (State.answer ⟨.done, []⟩ { e with chassis := c }) :=
    leaves_of_act rfl h (by rw [← hc]; rfl)
  have hsecs : (e.ctx.cfg.port p).drainSecs = secs := by
    show ((s.cfg.setPort p _).port p).drainSecs = _
    rw [Settings.port_setPort_self]
  have hseat (hn : r.state ≠ .unseated) : p ∉ s.chassis.seatWait := (hok.1 p).not_seat hn
  have hrests (hst : r.state = .powerWait ∨ r.state = .shed ∨ r.state = .fault) :
      ∃ u : State, Leaves .portDisable s (u.answer ⟨.done, []⟩) ∧ u.cfg = e.cfg ∧
        u.chassis.port p = ⟨.disabled, r.negotiated, .none, none, none, none⟩ ∧ ∀ w ∈ u.chassis.pwr.waitList, w.port ≠ p := by
    obtain ⟨hp, hw⟩ := Chassis.disablePort_rests e.ctx
      (hseat (by rcases hst with h | h | h <;> rw [h] <;> exact nofun)) hst
    exact ⟨_, hacts rfl, rfl, hp, fun w hm he => List.any_eq_false.1 hw w hm (beq_iff_eq.2 he)⟩
  have hruns (hst : r.state = .linkWait ∨ r.state = .online) :
      (0 < secs → 0 < s.chassis.loginCount p → Leaves .portDisable s
        (State.answer ⟨.done, []⟩ (e.withPort p { r with state := .draining .disabled (s.clockMs + secs * 1000) }))) ∧
      (secs = 0 ∨ s.chassis.loginCount p = 0 →
        ∃ u : State, Leaves .portDisable s (u.answer ⟨.done, []⟩) ∧ u.cfg = e.cfg ∧
          u.chassis.port p = ⟨.disabled, none, .none, none, none, none⟩ ∧ (∀ a, ¬ u.chassis.LoggedIn a p) ∧
          (s.link.state = .up → .portControl p .disable ∈ u.blocks.controlLine)) := by
    refine ⟨fun hd hl => hacts ?_, fun hd => ?_⟩
    · have heq : s.chassis.disablePort e.ctx (outer e.ctx) p = s.chassis.startDrain e.ctx (outer e.ctx) p .disabled := by
        rcases hst with h | h <;> simp only [Chassis.disablePort, show (s.chassis.port p).state = _ from h]
      rw [heq, Chassis.startDrain_of_pos (by rw [hsecs]; exact hd) hl, hsecs]
      rfl
    · have hstop := Chassis.disablePort_stops (x := e.ctx)
        (hseat (by rcases hst with h | h <;> rw [h] <;> exact nofun)) hst (by rw [hsecs]; exact hd)
      exact ⟨_, hacts rfl, rfl, hstop.port, not_loggedIn_of_count hstop.logins, fun hup =>
        mem_controlLine (hstop.slot (State.ctx_linkUp (s := e) hup))⟩
  cases hst : r.state with
  | absent | disabled => exact hacts (by simp only [Chassis.disablePort, show (s.chassis.port p).state = _ from hst])
  | draining t due =>
    cases t with
    | disabled => exact hacts (by simp only [Chassis.disablePort, show (s.chassis.port p).state = _ from hst])
    | unseated => exact hacts (by simp only [Chassis.disablePort, show (s.chassis.port p).state = _ from hst]; rfl)
  | unseated => exact hacts (by simp only [Chassis.disablePort, show (s.chassis.port p).state = _ from hst]; rfl)
  | linkWait => exact hruns (.inl hst)
  | online => exact hruns (.inr hst)
  | powerWait => exact hrests (.inl hst)
  | shed => exact hrests (.inr (.inl hst))
  | fault => exact hrests (.inr (.inr hst))

end Sys2Proof.Machine

/-! # Blades inserted and removed (O14, O15) -/

namespace Sys2Proof.Machine

/-! ## Ports that a pass passes over -/

/-- A property of a port that no pass reaches is kept by every pass. -/
theorem Chassis.Local.governed_of_inert {p : PortId} {P : Chassis → Prop} (hP : Chassis.Local p P) (x : Ctx)
    (hi : ∀ c, P c → c.Inert p) : Chassis.Governed x P :=
  have hT : Chassis.Tracked x p P :=
    { at_port := hP
      revoke := fun _ c _ hg hc => by rw [(hi c hc).granted] at hg; cases hg
      rebind := fun _ c _ _ hb _ hc => absurd hb (hi c hc).binding
      bind := fun _ c _ _ hs _ hc => absurd hs (hi c hc).seat }
  hT.governed fun b _ e he hm hb _ => absurd (beq_iff_eq.2 he) (List.any_eq_false.1 (hi b hb).off e hm)

/-- A fold over ports, of which one establishes the property and the others keep it. -/
theorem foldl_establishes {Q P : Chassis → Prop} {f : Chassis → PortId → Chassis} {p : PortId} {l : List PortId}
    (hp : p ∈ l) (hn : l.Nodup) (before : ∀ c q, q ≠ p → Q c → Q (f c q)) (at_port : ∀ c, Q c → P (f c p))
    (after : ∀ c q, q ≠ p → P c → P (f c q)) {c : Chassis} (hc : Q c) : P (l.foldl f c) := by
  obtain ⟨as, bs, rfl⟩ := List.append_of_mem hp
  have hdis := List.nodup_append.1 hn
  have has (q : PortId) (hq : q ∈ as) : q ≠ p := hdis.2.2 q hq p List.mem_cons_self
  have hbs (q : PortId) (hq : q ∈ bs) : q ≠ p := fun h => (List.nodup_cons.1 hdis.2.1).1 (h ▸ hq)
  rw [List.foldl_append, List.foldl_cons]
  have h1 : Q (as.foldl f c) := List.foldlRecOn (motive := Q) _ _ hc fun d hd q hq => before d q (has q hq) hd
  exact List.foldlRecOn (motive := P) _ _ (at_port _ h1) fun d hd q hq => after d q (hbs q hq) hd

/-! ## What every move leaves of the blades -/

theorem Chassis.blades_closed (x : Ctx) (v : Vector Bool 8) :
    Chassis.ClosedEval x (fun _ => True) (fun c => c.blades = v) where
  of_granted _ _ _ _ := trivial
  of_waiting _ _ _ _ := trivial
  of_counted _ _ _ _ := trivial
  of_seatWait _ _ _ _ := trivial
  port _ _ _ _ _ h := h
  lower _ _ _ _ _ h := h
  take c p g _ h := by rw [Chassis.takeGrant, Chassis.putControl_blades]; exact h
  joinWait _ _ _ _ h := h
  pwr _ _ _ h := h
  episode _ _ h := h
  form _ h := h
  count _ _ h := h
  control c p k _ h := by rw [Chassis.putControl_blades]; exact h
  logins _ _ _ h := h
  alarm_raise _ _ _ h := h
  alarm_clear _ _ _ h := h
  running _ _ h := h
  bind _ _ _ _ _ h := h
  unbind _ _ _ _ h := h
  grace c p n _ h := by rw [Chassis.setGrace_blades]; exact h
  joinSeat _ _ _ h := h
  leaveSeat _ _ _ h := h
  due _ _ h := h

theorem bladeOfByte?_ofNat (b : BladeId) : bladeOfByte? (BitVec.ofNat 8 b.val) = some b := by
  have h : (BitVec.ofNat 8 b.val).toNat = b.val := by
    rw [BitVec.toNat_ofNat]
    exact Nat.mod_eq_of_lt (b.isLt.trans (by decide))
  unfold bladeOfByte?
  rw [dif_pos (h.symm ▸ b.isLt : (BitVec.ofNat 8 b.val).toNat < 8)]
  exact congrArg some (Fin.ext h)

theorem bladeByte_toNat (b : BladeId) : (BitVec.ofNat 8 b.val).toNat ≤ 7 := by
  rw [BitVec.toNat_ofNat]
  exact (Nat.mod_le _ _).trans (Nat.le_of_lt_succ b.isLt)

/-- A Blade Event Inserted of a blade, as an event. -/
theorem exec_bladeInserted {s : State} (hup : s.link.state = .up) (b : BladeId) :
    exec (.bladeEventInserted (BitVec.ofNat 8 b.val)) s = s.event (State.onChassis fun x c => c.insertBlade x b) := by
  have hwf : Instr.wf (.bladeEventInserted (BitVec.ofNat 8 b.val)) = true := decide_eq_true (bladeByte_toNat b)
  show s.event (State.frameIn _ _) = _
  simp only [State.event, State.frameIn_up hup hwf, State.onChassis, bladeOfByte?_ofNat]

theorem exec_bladeRemoved {s : State} (hup : s.link.state = .up) (b : BladeId) :
    exec (.bladeEventRemoved (BitVec.ofNat 8 b.val)) s = s.event (State.onChassis fun x c => c.removeBlade x b) := by
  have hwf : Instr.wf (.bladeEventRemoved (BitVec.ofNat 8 b.val)) = true := decide_eq_true (bladeByte_toNat b)
  show s.event (State.frameIn _ _) = _
  simp only [State.event, State.frameIn_up hup hwf, State.onChassis, bladeOfByte?_ofNat]

/-! ## A blade is removed (R4) -/

/-- A port with its reset values, on no list, whose slot holds Port Control Disable where it was enabled. -/
structure Chassis.Removed (x : Ctx) (p : PortId) (was : Control) (c : Chassis) : Prop where
  port : c.port p = PortRec.reset
  off : c.onWaitList p = false
  seat : p ∉ c.seatWait
  grace : c.graceOf p = 0
  logins : c.loginCount p = 0
  slot : was ≠ .disable → x.linkUp = true → (p, Control.disable) ∈ c.slots

theorem Chassis.removed_local (x : Ctx) (p : PortId) (was : Control) : Chassis.Local p (Chassis.Removed x p was) :=
  fun _ _ h hc => ⟨h.port.trans hc.port, h.off hc.off, fun hs => hc.seat (h.seat.1 hs), h.grace.trans hc.grace,
    h.logins.trans hc.logins, fun hw hx => (h.slot _).2 (hc.slot hw hx)⟩

theorem Chassis.Removed.inert {x : Ctx} {p : PortId} {was : Control} {c : Chassis} (h : c.Removed x p was) : c.Inert p :=
  ⟨by rw [h.port]; rfl, h.off, h.seat, by rw [h.port]; exact nofun⟩

theorem Chassis.removed_governed (x : Ctx) (p : PortId) (was : Control) : Chassis.Governed x (Chassis.Removed x p was) :=
  (Chassis.removed_local x p was).governed_of_inert x fun _ hc => hc.inert

theorem Chassis.grantRelease_recording_off (x : Ctx) (p : PortId) (c : Chassis) :
    (c.grantRelease x recording p).onWaitList p = false := by
  unfold Chassis.grantRelease
  split
  · exact Chassis.leaveWait_off ..
  · rename_i h
    rw [Bool.or_eq_true, not_or, Bool.not_eq_true] at h
    exact h.1

theorem Chassis.seatRelease_recording_waits (x : Ctx) (p : PortId) (c : Chassis) :
    (c.seatRelease x recording p).pwr.waitList = c.pwr.waitList := by
  unfold Chassis.seatRelease
  dsimp only
  split
  · rfl
  · rfl
  · exact congrArg Pwr.waitList (Chassis.setGrace_pwr ..)
  · rfl

theorem Chassis.graceOf_setGrace (p : PortId) (n : Nat) (c : Chassis) : (c.setGrace p n).graceOf p = n := by
  unfold Chassis.setGrace
  split
  · assumption
  · exact Vector.getElem_set_self _

/-- R4: what the removal leaves of one port. -/
theorem Chassis.removePort_removed (x : Ctx) (p : PortId) (c : Chassis) :
    (c.removePort x recording p).Removed x p (c.port p).control := by
  unfold Chassis.removePort
  dsimp only
  have hoff : ((c.grantRelease x recording p).seatRelease x recording p).onWaitList p = false := by
    unfold Chassis.onWaitList
    rw [Chassis.seatRelease_recording_waits]
    exact c.grantRelease_recording_off x p
  generalize (c.grantRelease x recording p).seatRelease x recording p = d at hoff ⊢
  have hr : Chassis.Removed x p .disable ((((d.leaveSeatWait p).setGrace p 0).removeLogins p).setPort p PortRec.reset) :=
    { port := Chassis.port_setPort_self ..
      off := by
        unfold Chassis.onWaitList
        rw [show ((((d.leaveSeatWait p).setGrace p 0).removeLogins p).setPort p PortRec.reset).pwr = d.pwr from
          Chassis.setGrace_pwr ..]
        exact hoff
      seat := by
        rw [show ((((d.leaveSeatWait p).setGrace p 0).removeLogins p).setPort p PortRec.reset).seatWait =
          (d.leaveSeatWait p).seatWait from Chassis.setGrace_seatWait ..]
        intro hm
        have := (List.mem_filter.1 hm).2
        simp at this
      grace := Chassis.graceOf_setGrace p 0 (d.leaveSeatWait p)
      logins := Chassis.loginCount_removeLogins ..
      slot := fun h => absurd rfl h }
  split
  · rename_i hw
    rw [hw]
    exact hr
  · exact
      { port := by unfold Chassis.port; rw [Chassis.putControl_ports]; exact hr.port
        off := by unfold Chassis.onWaitList; rw [Chassis.putControl_pwr]; exact hr.off
        seat := by rw [Chassis.putControl_seatWait]; exact hr.seat
        grace := by unfold Chassis.graceOf; rw [Chassis.putControl_grace]; exact hr.grace
        logins := by unfold Chassis.loginCount; rw [Chassis.putControl_logins]; exact hr.logins
        slot := fun _ hx => Chassis.putControl_mem hx .. }

theorem Hooks.recording_keeps {p : PortId} {P : Chassis → Prop} (hP : Chassis.Local p P) (x : Ctx) : recording.Keeps P :=
  ⟨fun _ h => h, fun _ => (hP.moves x).markPass⟩

/-- R4: after the removal every port of the blade is reset. -/
theorem Chassis.removeBlade_removed (x : Ctx) {b : BladeId} {c : Chassis} (hb : c.blade b = true) {p : PortId}
    (hp : bladeOf p = b) : (c.removeBlade x b).Removed x p (c.port p).control := by
  have hL := Chassis.removed_local x p (c.port p).control
  have hG := Chassis.removed_governed x p (c.port p).control
  have hQ : Chassis.Local p fun d => d.port p = c.port p := fun _ _ h hd => h.port.trans hd
  have hfold := foldl_establishes (Q := fun d => d.port p = c.port p) (P := Chassis.Removed x p (c.port p).control)
    (f := fun c p => c.removePort x recording p) (c := { c with blades := c.blades.set b.val false })
    (mem_portsOf.2 hp) (portsOf_nodup b)
    (fun d q hq hd => (hQ.moves x).removePort (hQ.keep x (Hooks.recording_keeps hQ x)) hq hd)
    (fun d hd => hd ▸ d.removePort_removed x p)
    (fun d q hq hd => (hL.moves x).removePort (hL.keep x (Hooks.recording_keeps hL x)) hq hd) rfl
  unfold Chassis.removeBlade
  rw [if_pos hb]
  refine hG.passIfDue (fun _ => hG.evaluateInPass) (hG.handPwr _ (hL _ _ ?_ hfold))
  exact .of_pwr (fun _ h => h) rfl

theorem Chassis.removeBlade_inputs (x : Ctx) {b : BladeId} {c : Chassis} (hb : c.blade b = true) :
    (c.removeBlade x b).pwr.inputs = { c.pwr.inputs with blades := c.pwr.inputs.blades - 1 } := by
  have hP0 := Chassis.inputs_closed x c.pwr.inputs
  have hP := Chassis.inputs_closed x { c.pwr.inputs with blades := c.pwr.inputs.blades - 1 }
  have hfold : ((portsOf b).foldl (fun c p => Chassis.removePort x recording p c)
      { c with blades := c.blades.set b.val false }).pwr.inputs = c.pwr.inputs :=
    List.foldlRecOn (motive := fun d : Chassis => d.pwr.inputs = c.pwr.inputs) _ _ rfl fun _ hd p _ =>
      hP0.removePort hP0.recording trivial hd
  unfold Chassis.removeBlade
  rw [if_pos hb]
  refine hP.passIfDue (hP.keep (fun _ => hP.evaluateInPass) fun _ => hP.markPass) ?_
  rw [Chassis.handPwr_inputs, hfold]

theorem Chassis.removeBlade_blades (x : Ctx) {b : BladeId} {c : Chassis} (hb : c.blade b = true) :
    (c.removeBlade x b).blades = c.blades.set b.val false := by
  have hP := Chassis.blades_closed x (c.blades.set b.val false)
  unfold Chassis.removeBlade
  rw [if_pos hb]
  refine hP.passIfDue (hP.keep (fun _ => hP.evaluateInPass) fun _ => hP.markPass) (hP.handPwr _ ?_)
  exact List.foldlRecOn (motive := fun d : Chassis => d.blades = c.blades.set b.val false) _ _ rfl fun _ hd p _ =>
    hP.removePort hP.recording trivial hd

/-- Settles O15: every port of the blade by its own removal, after which nothing of the event reaches it. -/
theorem bladeRemovedResetsPorts : Obligations.BladeRemovedResetsPorts := by
  unfold Obligations.BladeRemovedResetsPorts
  refine ⟨fun s b hr hup hb => leaves_of_event hr (exec_bladeRemoved hup b) ?_, fun s b hr hup hb => ?_⟩
  · have : s.chassis.removeBlade s.ctx b = s.chassis := by
      unfold Chassis.removeBlade
      rw [if_neg (by rw [hb]; exact nofun)]
    rw [State.onChassis, this]
  · obtain ⟨t, ht, hbl⟩ := exists_of_event hr (exec_bladeRemoved hup b)
    refine ⟨t, ht, (congrArg Blocks.blades hbl).trans (Chassis.removeBlade_blades s.ctx hb),
      (congrArg (fun b : Blocks => b.pwr.inputs) hbl).trans (Chassis.removeBlade_inputs s.ctx hb), fun p hp => ?_,
      congrArg Blocks.cfg hbl⟩
    have h := Chassis.removeBlade_removed s.ctx hb hp
    exact ⟨(port_of_blocks hbl p).trans h.port, (graceOf_of_blocks hbl p).trans h.grace,
      fun hm => h.seat (seatWait_of_blocks hbl ▸ hm), fun e he hep => List.any_eq_false.1 h.off e
        (pwr_of_blocks hbl ▸ he) (beq_iff_eq.2 hep), loggedIn_of_blocks hbl h.logins,
      fun hw => mem_controlLine_of_blocks hbl (h.slot hw (State.ctx_linkUp hup))⟩

/-! ## A blade is inserted (R3) -/

/-- A port that waits for a seat or a grant, or has just got one. -/
def Chassis.Awaits (p : PortId) (c : Chassis) : Prop :=
  (c.port p).state = .unseated ∨ (c.port p).state = .powerWait ∨ (c.port p).state = .linkWait ∨ (c.port p).state = .shed

theorem Chassis.awaits_of_port {p : PortId} {c : Chassis} {r : PortRec} (h : c.port p = r)
    (hr : r.state = .unseated ∨ r.state = .powerWait ∨ r.state = .linkWait ∨ r.state = .shed) : c.Awaits p := by
  unfold Chassis.Awaits
  rwa [h]

theorem Chassis.awaits_local (p : PortId) : Chassis.Local p (Chassis.Awaits p) := fun _ _ h hc =>
  Chassis.awaits_of_port h.port hc

theorem Chassis.grantRequest_awaits {x : Ctx} {h : Hooks} {p : PortId} (hh : h.Keeps (Chassis.Awaits p)) {c : Chassis}
    (hc : c.Awaits p) : (c.grantRequest x h p).Awaits p := by
  unfold Chassis.grantRequest
  split
  · exact hc
  · exact hh.eval _ hc

theorem Chassis.seatBound_awaits {x : Ctx} {h : Hooks} {p : PortId} (hh : h.Keeps (Chassis.Awaits p)) (b : Binding)
    (k : RateClass) (c : Chassis) : (c.seatBound x h p b k).Awaits p :=
  Chassis.grantRequest_awaits hh (Chassis.awaits_of_port (Chassis.port_setPort_self ..) (.inr (.inl rfl)))

theorem Chassis.reenableLower_awaits {x : Ctx} {h : Hooks} {p : PortId} (hh : h.Keeps (Chassis.Awaits p)) (g : RateClass)
    (c : Chassis) : (c.reenableLower x h p g).Awaits p := by
  refine hh.eval _ (Chassis.awaits_of_port (r := { c.port p with granted := some g, state := .linkWait, negotiated := none })
    ?_ (.inr (.inr (.inl rfl))))
  show (Chassis.putControl x p (.enable g) _).port p = _
  unfold Chassis.port
  rw [Chassis.putControl_ports]
  exact Chassis.port_setPort_self ..

theorem Chassis.ceilingFell_awaits {x : Ctx} {h : Hooks} {p : PortId} (hh : h.Keeps (Chassis.Awaits p)) {c : Chassis}
    (hc : c.Awaits p) : (c.ceilingFell x h p).Awaits p := by
  unfold Chassis.ceilingFell
  dsimp only
  split
  · split
    · split
      · exact Chassis.reenableLower_awaits hh ..
      · exact Chassis.reenableLower_awaits hh ..
      · rename_i hst
        rcases hc with h | h | h | h <;> rw [hst] at h <;> cases h
      · exact hc
    · exact hc
  · exact hc

theorem Chassis.awaits_tracked (x : Ctx) (p : PortId) : Chassis.Tracked x p (Chassis.Awaits p) where
  at_port := Chassis.awaits_local p
  revoke h c _ _ hc := by
    by_cases hr : (c.port p).state = .linkWait
    · exact Chassis.awaits_of_port (c.revoke_shedStep x h p (.inl hr)).port (.inr (.inr (.inr rfl)))
    · have heq : c.revoke x h p = c.setPort p { c.port p with granted := none } := by
        rcases hc with hs | hs | hs | hs
        · simp only [Chassis.revoke, hs]
        · simp only [Chassis.revoke, hs]
        · exact absurd hs hr
        · simp only [Chassis.revoke, hs]
      rw [heq]
      exact Chassis.awaits_of_port (Chassis.port_setPort_self ..) hc
  rebind h c l hh _ _ hc := by
    refine Chassis.ceilingFell_awaits hh (Chassis.awaits_of_port (Chassis.port_setPort_self ..) ?_)
    have hport : ((c.bindSeat l.id p).setGrace p 0).port p = c.port p := Chassis.setGrace_port ..
    rw [hport]
    exact hc
  bind h c l hh _ _ _ := Chassis.seatBound_awaits hh ..

theorem Chassis.awaits_governed (x : Ctx) (p : PortId) : Chassis.Governed x (Chassis.Awaits p) :=
  (Chassis.awaits_tracked x p).governed fun _ c e he _ _ hc => by
    rcases c.offerGrant_cases x e with ⟨-, h⟩ | ⟨-, h, -⟩ | ⟨-, g, -, -, -, h⟩
    · rw [h]; exact hc
    · rw [h]; exact hc
    · exact Chassis.awaits_of_port (he ▸ h.port) (.inr (.inr (.inl rfl)))

/-- R84: a port that asks for a seat waits for one, or for a grant. -/
theorem Chassis.seatRequest_awaits (x : Ctx) (p : PortId) (c : Chassis) : (c.seatRequest x (outer x) p).Awaits p := by
  have hh := (Chassis.awaits_governed x p).outer
  unfold Chassis.seatRequest
  split
  · exact Chassis.seatBound_awaits hh ..
  · split
    · exact Chassis.seatBound_awaits hh ..
    · exact Chassis.awaits_of_port (r := { c.port p with state := .unseated }) (Chassis.port_setPort_self ..) (.inl rfl)

/-- A port at rest in DISABLED that no pass reaches. -/
structure Chassis.Rests (p : PortId) (c : Chassis) : Prop where
  state : (c.port p).state = .disabled
  inert : c.Inert p

theorem Chassis.rests_local (p : PortId) : Chassis.Local p (Chassis.Rests p) := fun _ _ h hc =>
  ⟨by rw [h.port]; exact hc.state, h.inert hc.inert⟩

theorem Chassis.rests_governed (x : Ctx) (p : PortId) : Chassis.Governed x (Chassis.Rests p) :=
  (Chassis.rests_local p).governed_of_inert x fun _ hc => hc.inert

/-- An absent port is inert. -/
theorem Chassis.RowOk.inert_of_absent {c : Chassis} {p : PortId} (h : c.RowOk p) (ha : (c.port p).state = .absent) :
    c.Inert p where
  granted := h.granted_none (by rw [ha]; rfl)
  off := h.off (by rw [ha]; rfl)
  seat := h.not_seat (by rw [ha]; exact nofun)
  binding hb := by
    have := h.1.1 (by rw [hb]; exact nofun)
    rw [ha] at this
    cases this

/-- R3: the ports of an inserted blade rest in DISABLED before the seat requests. -/
def Chassis.bladeIn (x : Ctx) (b : BladeId) (c : Chassis) : Chassis :=
  Chassis.handPwr x (fun i => { i with blades := i.blades + 1 })
    ((portsOf b).foldl (fun (c : Chassis) p => c.setPort p { c.port p with state := .disabled })
      { c with blades := c.blades.set b.val true })

theorem Chassis.insertBlade_eq {x : Ctx} {b : BladeId} {c : Chassis} (hb : c.blade b = false) : c.insertBlade x b =
    ((portsOf b).filter fun p => (x.cfg.port p).enabled).foldl (fun c p => c.seatRequest x (outer x) p) (c.bladeIn x b) := by
  unfold Chassis.insertBlade
  rw [if_neg (by rw [hb]; exact nofun)]
  rfl

theorem Chassis.bladeIn_rests {x : Ctx} {b : BladeId} {c : Chassis} {p : PortId} (hi : c.Inert p) (hp : bladeOf p = b) :
    (c.bladeIn x b).Rests p := by
  have hI : Chassis.Local p (Chassis.Inert p) := fun _ _ h => h.inert
  have hR := Chassis.rests_local p
  have hfold : ((portsOf b).foldl (fun (c : Chassis) p => c.setPort p { c.port p with state := .disabled })
      { c with blades := c.blades.set b.val true }).Rests p := by
    refine foldl_establishes (Q := Chassis.Inert p) (P := Chassis.Rests p)
      (f := fun (c : Chassis) p => c.setPort p { c.port p with state := .disabled })
      (c := { c with blades := c.blades.set b.val true }) (mem_portsOf.2 hp) (portsOf_nodup b) (fun d q hq hd => (hI.moves x).port _ q _ hq (.inr rfl) hd) (fun d hd => ?_)
      (fun d q hq hd => (hR.moves x).port _ q _ hq (.inr rfl) hd) ⟨hi.granted, hi.off, hi.seat, hi.binding⟩
    have hrec := Chassis.port_setPort_self d p { d.port p with state := .disabled }
    exact ⟨by rw [hrec], by rw [hrec]; exact hd.granted, hd.off, hd.seat, by rw [hrec]; exact hd.binding⟩
  refine (Chassis.rests_governed x p).handPwr _ (hR _ _ ?_ hfold)
  exact .of_pwr (fun _ h => h) rfl

theorem Chassis.insertBlade_disabled {x : Ctx} {b : BladeId} {c : Chassis} {p : PortId} (hb : c.blade b = false)
    (hi : c.Inert p) (hp : bladeOf p = b) (he : (x.cfg.port p).enabled = false) :
    ((c.insertBlade x b).port p).state = .disabled := by
  have hR := Chassis.rests_local p
  rw [Chassis.insertBlade_eq hb]
  refine (List.foldlRecOn (motive := Chassis.Rests p) _ _ (Chassis.bladeIn_rests hi hp) fun d hd q hq => ?_).state
  have hq : q ≠ p := fun h => by
    have := (List.mem_filter.1 hq).2
    rw [h, he] at this
    cases this
  exact (hR.moves x).seatRequest (hR.keep x (Chassis.rests_governed x p).outer) hq hd

theorem Chassis.insertBlade_enabled {x : Ctx} {b : BladeId} {c : Chassis} {p : PortId} (hb : c.blade b = false)
    (hi : c.Inert p) (hp : bladeOf p = b) (he : (x.cfg.port p).enabled = true) : (c.insertBlade x b).Awaits p := by
  have hR := Chassis.rests_local p
  have hA := Chassis.awaits_local p
  rw [Chassis.insertBlade_eq hb]
  exact foldl_establishes (Q := Chassis.Rests p) (P := Chassis.Awaits p) (List.mem_filter.2 ⟨mem_portsOf.2 hp, he⟩)
    ((portsOf_nodup b).filter _)
    (fun d q hq hd => (hR.moves x).seatRequest (hR.keep x (Chassis.rests_governed x p).outer) hq hd)
    (fun d _ => d.seatRequest_awaits x p)
    (fun d q hq hd => (hA.moves x).seatRequest (hA.keep x (Chassis.awaits_governed x p).outer) hq hd)
    (Chassis.bladeIn_rests hi hp)

theorem Chassis.insertBlade_inputs {x : Ctx} {b : BladeId} {c : Chassis} (hb : c.blade b = false) :
    (c.insertBlade x b).pwr.inputs = { c.pwr.inputs with blades := c.pwr.inputs.blades + 1 } := by
  have hP := Chassis.inputs_closed x { c.pwr.inputs with blades := c.pwr.inputs.blades + 1 }
  have hfold : ((portsOf b).foldl (fun (c : Chassis) p => c.setPort p { c.port p with state := .disabled })
      { c with blades := c.blades.set b.val true }).pwr.inputs = c.pwr.inputs :=
    List.foldlRecOn (motive := fun d : Chassis => d.pwr.inputs = c.pwr.inputs) _ _ rfl fun _ hd _ _ => hd
  rw [Chassis.insertBlade_eq hb]
  refine List.foldlRecOn
    (motive := fun d : Chassis => d.pwr.inputs = { c.pwr.inputs with blades := c.pwr.inputs.blades + 1 }) _ _ ?_
    fun _ hd _ _ => hP.seatRequest hP.outer trivial hd
  rw [Chassis.bladeIn, Chassis.handPwr_inputs, hfold]

theorem Chassis.insertBlade_blades {x : Ctx} {b : BladeId} {c : Chassis} (hb : c.blade b = false) :
    (c.insertBlade x b).blades = c.blades.set b.val true := by
  have hP := Chassis.blades_closed x (c.blades.set b.val true)
  have hfold : ((portsOf b).foldl (fun (c : Chassis) p => c.setPort p { c.port p with state := .disabled })
      { c with blades := c.blades.set b.val true }).blades = c.blades.set b.val true :=
    List.foldlRecOn (motive := fun d : Chassis => d.blades = c.blades.set b.val true) _ _ rfl fun _ hd _ _ => hd
  rw [Chassis.insertBlade_eq hb]
  exact List.foldlRecOn (motive := fun d : Chassis => d.blades = c.blades.set b.val true) _ _ (hP.handPwr _ hfold)
    fun _ hd _ _ => hP.seatRequest hP.outer trivial hd

/-- Settles O14: the ports of the blade rest in DISABLED until their seat requests, which the enabled ones make. -/
theorem bladeInsertedBringsPortsUp : Obligations.BladeInsertedBringsPortsUp := by
  unfold Obligations.BladeInsertedBringsPortsUp
  refine ⟨fun s b hr hup hb => leaves_of_event hr (exec_bladeInserted hup b) ?_, fun s b hr hup hok hb => ?_⟩
  · have : s.chassis.insertBlade s.ctx b = s.chassis := by
      unfold Chassis.insertBlade
      rw [if_pos hb]
    rw [State.onChassis, this]
  · obtain ⟨t, ht, hbl⟩ := exists_of_event hr (exec_bladeInserted hup b)
    have hinert (p : PortId) (hp : bladeOf p = b) : s.chassis.Inert p :=
      (hok.1 p).inert_of_absent ((hok.1 p).2.2.2.2.2.2 (hp ▸ hb))
    refine ⟨t, ht, (congrArg Blocks.blades hbl).trans (Chassis.insertBlade_blades hb),
      (congrArg Pwr.inputs (pwr_of_blocks hbl)).trans (Chassis.insertBlade_inputs hb), fun p hp he => ?_, fun p hp he => ?_,
      congrArg Blocks.cfg hbl⟩
    · rw [port_of_blocks hbl]
      exact Chassis.insertBlade_disabled hb (hinert p hp) hp he
    · have h : s.chassis.insertBlade s.ctx b |>.Awaits p := Chassis.insertBlade_enabled hb (hinert p hp) hp he
      have hport : t.chassis.port p = (s.chassis.insertBlade s.ctx b).port p := port_of_blocks hbl p
      rw [hport]
      constructor <;> rcases h with h | h | h | h <;> rw [h] <;> exact nofun

end Sys2Proof.Machine

/-! # Port Set (O29) -/

namespace Sys2Proof.Machine

/-! ## The fields of the form (R14) -/

theorem orKeep_isSome {α : Type} {read : Nat → Option α} {o : Option Nat} {old : α} :
    (orKeep o read old).isSome = true ↔ ∀ n ∈ o, (read n).isSome = true := by
  cases o <;> simp [orKeep]

/-- What a field holds that is read as its own number by `num`. -/
theorem orKeep_num {α β : Type} {read : Nat → Option α} {o : Option Nat} {old v : α} (h : orKeep o read old = some v)
    {num : α → β} {f : Nat → β} (hr : ∀ n w, read n = some w → num w = f n) : num v = (o.map f).getD (num old) := by
  cases o with
  | none => cases h; rfl
  | some n => exact hr n v h

theorem upTo_isSome {b n : Nat} : (upTo b n).isSome = true ↔ n ≤ b := by
  unfold upTo
  split <;> simp_all

theorem upTo_eq {b n m : Nat} (h : upTo b n = some m) : m = n := by
  unfold upTo at h
  split at h <;> cases h
  rfl

theorem flagOf?_isSome {n : Nat} : (flagOf? n).isSome = true ↔ n ≤ 1 := by
  by_cases h : n ≤ 1
  · rw [flagOf?_of_le h]; simpa
  · rw [flagOf?_of_gt (Nat.lt_of_not_le h)]; simpa using Nat.lt_of_not_le h

theorem flagOf?_eq {n : Nat} {b : Bool} (h : flagOf? n = some b) : b = (n == 1) := by
  have hn : n ≤ 1 := flagOf?_isSome.1 (by rw [h]; rfl)
  exact Option.some.inj (h.symm.trans (flagOf?_of_le hn))

/-- R14: Port Set reads its four fields one after the other. -/
theorem PortSetForm.apply_eq (f : PortSetForm) (a : PortAdmin) : f.apply a =
    (orKeep f.reqClass RateClass.ofNum? a.reqClass).bind fun cls =>
    (orKeep f.priority (upTo 7) a.priority).bind fun prio =>
    (orKeep f.reducedOk flagOf? a.reducedOk).bind fun red =>
    (orKeep f.drainSecs (upTo 30) a.drainSecs).bind fun drain => some ⟨a.enabled, cls, prio, red, drain⟩ := by
  have ite_bind {α β : Type} (c : Prop) [Decidable c] (a b : Option α) (g : α → Option β) :
      (if c then a else b).bind g = if c then a.bind g else b.bind g := by split <;> rfl
  rcases f with ⟨_, _ | _, _ | _, _ | _, _ | _⟩ <;>
    simp only [PortSetForm.apply, orKeep, upTo, Option.bind_eq_bind, ite_bind, Option.bind_some]

theorem PortSetForm.apply_isSome (f : PortSetForm) (a : PortAdmin) : (f.apply a).isSome = true ↔
    (∀ n ∈ f.reqClass, 1 ≤ n ∧ n ≤ 4) ∧ (∀ n ∈ f.priority, n ≤ 7) ∧ (∀ n ∈ f.reducedOk, n ≤ 1) ∧
      ∀ n ∈ f.drainSecs, n ≤ 30 := by
  have hbind {α β : Type} (o : Option α) (g : α → Option β) (P : Prop) (h : ∀ v, (g v).isSome = true ↔ P) :
      (o.bind g).isSome = true ↔ o.isSome = true ∧ P := by
    cases o <;> simp [h]
  rw [f.apply_eq, hbind _ _ _ fun _ => hbind _ _ _ fun _ => hbind _ _ _ fun _ => hbind _ _ True fun _ => by simp]
  simp only [orKeep_isSome, RateClass.ofNum?_isSome, upTo_isSome, flagOf?_isSome, and_true]

theorem PortSetForm.of_apply {f : PortSetForm} {a new : PortAdmin} (h : f.apply a = some new) :
    new.enabled = a.enabled ∧ new.reqClass.num = f.reqClass.getD a.reqClass.num ∧
      new.priority = f.priority.getD a.priority ∧
      new.reducedOk = (f.reducedOk.map (fun n => n == 1)).getD a.reducedOk ∧
      new.drainSecs = f.drainSecs.getD a.drainSecs := by
  simp only [f.apply_eq, Option.bind_eq_some_iff] at h
  obtain ⟨cls, hcls, prio, hprio, red, hred, drain, hdrain, hnew⟩ := h
  cases hnew
  have h1 := orKeep_num hcls (num := RateClass.num) (f := id) fun n w h => RateClass.ofNum?_eq_some.1 h
  have h2 := orKeep_num hprio (num := id) (f := id) fun n w h => upTo_eq h
  have h3 := orKeep_num hred (num := id) (f := fun n => n == 1) fun n w h => flagOf?_eq h
  have h4 := orKeep_num hdrain (num := id) (f := id) fun n w h => upTo_eq h
  rw [Option.map_id] at h1 h2 h4
  exact ⟨rfl, h1, h2, h3, h4⟩

/-! ## A changed request (R2, R14) -/

theorem Chassis.setPort_setPort (c : Chassis) (p : PortId) (r q : PortRec) : (c.setPort p r).setPort p q = c.setPort p q := by
  unfold Chassis.setPort
  rw [Vector.set_set]

/-- R14: a grant that the ceiling still covers stays. -/
theorem Chassis.ceilingFell_of_le {x : Ctx} {h : Hooks} {p : PortId} {c : Chassis}
    (hle : ∀ g ∈ (c.port p).granted, ∀ k ∈ (c.port p).effCeil, g.num ≤ k.num) : c.ceilingFell x h p = c := by
  unfold Chassis.ceilingFell
  dsimp only
  split
  · rename_i g k hg hk
    rw [if_neg (Nat.not_lt.2 (hle g hg k hk))]
  · rfl

theorem Chassis.ceilingFell_of_lt {x : Ctx} {h : Hooks} {p : PortId} {c : Chassis} {g k : RateClass}
    (hg : (c.port p).granted = some g) (hk : (c.port p).effCeil = some k) (hlt : k.num < g.num) :
    ((c.port p).state = .linkWait ∨ (c.port p).state = .online → c.ceilingFell x h p = c.reenableLower x h p k) ∧
      ∀ t due, (c.port p).state = .draining t due → c.ceilingFell x h p = c.drainEnd x h p t := by
  refine ⟨fun hs => ?_, fun t due hs => ?_⟩
  · rcases hs with hs | hs <;> simp only [Chassis.ceilingFell, hg, hk, hs, if_pos hlt]
  · simp only [Chassis.ceilingFell, hg, hk, hs, if_pos hlt]

theorem Chassis.requestChanged_eq (x : Ctx) (h : Hooks) (p : PortId) (c : Chassis) : c.requestChanged x h p =
    Chassis.ceilingFell x h p
      (c.setPort p { c.port p with effCeil := effective (x.cfg.port p).reqClass (c.port p).seatCeil }) := rfl

/-- R14: what a Port Set within its ranges does, by what it changes. -/
theorem State.portSet_of_apply {f : PortSetForm} {s : State} {new : PortAdmin} (h : f.apply (s.cfg.port f.port) = some new) :
    let e : State := { s with cfg := s.cfg.setPort f.port new }
    (new.reqClass = (s.cfg.port f.port).reqClass → new.priority = (s.cfg.port f.port).priority →
      s.portSet f = (e, plain .done)) ∧
    (new.reqClass = (s.cfg.port f.port).reqClass → new.priority ≠ (s.cfg.port f.port).priority →
      s.portSet f = (e.onChassis Chassis.evaluate, plain .done)) ∧
    (new.reqClass ≠ (s.cfg.port f.port).reqClass →
      s.portSet f = ((e.onChassis fun x => Chassis.requestChanged x (outer x) f.port).onChassis Chassis.evaluate,
        plain .done)) := by
  refine ⟨fun hc hp => ?_, fun hc hp => ?_, fun hc => ?_⟩
  · simp only [State.portSet, h, if_pos hc, if_pos (And.intro hc hp)]
  · simp only [State.portSet, h, if_pos hc, if_neg fun hn : _ ∧ _ => hp hn.2]
  · simp only [State.portSet, h, if_neg hc, if_neg fun hn : _ ∧ _ => hc hn.1]

/-- Settles O29: the form by its fields, the effects by what a fallen ceiling does. -/
theorem portSetBringsGrantDown : Obligations.PortSetBringsGrantDown := by
  unfold Obligations.PortSetBringsGrantDown
  refine ⟨fun f old => ⟨f.apply_isSome old, fun new h => PortSetForm.of_apply h⟩, fun s pr f h => ?_⟩
  intro p old r
  refine ⟨fun hn => leaves_of_act rfl h ?_, fun new ha => ?_⟩
  · simp only [State.portSet, show f.apply (s.cfg.port f.port) = none from hn]
    rfl
  · intro e ceil told
    obtain ⟨hsame, hprio, hclass⟩ := State.portSet_of_apply ha
    have hx : (e.ctx.cfg.port p).reqClass = new.reqClass := congrArg PortAdmin.reqClass (Settings.port_setPort_self ..)
    have htold : s.chassis.requestChanged e.ctx (outer e.ctx) p = told.ceilingFell e.ctx (outer e.ctx) p := by
      rw [Chassis.requestChanged_eq, hx]
    have hrec : told.port p = { r with effCeil := ceil } := Chassis.port_setPort_self ..
    have hact (hn : new.reqClass ≠ old.reqClass) {c : Chassis} (hc : told.ceilingFell e.ctx (outer e.ctx) p = c) :
        Leaves .portSet s (State.answer ⟨.done, []⟩ { e with chassis := c.evaluate e.ctx }) := by
      refine leaves_of_act rfl h ((hclass hn).trans ?_)
      rw [← hc, ← htold]
      rfl
    refine ⟨fun hc hp => leaves_of_act rfl h (hsame hc hp), fun hc hp => leaves_of_act rfl h (hprio hc hp),
      fun hn hle => hact hn (Chassis.ceilingFell_of_le (by rw [hrec]; exact hle)), fun g k hn hg hk hlt => ?_⟩
    obtain ⟨hlow, hdrain⟩ := Chassis.ceilingFell_of_lt (x := e.ctx) (h := outer e.ctx) (c := told) (p := p)
      (by rw [hrec]; exact hg) (by rw [hrec]; exact hk) hlt
    rw [hrec] at hlow hdrain
    refine ⟨fun hst => hact hn ((hlow hst).trans ?_), fun t due hst => hact hn (hdrain t due hst)⟩
    unfold Chassis.reenableLower
    dsimp only
    rw [hrec, outer_eval, Chassis.setPort_setPort]

end Sys2Proof.Machine

/-! # Seat choice and seat release (R83, R85; O38) -/

namespace Sys2Proof.Machine

/-! ## Seat choice (R83) -/

/-- An Active licence in scope of the port with a free seat. -/
def Chassis.Fits (c : Chassis) (p : PortId) (l : Licence) : Prop :=
  l ∈ c.licences ∧ l.record.state = .active ∧ l.bound.length < l.record.seats ∧
    (l.record.scope = [] ∨ bladeOf p ∈ l.record.scope)

theorem Chassis.mem_candidates {c : Chassis} {p : PortId} {l : Licence} :
    l ∈ c.licences.filter (Licence.candidate (bladeOf p)) ↔ c.Fits p l := by
  simp only [Chassis.Fits, List.mem_filter, Licence.candidate, LicenceRec.inScope, Bool.and_eq_true, beq_iff_eq,
    decide_eq_true_eq, Bool.or_eq_true, List.isEmpty_iff, List.contains_iff_mem, and_assoc]

theorem Chassis.seatChoice_eq_none {x : Ctx} {c : Chassis} {p : PortId} :
    c.seatChoice x p = none ↔ ∀ l, ¬ c.Fits p l := by
  have hn : c.seatChoice x p = none ↔ c.licences.filter (Licence.candidate (bladeOf p)) = [] := by
    unfold Chassis.seatChoice
    rw [Option.map_eq_none_iff]
    exact ⟨lowest_eq_none, fun h => by rw [h]; rfl⟩
  rw [hn, List.eq_nil_iff_forall_not_mem]
  exact forall_congr' fun l => not_congr Chassis.mem_candidates

theorem RateClass.num_bounds (k : RateClass) : 1 ≤ k.num ∧ k.num ≤ 4 := by cases k <;> decide

/-- R83: what a rank no higher than another's says. -/
theorem LicenceRec.of_rank_le {r : RateClass} {l m : LicenceRec} (h : l.rank r ≤ m.rank r) :
    (r.num ≤ m.ceiling.num → r.num ≤ l.ceiling.num ∧ l.ceiling.num ≤ m.ceiling.num) ∧
    (l.ceiling.num < r.num → m.ceiling.num ≤ l.ceiling.num) ∧
    (m.ceiling = l.ceiling → l.term.isSome = true → m.term.isSome = true) ∧
    (m.ceiling = l.ceiling → m.term.isSome = l.term.isSome → l.id.toNat ≤ m.id.toNat) := by
  have hl := l.id.isLt
  have hm := m.id.isLt
  have hcl := RateClass.num_bounds l.ceiling
  have hcm := RateClass.num_bounds m.ceiling
  unfold LicenceRec.rank at h
  dsimp only at h
  refine ⟨fun hr => ?_, fun hr => ?_, fun hc ht => ?_, fun hc ht => ?_⟩
  · rw [if_pos hr] at h
    split at h <;> split at h <;> split at h <;> omega
  · rw [if_neg (Nat.not_le.2 hr)] at h
    by_contra hn
    split at h <;> split at h <;> split at h <;> omega
  · rw [hc, if_pos ht] at h
    by_contra hn
    rw [if_neg hn] at h
    omega
  · rw [hc, ht] at h
    omega

theorem Chassis.seatChoice_best {x : Ctx} {c : Chassis} {p : PortId} (h : ∃ l, c.Fits p l) :
    ∃ l, c.Fits p l ∧ c.seatChoice x p = some l.record ∧
      ∀ m, c.Fits p m → l.record.rank (x.cfg.port p).reqClass ≤ m.record.rank (x.cfg.port p).reqClass := by
  have hne : c.seatChoice x p ≠ none := fun hn => by
    obtain ⟨l, hl⟩ := h
    exact Chassis.seatChoice_eq_none.1 hn l hl
  obtain ⟨r, hr⟩ := Option.ne_none_iff_exists'.1 hne
  obtain ⟨l, hl, rfl⟩ := Option.map_eq_some_iff.1 hr
  exact ⟨l, Chassis.mem_candidates.1 (lowest_mem hl), hr, fun m hm => rank_le_of_lowest hl m (Chassis.mem_candidates.2 hm)⟩

/-! ## Seat release (R85) -/

theorem Chassis.setGrace_dirty {p : PortId} {n : Nat} {c : Chassis} (h : c.graceOf p ≠ n) :
    (c.setGrace p n).licencesDirty = true := by
  unfold Chassis.setGrace
  rw [if_neg h]

/-- R85: by the kind of the binding. -/
theorem Chassis.seatRelease_cases (x : Ctx) (p : PortId) (c : Chassis) :
    let cleared := c.setPort p { c.port p with binding := .none, seatCeil := none, effCeil := none }
    let d := c.seatRelease x (outer x) p
    ((c.port p).binding = .none → d = cleared) ∧
    (∀ id, (c.port p).binding = .licence id → d = Chassis.pass x { cleared with
      licences := c.licences.map (fun l =>
        if l.record.id = id then { l with bound := l.bound.filter (fun q => q != p) } else l) }) ∧
    ((c.port p).binding = .counted → d.ports = cleared.ports ∧ d.graceOf p = 0 ∧ d.licences = c.licences ∧
      (c.graceOf p ≠ 0 → d.licencesDirty = true) ∧ d.seatWait = c.seatWait) ∧
    ((c.port p).binding = .drainHold → d.ports = cleared.ports ∧ d.grace = c.grace ∧ d.licences = c.licences) := by
  intro cleared d
  have hd : d = c.seatRelease x (outer x) p := rfl
  unfold Chassis.seatRelease at hd
  refine ⟨fun hb => ?_, fun id hb => ?_, fun hb => ?_, fun hb => ?_⟩ <;> rw [hb] at hd <;> dsimp only at hd
  · exact hd
  · rw [hd, outer_pass]
    refine congrArg (Chassis.pass x) ?_
    show { cleared with licences := _ } = { cleared with licences := _ }
    congr 1
    refine List.map_congr_left fun l _ => ?_
    simp only [beq_iff_eq]
  · have hg : d = (cleared.setGrace p 0).judgeGrace x := hd
    rw [hg]
    exact ⟨Chassis.setGrace_ports .., Chassis.graceOf_setGrace .., Chassis.setGrace_licences ..,
      fun h0 => Chassis.setGrace_dirty h0, Chassis.setGrace_seatWait ..⟩
  · rw [hd]
    exact ⟨rfl, rfl, rfl⟩

end Sys2Proof.Machine

/-! # Binding passes come to an end (R87; O38)

Inside a binding pass a licence seat is given back only at the end of a drain, which marks that another pass is due.
Until then seats are taken only, so that what found no seat finds none later. -/

namespace Sys2Proof.Machine

/-! ## What SEAT sees of a move -/

/-- Licences, seat wait list, due mark and bindings stay, and no port starts to drain. -/
structure Chassis.SeatSame (c d : Chassis) : Prop where
  licences : d.licences = c.licences
  seatWait : d.seatWait = c.seatWait
  passDue : d.passDue = c.passDue
  binding : ∀ q, (d.port q).binding = (c.port q).binding
  draining : ∀ q, (d.port q).state.isDraining = true → (c.port q).state.isDraining = true

theorem Chassis.seatChoice_congr {x : Ctx} {c d : Chassis} (h : d.licences = c.licences) (q : PortId) :
    d.seatChoice x q = c.seatChoice x q := by
  unfold Chassis.seatChoice
  rw [h]

namespace Chassis.SeatSame

variable {c d e : Chassis}

theorem refl (c : Chassis) : c.SeatSame c := ⟨rfl, rfl, rfl, fun _ => rfl, fun _ => id⟩

theorem trans (h : c.SeatSame d) (h' : d.SeatSame e) : c.SeatSame e :=
  ⟨h'.licences.trans h.licences, h'.seatWait.trans h.seatWait, h'.passDue.trans h.passDue,
    fun q => (h'.binding q).trans (h.binding q), fun q hq => h.draining q (h'.draining q hq)⟩

theorem of_eq (hl : d.licences = c.licences) (hs : d.seatWait = c.seatWait) (hd : d.passDue = c.passDue)
    (hp : d.ports = c.ports) : c.SeatSame d := by
  have hport (q : PortId) : d.port q = c.port q := by unfold Chassis.port; rw [hp]
  exact ⟨hl, hs, hd, fun q => by rw [hport], fun q h => by rwa [hport] at h⟩

theorem setPort (p : PortId) {r : PortRec} (hb : r.binding = (c.port p).binding)
    (hs : r.state.isDraining = true → (c.port p).state.isDraining = true) : c.SeatSame (c.setPort p r) := by
  refine ⟨rfl, rfl, rfl, fun q => ?_, fun q hq => ?_⟩ <;> by_cases h : q = p
  · rw [h, Chassis.port_setPort_self, hb]
  · rw [Chassis.port_setPort_ne _ _ h]
  · subst h
    rw [Chassis.port_setPort_self] at hq
    exact hs hq
  · rwa [Chassis.port_setPort_ne _ _ h] at hq

theorem putControl (x : Ctx) (p : PortId) (k : Control) (c : Chassis) : c.SeatSame (c.putControl x p k) :=
  of_eq (Chassis.putControl_licences ..) (Chassis.putControl_seatWait ..) (Chassis.putControl_passDue ..)
    (Chassis.putControl_ports ..)

theorem leaveWait (x : Ctx) (p : PortId) (c : Chassis) : c.SeatSame (c.leaveWait x p) := by
  obtain ⟨a, b, w, h⟩ := c.leaveWait_frame x p
  rw [h]
  exact of_eq rfl rfl rfl rfl

theorem offerGrant (x : Ctx) (e : WaitEntry) (c : Chassis) : c.SeatSame (c.offerGrant x e) := by
  unfold Chassis.offerGrant
  split
  · exact refl c
  · dsimp only
    split
    · exact refl c
    · rename_i g _
      have h1 : c.SeatSame (c.takeGrant x e.port g) :=
        (setPort e.port (r := { c.port e.port with state := .linkWait, granted := some g }) rfl nofun).trans (putControl ..)
      exact (h1.trans (leaveWait x e.port _)).trans (of_eq rfl rfl rfl rfl)

theorem openEpisode (x : Ctx) (c : Chassis) : c.SeatSame (c.openEpisode x) := by
  unfold Chassis.openEpisode
  split <;> exact of_eq rfl rfl rfl rfl

theorem closeEpisode (x : Ctx) (c : Chassis) : c.SeatSame (c.closeEpisode x) := by
  obtain ⟨a, b, h⟩ := c.closeEpisode_frame x
  rw [h]
  exact of_eq rfl rfl rfl rfl

theorem judgePowerWait (x : Ctx) (c : Chassis) : c.SeatSame (c.judgePowerWait x) := by
  obtain ⟨a, b, w, h⟩ := c.judgePowerWait_frame x
  rw [h]
  exact of_eq rfl rfl rfl rfl

end Chassis.SeatSame

/-! ## Properties that passes keep -/

/-- The hooks of a binding pass, for what an evaluation in it does. -/
def inPass (eval : Chassis → Chassis) : Hooks := ⟨eval, Chassis.markPass⟩

section Same

variable {x : Ctx} {P : Chassis → Prop} (hs : ∀ c d, Chassis.SeatSame c d → P c → P d) {eval : Chassis → Chassis}
  (he : ∀ c, P c → P (eval c))
include hs he

theorem reenableLower_of_same (p : PortId) (g : RateClass) {c : Chassis} (hc : P c) :
    P (c.reenableLower x (inPass eval) p g) := by
  refine he _ (hs c _ ?_ hc)
  exact ((Chassis.SeatSame.setPort p (r := { c.port p with granted := some g, state := .linkWait, negotiated := none }) rfl
    nofun).trans (.putControl ..)).trans (.of_eq rfl rfl rfl rfl)

theorem grantRequest_of_same (p : PortId) {c : Chassis} (hc : P c) : P (c.grantRequest x (inPass eval) p) := by
  unfold Chassis.grantRequest
  split
  · exact hc
  · refine he _ (hs c _ ?_ hc)
    exact .of_eq rfl rfl rfl rfl

theorem grantRelease_of_same (p : PortId) {c : Chassis} (hc : P c) : P (c.grantRelease x (inPass eval) p) := by
  unfold Chassis.grantRelease
  split
  · refine he _ (hs c _ ?_ hc)
    exact (Chassis.SeatSame.setPort p (r := { c.port p with granted := none }) rfl id).trans (.leaveWait ..)
  · exact hc

end Same

/-- A property of what SEAT sees that the end of a drain keeps. -/
structure Chassis.PassKept (x : Ctx) (P : Chassis → Prop) : Prop where
  same : ∀ c d, Chassis.SeatSame c d → P c → P d
  drainEnd : ∀ eval c p t, (∀ c, P c → P (eval c)) → (c.port p).state.isDraining = true → P c →
    P (c.drainEnd x (inPass eval) p t)

namespace Chassis.PassKept

variable {x : Ctx} {P : Chassis → Prop} (hP : Chassis.PassKept x P)
include hP

theorem revoke {eval : Chassis → Chassis} (he : ∀ c, P c → P (eval c)) (p : PortId) {c : Chassis} (hc : P c) :
    P (c.revoke x (inPass eval) p) := by
  have shed : P ((((c.setPort p { c.port p with state := .shed, granted := none, negotiated := none }).putControl x p
      .disable).removeLogins p).joinWait x p .shed) := by
    refine hP.same _ _ ?_ hc
    exact ((Chassis.SeatSame.setPort p (r := { c.port p with state := .shed, granted := none, negotiated := none }) rfl
      nofun).trans (.putControl ..)).trans (.of_eq rfl rfl rfl rfl)
  have gone : P (c.setPort p { c.port p with granted := none }) := hP.same _ _ (.setPort p rfl id) hc
  unfold Chassis.revoke
  dsimp only
  split
  · exact shed
  · exact shed
  · rename_i hst
    exact hP.drainEnd eval _ p _ he (by rw [Chassis.port_setPort_self]; exact congrArg PortState.isDraining hst) gone
  · exact gone

theorem shedLoop {eval : Chassis → Chassis} (he : ∀ c, P c → P (eval c)) (budget n : Nat) {c : Chassis} (any : Bool)
    (hc : P c) : P (c.shedLoop x (inPass eval) budget n any).1 := by
  induction n generalizing c any with
  | zero => exact hc
  | succ n ih =>
    unfold Chassis.shedLoop
    split
    · exact hc
    · split
      · exact hc
      · exact ih _ (hP.revoke he _ hc)

theorem shedOrGrant {c : Chassis} (hc : P c) : P (c.shedOrGrant x (inPass id)) := by
  have hl := hP.shedLoop (eval := id) (fun _ h => h) c.pwr.budget 256 false hc
  unfold Chassis.shedOrGrant
  split
  · unfold Chassis.shedPass
    dsimp only
    split
    · exact hP.same _ _ (.openEpisode ..) (hP.same (c.shedLoop x (inPass id) c.pwr.budget 256 false).1 _
        (.of_eq rfl rfl rfl rfl) hl)
    · exact hl
  · split
    · exact List.foldlRecOn (motive := P) _ _ hc fun d hd e _ => hP.same _ _ (.offerGrant x e d) hd
    · exact hc

theorem evaluateInPass {c : Chassis} (hc : P c) : P (c.evaluateInPass x) := by
  unfold Chassis.evaluateInPass Chassis.evaluateWith
  split
  · exact hP.same _ _ (.judgePowerWait ..) (hP.same _ _ (.closeEpisode ..)
      (hP.shedOrGrant (hP.same c _ (.of_eq rfl rfl rfl rfl) hc)))
  · exact hc

section Eval

variable {eval : Chassis → Chassis} (he : ∀ c, P c → P (eval c))
include he

theorem ceilingFell (p : PortId) {c : Chassis} (hc : P c) : P (c.ceilingFell x (inPass eval) p) := by
  unfold Chassis.ceilingFell
  dsimp only
  split
  · split
    · split
      · exact reenableLower_of_same hP.same he _ _ hc
      · exact reenableLower_of_same hP.same he _ _ hc
      · rename_i hst
        exact hP.drainEnd eval _ p _ he (congrArg PortState.isDraining hst) hc
      · exact hc
    · exact hc
  · exact hc

end Eval

end Chassis.PassKept

/-! ## The end of a drain inside a pass (R17) -/

/-- The port at rest in DISABLED, before its seat is released. -/
def Chassis.drained (x : Ctx) (h : Hooks) (p : PortId) (c : Chassis) : Chassis :=
  let d := ((c.removeLogins p).grantRelease x h p).putControl x p .disable
  d.setPort p { d.port p with state := .disabled, negotiated := none }

theorem Chassis.drainEnd_eq_disabled (x : Ctx) (h : Hooks) (p : PortId) (c : Chassis) :
    c.drainEnd x h p .disabled = (c.drained x h p).seatRelease x h p := rfl

theorem Chassis.drainEnd_eq_unseated (x : Ctx) (h : Hooks) (p : PortId) (c : Chassis) :
    c.drainEnd x h p .unseated = ((c.drained x h p).seatRelease x h p).seatRequest x h p := rfl

theorem Chassis.drained_state (x : Ctx) (h : Hooks) (p : PortId) (c : Chassis) :
    ((c.drained x h p).port p).state = .disabled := by
  unfold Chassis.drained
  dsimp only
  rw [Chassis.port_setPort_self]

theorem drained_of_same {x : Ctx} {P : Chassis → Prop} (hs : ∀ c d, Chassis.SeatSame c d → P c → P d)
    {eval : Chassis → Chassis} (he : ∀ c, P c → P (eval c)) (p : PortId) {c : Chassis} (hc : P c) :
    P (c.drained x (inPass eval) p) := by
  have h1 : P ((c.removeLogins p).grantRelease x (inPass eval) p) :=
    grantRelease_of_same hs he p (hs c _ (.of_eq rfl rfl rfl rfl) hc)
  exact hs _ _ (.setPort p rfl nofun) (hs _ _ (.putControl ..) h1)

/-! ## What finds no seat finds none until a seat is given back -/

theorem Chassis.Fits.of_bindSeat {c : Chassis} {id : Word16} {p q : PortId} {l : Licence} (h : (c.bindSeat id p).Fits q l) :
    ∃ m, c.Fits q m := by
  obtain ⟨hm, hst, hlen, hsc⟩ := h
  obtain ⟨m, hmem, rfl⟩ := List.mem_map.1 hm
  refine ⟨m, hmem, ?_⟩
  split at hst
  · rename_i hid
    rw [if_pos hid] at hlen hsc
    exact ⟨hst, Nat.lt_of_succ_lt (by simpa using hlen), hsc⟩
  · rename_i hid
    rw [if_neg hid] at hlen hsc
    exact ⟨hst, hlen, hsc⟩

theorem Chassis.seatChoice_bindSeat {x : Ctx} {c : Chassis} (id : Word16) (p : PortId) {q : PortId}
    (h : c.seatChoice x q = none) : (c.bindSeat id p).seatChoice x q = none := by
  rw [Chassis.seatChoice_eq_none] at h ⊢
  intro l hl
  obtain ⟨m, hm⟩ := hl.of_bindSeat
  exact h m hm

/-- Another pass is due, or port `q` finds no seat: where `g` says so if it holds a counted grace binding, where `w` says
so if it stands on the seat wait list. -/
def Chassis.SeatDone (x : Ctx) (q : PortId) (g w : Prop) (c : Chassis) : Prop :=
  c.passDue = true ∨ ((g → (c.port q).binding = .counted → c.seatChoice x q = none) ∧
    (w → q ∈ c.seatWait → c.seatChoice x q = none))

section SeatDone

variable {x : Ctx} {q : PortId} {g w : Prop} {c : Chassis}

theorem seatDone_same (c d : Chassis) (h : c.SeatSame d) (hc : c.SeatDone x q g w) : d.SeatDone x q g w := by
  unfold Chassis.SeatDone
  rw [h.passDue, h.binding, h.seatWait, Chassis.seatChoice_congr h.licences]
  exact hc

theorem Chassis.SeatDone.bindSeat (l : Word16) (p : PortId) (hc : c.SeatDone x q g w) :
    (c.bindSeat l p).SeatDone x q g w :=
  hc.imp id fun ⟨h1, h2⟩ => ⟨fun hg hb => Chassis.seatChoice_bindSeat _ p (h1 hg hb),
    fun hw hm => Chassis.seatChoice_bindSeat _ p (h2 hw hm)⟩

/-- A port that finds no seat may be bound in any way. -/
theorem Chassis.SeatDone.setPort (p : PortId) (r : PortRec) (hc : c.SeatDone x q g w)
    (h : r.binding ≠ .counted ∨ c.seatChoice x p = none) : (c.setPort p r).SeatDone x q g w := by
  refine hc.imp id fun ⟨h1, h2⟩ => ⟨fun hg hb => ?_, h2⟩
  by_cases hq : q = p
  · subst hq
    rw [Chassis.port_setPort_self] at hb
    exact h.elim (fun hn => absurd hb hn) id
  · rw [Chassis.port_setPort_ne _ _ hq] at hb
    exact h1 hg hb

theorem Chassis.SeatDone.setGrace (p : PortId) (n : Nat) (hc : c.SeatDone x q g w) : (c.setGrace p n).SeatDone x q g w := by
  obtain ⟨v, b, h⟩ := c.setGrace_frame p n
  rw [h]
  exact seatDone_same c _ (.of_eq rfl rfl rfl rfl) hc

theorem Chassis.SeatDone.seatRelease {eval : Chassis → Chassis} (p : PortId) (hc : c.SeatDone x q g w) :
    (c.seatRelease x (inPass eval) p).SeatDone x q g w := by
  have hclear := hc.setPort p { c.port p with binding := .none, seatCeil := none, effCeil := none } (.inl nofun)
  unfold Chassis.seatRelease
  dsimp only
  split
  · exact hclear
  · exact .inl rfl
  · exact seatDone_same _ _ (.of_eq rfl rfl rfl rfl) (hclear.setGrace p 0)
  · exact seatDone_same _ _ (.of_eq rfl rfl rfl rfl) hclear

section Eval

variable {eval : Chassis → Chassis} (he : ∀ c, Chassis.SeatDone x q g w c → Chassis.SeatDone x q g w (eval c))
include he

theorem Chassis.SeatDone.seatBound (p : PortId) (b : Binding) (k : RateClass) (hc : c.SeatDone x q g w)
    (h : b ≠ .counted ∨ c.seatChoice x p = none) : (c.seatBound x (inPass eval) p b k).SeatDone x q g w :=
  grantRequest_of_same seatDone_same he p (hc.setPort p _ h)

theorem Chassis.SeatDone.seatRequest (p : PortId) (hc : c.SeatDone x q g w) :
    (c.seatRequest x (inPass eval) p).SeatDone x q g w := by
  unfold Chassis.seatRequest
  split
  · rename_i l _
    exact ((hc.bindSeat l.id p).setGrace p 0).seatBound he p _ _ (.inl nofun)
  · rename_i hn
    split
    · exact hc.seatBound he p _ _ (.inr hn)
    · refine (hc.setPort p { c.port p with state := .unseated } (.inr hn)).imp id fun ⟨h1, h2⟩ => ⟨h1, fun hw hm => ?_⟩
      rcases List.mem_append.1 hm with hm | hm
      · exact h2 hw hm
      · rw [List.mem_singleton.1 hm]
        exact hn

end Eval

theorem seatDone_kept (x : Ctx) (q : PortId) (g w : Prop) : Chassis.PassKept x (Chassis.SeatDone x q g w) where
  same := seatDone_same
  drainEnd eval c p t he _ hc := by
    have h1 := (drained_of_same (x := x) seatDone_same he p hc).seatRelease (eval := eval) p
    cases t with
    | disabled => exact h1
    | unseated => exact h1.seatRequest he p

theorem Chassis.SeatDone.serveGrace {eval : Chassis → Chassis}
    (he : ∀ c, Chassis.SeatDone x q g w c → Chassis.SeatDone x q g w (eval c)) (p : PortId) (hc : c.SeatDone x q g w) :
    (Chassis.serveGrace x (inPass eval) c p).SeatDone x q g w := by
  unfold Chassis.serveGrace
  split
  · split
    · rename_i l _
      exact (seatDone_kept x q g w).ceilingFell he p (((hc.bindSeat l.id p).setGrace p 0).setPort p _ (.inl nofun))
    · exact hc
  · exact hc

theorem Chassis.SeatDone.leaveSeatWait (p : PortId) (hc : c.SeatDone x q g w) : (c.leaveSeatWait p).SeatDone x q g w :=
  hc.imp id fun ⟨h1, h2⟩ => ⟨h1, fun hw hm => h2 hw (List.mem_filter.1 hm).1⟩

theorem Chassis.SeatDone.serveWaiting {eval : Chassis → Chassis}
    (he : ∀ c, Chassis.SeatDone x q g w c → Chassis.SeatDone x q g w (eval c)) (p : PortId) (hc : c.SeatDone x q g w) :
    (Chassis.serveWaiting x (inPass eval) c p).SeatDone x q g w := by
  unfold Chassis.serveWaiting
  split
  · split
    · rename_i l _
      exact ((hc.leaveSeatWait p).bindSeat l.id p).seatBound he p _ _ (.inl nofun)
    · exact hc
  · exact hc

/-- The first part of a pass serves a counted grace binding. -/
theorem seatDone_of_serveGrace {eval : Chassis → Chassis}
    (he : ∀ c, Chassis.SeatDone x q True False c → Chassis.SeatDone x q True False (eval c)) (c : Chassis) :
    (Chassis.serveGrace x (inPass eval) c q).SeatDone x q True False := by
  unfold Chassis.serveGrace
  split
  · split
    · refine (seatDone_kept x q True False).ceilingFell he q (.inr ⟨fun _ hb => ?_, nofun⟩)
      rw [Chassis.port_setPort_self] at hb
      cases hb
    · rename_i hn
      exact .inr ⟨fun _ _ => hn, nofun⟩
  · rename_i hb
    exact .inr ⟨fun _ h => absurd h hb, nofun⟩

/-- The second part serves a port of the seat wait list. -/
theorem seatDone_of_serveWaiting {eval : Chassis → Chassis}
    (he : ∀ c, Chassis.SeatDone x q True True c → Chassis.SeatDone x q True True (eval c)) {c : Chassis}
    (hc : c.SeatDone x q True False) : (Chassis.serveWaiting x (inPass eval) c q).SeatDone x q True True := by
  have hleft (hq : q ∉ c.seatWait) : c.SeatDone x q True True := hc.imp id fun h => ⟨h.1, fun _ hm => absurd hm hq⟩
  unfold Chassis.serveWaiting
  split
  · split
    · rename_i l _
      have h0 : (c.leaveSeatWait q).SeatDone x q True True := (hc.leaveSeatWait q).imp id fun h => ⟨h.1, fun _ hm => by
        have := (List.mem_filter.1 hm).2
        simp at this⟩
      exact (h0.bindSeat l.id q).seatBound he q _ _ (.inl nofun)
    · rename_i hn
      exact hc.imp id fun h => ⟨h.1, fun _ _ => hn⟩
  · rename_i hw
    exact hleft fun hm => hw (List.contains_iff_mem.2 hm)

end SeatDone

/-- A fold in which one element establishes a property that every element keeps. -/
theorem foldl_reaches {α β : Type} {Q P : β → Prop} {f : β → α → β} {a : α} {l : List α} (ha : a ∈ l)
    (before : ∀ c b, Q c → Q (f c b)) (at_elem : ∀ c, Q c → P (f c a)) (after : ∀ c b, P c → P (f c b)) {c : β} (hc : Q c) :
    P (l.foldl f c) := by
  obtain ⟨as, bs, rfl⟩ := List.append_of_mem ha
  rw [List.foldl_append, List.foldl_cons]
  have h1 : Q (as.foldl f c) := List.foldlRecOn (motive := Q) _ _ hc fun d hd b _ => before d b hd
  exact List.foldlRecOn (motive := P) _ _ (at_elem _ h1) fun d hd b _ => after d b hd

/-- R87: after a pass that gave no seat back no port that waits finds one. -/
theorem Chassis.onePass_seatDone (x : Ctx) (q : PortId) (c : Chassis) :
    (c.onePass x (inPass (Chassis.evaluateInPass x))).SeatDone x q True True := by
  have he (g w : Prop) (c : Chassis) : c.SeatDone x q g w → (Chassis.evaluateInPass x c).SeatDone x q g w :=
    (seatDone_kept x q g w).evaluateInPass
  have h1 : (allPorts.foldl (Chassis.serveGrace x (inPass (Chassis.evaluateInPass x))) c).SeatDone x q True False :=
    foldl_reaches (Q := fun _ => True) (P := Chassis.SeatDone x q True False) (a := q) (List.mem_finRange q)
      (fun _ _ _ => trivial) (fun c _ => seatDone_of_serveGrace (he _ _) c) (fun _ p hc => hc.serveGrace (he _ _) p) trivial
  unfold Chassis.onePass
  dsimp only
  generalize allPorts.foldl (Chassis.serveGrace x (inPass (Chassis.evaluateInPass x))) c = c1 at h1 ⊢
  by_cases hq : q ∈ c1.seatWait
  · exact foldl_reaches (Q := Chassis.SeatDone x q True False) (P := Chassis.SeatDone x q True True) hq
      (fun _ p hc => hc.serveWaiting (he _ _) p) (fun _ hc => seatDone_of_serveWaiting (he _ _) hc)
      (fun _ p hc => hc.serveWaiting (he _ _) p) h1
  · have h2 : c1.SeatDone x q True True := h1.imp id fun h => ⟨h.1, fun _ hm => absurd hm hq⟩
    exact List.foldlRecOn (motive := Chassis.SeatDone x q True True) _ _ h2 fun _ hc p _ => hc.serveWaiting (he _ _) p

end Sys2Proof.Machine

/-! # Binding passes (R87; O38) -/

namespace Sys2Proof.Machine

/-! ## Each pass that gives a seat back ends a drain -/

/-- The ports in DRAINING. -/
def Chassis.drainers (c : Chassis) : Finset PortId := Finset.univ.filter fun q => (c.port q).state.isDraining = true

theorem Chassis.mem_drainers {c : Chassis} {q : PortId} : q ∈ c.drainers ↔ (c.port q).state.isDraining = true := by
  simp [Chassis.drainers]

/-- Ports of `D` alone drain, and not all of them where another pass is due. -/
def Chassis.DrainsIn (D : Finset PortId) (c : Chassis) : Prop :=
  c.drainers ⊆ D ∧ (c.passDue = true → c.drainers ≠ D)

/-- Ports of `D` alone drain, and not all of them. -/
def Chassis.DrainsBelow (D : Finset PortId) (c : Chassis) : Prop := c.drainers ⊆ D ∧ c.drainers ≠ D

section Drains

variable {D : Finset PortId} {c : Chassis}

theorem Chassis.DrainsBelow.drainsIn (h : c.DrainsBelow D) : c.DrainsIn D := ⟨h.1, fun _ => h.2⟩

theorem Chassis.DrainsBelow.mono {d : Chassis} (h : c.DrainsBelow D) (hd : d.drainers ⊆ c.drainers) : d.DrainsBelow D :=
  ⟨hd.trans h.1, fun he => h.2 (h.1.antisymm (he ▸ hd))⟩

theorem Chassis.DrainsIn.mono {d : Chassis} (h : c.DrainsIn D) (hp : d.passDue = c.passDue) (hd : d.drainers ⊆ c.drainers) :
    d.DrainsIn D :=
  ⟨hd.trans h.1, fun hdue he => h.2 (hp ▸ hdue) (h.1.antisymm (he ▸ hd))⟩

theorem Chassis.SeatSame.drainers {d : Chassis} (h : c.SeatSame d) : d.drainers ⊆ c.drainers := fun q hq =>
  Chassis.mem_drainers.2 (h.draining q (Chassis.mem_drainers.1 hq))

theorem Chassis.drainers_of_ports {d : Chassis} (h : d.ports = c.ports) : d.drainers = c.drainers := by
  unfold Chassis.drainers Chassis.port
  rw [h]

theorem Chassis.drainers_setPort (p : PortId) {r : PortRec}
    (hr : r.state.isDraining = true → (c.port p).state.isDraining = true) : (c.setPort p r).drainers ⊆ c.drainers := by
  intro q hq
  rw [Chassis.mem_drainers] at hq ⊢
  by_cases h : q = p
  · subst h
    rw [Chassis.port_setPort_self] at hq
    exact hr hq
  · rwa [Chassis.port_setPort_ne _ _ h] at hq

theorem Chassis.drainers_seatRelease (x : Ctx) (eval : Chassis → Chassis) (p : PortId) (c : Chassis) :
    (c.seatRelease x (inPass eval) p).drainers ⊆ c.drainers := by
  have hclear := c.drainers_setPort p (r := { c.port p with binding := .none, seatCeil := none, effCeil := none }) id
  unfold Chassis.seatRelease
  dsimp only
  split
  · exact hclear
  · exact hclear
  · refine (Chassis.drainers_of_ports ?_).subset.trans hclear
    exact Chassis.setGrace_ports ..
  · exact hclear

theorem drainsIn_same (c d : Chassis) (h : c.SeatSame d) (hc : c.DrainsIn D) : d.DrainsIn D := hc.mono h.passDue h.drainers

theorem Chassis.DrainsIn.bindSeat (l : Word16) (p : PortId) (hc : c.DrainsIn D) : ((c.bindSeat l p).setGrace p 0).DrainsIn D := by
  obtain ⟨v, b, h⟩ := (c.bindSeat l p).setGrace_frame p 0
  rw [h]
  exact hc.mono rfl (Chassis.drainers_of_ports rfl).subset

section Eval

variable {x : Ctx} {eval : Chassis → Chassis} (he : ∀ c, Chassis.DrainsIn D c → Chassis.DrainsIn D (eval c))
include he

theorem Chassis.DrainsIn.seatBound (p : PortId) (b : Binding) (k : RateClass) (hc : c.DrainsIn D) :
    (c.seatBound x (inPass eval) p b k).DrainsIn D :=
  grantRequest_of_same drainsIn_same he p (hc.mono rfl (c.drainers_setPort p nofun))

theorem Chassis.DrainsIn.seatRequest (p : PortId) (hc : c.DrainsIn D) :
    (c.seatRequest x (inPass eval) p).DrainsIn D := by
  unfold Chassis.seatRequest
  split
  · exact Chassis.DrainsIn.seatBound he p _ _ (hc.bindSeat _ p)
  · split
    · exact Chassis.DrainsIn.seatBound he p _ _ hc
    · exact hc.mono rfl (c.drainers_setPort p (r := { c.port p with state := .unseated }) nofun)

end Eval

/-- R85: the seat that the end of a drain gives back is that of a port that drains no more. -/
theorem drainsIn_kept (x : Ctx) (D : Finset PortId) : Chassis.PassKept x (Chassis.DrainsIn D) where
  same := drainsIn_same
  drainEnd eval c p t he hp hc := by
    have h1 : (c.drained x (inPass eval) p).DrainsIn D := drained_of_same drainsIn_same he p hc
    have hne : p ∉ (c.drained x (inPass eval) p).drainers := fun hm => by
      have := Chassis.mem_drainers.1 hm
      rw [Chassis.drained_state] at this
      cases this
    have h2 : (c.drained x (inPass eval) p).DrainsBelow D :=
      ⟨h1.1, fun h => hne (h ▸ hc.1 (Chassis.mem_drainers.2 hp))⟩
    have h3 := (h2.mono (Chassis.drainers_seatRelease x eval p _)).drainsIn
    cases t with
    | disabled => exact h3
    | unseated => exact Chassis.DrainsIn.seatRequest he p h3

theorem Chassis.onePass_drainsIn (x : Ctx) (hc : c.DrainsIn D) :
    (c.onePass x (inPass (Chassis.evaluateInPass x))).DrainsIn D := by
  have hP := drainsIn_kept x D
  have he (c : Chassis) : c.DrainsIn D → (Chassis.evaluateInPass x c).DrainsIn D := hP.evaluateInPass
  have hgrace (c : Chassis) (p : PortId) (hc : c.DrainsIn D) :
      (Chassis.serveGrace x (inPass (Chassis.evaluateInPass x)) c p).DrainsIn D := by
    unfold Chassis.serveGrace
    split
    · split
      · exact hP.ceilingFell he p ((hc.bindSeat _ p).mono rfl (Chassis.drainers_setPort p id))
      · exact hc
    · exact hc
  have hwait (c : Chassis) (p : PortId) (hc : c.DrainsIn D) :
      (Chassis.serveWaiting x (inPass (Chassis.evaluateInPass x)) c p).DrainsIn D := by
    unfold Chassis.serveWaiting
    split
    · split
      · refine Chassis.DrainsIn.seatBound he p _ _ (hc.mono rfl ?_)
        exact (Chassis.drainers_of_ports rfl).subset
      · exact hc
    · exact hc
  have h1 := List.foldlRecOn (motive := Chassis.DrainsIn D) allPorts
    (Chassis.serveGrace x (inPass (Chassis.evaluateInPass x))) hc fun d hd p _ => hgrace d p hd
  exact List.foldlRecOn (motive := Chassis.DrainsIn D) _ _ h1 fun d hd p _ => hwait d p hd

end Drains

/-- The first pass of a run, with no mark. -/
def Chassis.firstPass (x : Ctx) (c : Chassis) : Chassis :=
  Chassis.onePass x (inPass (Chassis.evaluateInPass x)) { c with passDue := false }

theorem Chassis.passes_succ (x : Ctx) (n : Nat) (c : Chassis) : c.passes x (Chassis.evaluateInPass x) (n + 1) =
    if (c.firstPass x).passDue then (c.firstPass x).passes x (Chassis.evaluateInPass x) n else c.firstPass x := rfl

/-- R87: the passes end with one that gave no seat back. -/
theorem Chassis.passes_ends (x : Ctx) (n : Nat) : ∀ c : Chassis, c.drainers.card < n →
    ∃ b : Chassis, c.passes x (Chassis.evaluateInPass x) n = b.firstPass x ∧ (b.firstPass x).passDue = false := by
  induction n with
  | zero => exact fun _ h => absurd h (Nat.not_lt_zero _)
  | succ n ih =>
    intro c hc
    rw [Chassis.passes_succ]
    by_cases hdue : (c.firstPass x).passDue = true
    · rw [if_pos hdue]
      have h := Chassis.onePass_drainsIn (D := c.drainers) (c := { c with passDue := false }) x
        ⟨(Chassis.drainers_of_ports rfl).subset, nofun⟩
      have hlt := Finset.card_lt_card (h.1.ssubset_of_ne (h.2 hdue))
      exact ih _ (Nat.lt_of_lt_of_le hlt (Nat.le_of_lt_succ hc))
    · rw [if_neg hdue]
      exact ⟨c, rfl, Bool.not_eq_true _ ▸ hdue⟩

theorem Chassis.pass_ends (x : Ctx) (c : Chassis) :
    ∃ b : Chassis, c.pass x = b.firstPass x ∧ (b.firstPass x).passDue = false := by
  have hcard : c.drainers.card < 257 :=
    Nat.lt_succ_of_le ((Finset.card_le_univ _).trans (Fintype.card_fin 256).le)
  unfold Chassis.pass Chassis.bindingPass
  exact c.passes_ends x 257 hcard

/-- R87: at the end of a binding pass no port that waits finds a seat. -/
theorem Chassis.pass_seatChoice (x : Ctx) (c : Chassis) {q : PortId}
    (hq : q ∈ (c.pass x).seatWait ∨ ((c.pass x).port q).binding = .counted) : (c.pass x).seatChoice x q = none := by
  obtain ⟨b, hb, hdue⟩ := c.pass_ends x
  have h := Chassis.onePass_seatDone x q { b with passDue := false }
  rw [hb] at hq ⊢
  rcases h with h | ⟨h1, h2⟩
  · exact absurd (hdue.symm.trans h) nofun
  · exact hq.elim (h2 trivial) (h1 trivial)

/-! ## A pass in which no port finds a seat -/

theorem Chassis.serveGrace_of_none {x : Ctx} {h : Hooks} {c : Chassis} {p : PortId}
    (hn : (c.port p).binding = .counted → c.seatChoice x p = none) : Chassis.serveGrace x h c p = c := by
  unfold Chassis.serveGrace
  split
  · rename_i hb
    rw [hn hb]
  · rfl

theorem Chassis.serveWaiting_of_none {x : Ctx} {h : Hooks} {c : Chassis} {p : PortId} (hn : c.seatChoice x p = none) :
    Chassis.serveWaiting x h c p = c := by
  unfold Chassis.serveWaiting
  rw [hn]
  exact ite_self _

theorem foldl_fixed {α β : Type} {f : β → α → β} {c : β} {l : List α} (h : ∀ a ∈ l, f c a = c) : l.foldl f c = c :=
  List.foldlRecOn (motive := fun d => d = c) l f rfl fun d hd a ha => by rw [hd]; exact h a ha

theorem Chassis.pass_of_none {x : Ctx} {c : Chassis}
    (hn : ∀ q, q ∈ c.seatWait ∨ (c.port q).binding = .counted → c.seatChoice x q = none) :
    c.pass x = { c with passDue := false } := by
  have h1 : allPorts.foldl (Chassis.serveGrace x (inPass (Chassis.evaluateInPass x))) { c with passDue := false } =
      { c with passDue := false } := foldl_fixed fun q _ => Chassis.serveGrace_of_none fun hb => hn q (.inr hb)
  have h2 : c.firstPass x = { c with passDue := false } := by
    unfold Chassis.firstPass Chassis.onePass
    rw [h1]
    exact foldl_fixed fun q hq => Chassis.serveWaiting_of_none (hn q (.inl hq))
  unfold Chassis.pass Chassis.bindingPass
  rw [Chassis.passes_succ, h2]
  rfl

end Sys2Proof.Machine

/-! # The ports that a binding pass serves first (R87; O38) -/

namespace Sys2Proof.Machine

/-! ## A seat that a pass gives stays through it -/

/-- A port bound to a seat that does not drain, off the seat wait list; its grace record is 0 where `g` says so. -/
structure Chassis.SeatHeld (p : PortId) (id : Word16) (k : RateClass) (g : Prop) (c : Chassis) : Prop where
  binding : (c.port p).binding = .licence id
  seatCeil : (c.port p).seatCeil = some k
  steady : (c.port p).state.isDraining = false
  seat : p ∉ c.seatWait
  grace : g → c.graceOf p = 0

section SeatHeld

variable {p : PortId} {id : Word16} {k : RateClass} {g : Prop} {c d : Chassis}

theorem Chassis.SeatHeld.of_port (hc : c.SeatHeld p id k g) (hb : (d.port p).binding = (c.port p).binding)
    (hk : (d.port p).seatCeil = (c.port p).seatCeil) (hs : (d.port p).state.isDraining = false)
    (hw : d.seatWait = c.seatWait) (hg : d.grace = c.grace) : d.SeatHeld p id k g :=
  ⟨hb.trans hc.binding, hk.trans hc.seatCeil, hs, hw ▸ hc.seat, fun h => by
    unfold Chassis.graceOf
    rw [hg]
    exact hc.grace h⟩

theorem Chassis.seatHeld_tracked (x : Ctx) (p : PortId) (id : Word16) (k : RateClass) (g : Prop) :
    Chassis.Tracked x p (Chassis.SeatHeld p id k g) where
  at_port _ _ h hc := ⟨by rw [h.port]; exact hc.binding, by rw [h.port]; exact hc.seatCeil, by rw [h.port]; exact hc.steady,
    fun hm => hc.seat (h.seat.1 hm), fun hg => h.grace.trans (hc.grace hg)⟩
  revoke h c _ _ hc := by
    by_cases hr : (c.port p).state = .linkWait ∨ (c.port p).state = .online
    · have hstep := c.revoke_shedStep x h p hr
      exact hc.of_port (by rw [hstep.port]) (by rw [hstep.port]) (by rw [hstep.port]; rfl) hstep.seatWait hstep.grace
    · have heq : c.revoke x h p = c.setPort p { c.port p with granted := none } := by
        have hst := hc.steady
        cases hs : (c.port p).state with
        | linkWait => exact absurd (.inl hs) hr
        | online => exact absurd (.inr hs) hr
        | draining => rw [hs] at hst; cases hst
        | absent | disabled | unseated | powerWait | shed | fault => simp only [Chassis.revoke, hs]
      have hrec := Chassis.port_setPort_self c p { c.port p with granted := none }
      rw [heq]
      exact hc.of_port (by rw [hrec]) (by rw [hrec]) (by rw [hrec]; exact hc.steady) rfl rfl
  rebind _ _ _ _ hb _ hc := by rw [hc.binding] at hb; cases hb
  bind _ _ _ _ hs _ hc := absurd hs hc.seat

theorem Chassis.seatHeld_governed (x : Ctx) (p : PortId) (id : Word16) (k : RateClass) (g : Prop) :
    Chassis.Governed x (Chassis.SeatHeld p id k g) :=
  (Chassis.seatHeld_tracked x p id k g).governed fun _ c e he _ _ hc => by
    rcases c.offerGrant_cases x e with ⟨-, h⟩ | ⟨-, h, -⟩ | ⟨-, _, -, -, -, h⟩
    · rw [h]; exact hc
    · rw [h]; exact hc
    · have hport := h.port
      rw [he] at hport
      exact hc.of_port (by rw [hport]) (by rw [hport]) (by rw [hport]; rfl) h.seatWait h.grace

/-- What a pass keeps from the middle of its first pass on. -/
theorem Chassis.Governed.pass_of_firstPass {x : Ctx} {P : Chassis → Prop} (hP : Chassis.Governed x P)
    (h : P (c.firstPass x)) : P (c.pass x) := by
  unfold Chassis.pass Chassis.bindingPass
  rw [Chassis.passes_succ]
  split
  · exact hP.passes (fun _ => hP.evaluateInPass) _ h
  · exact h

theorem Chassis.Governed.inPass {x : Ctx} {P : Chassis → Prop} (hP : Chassis.Governed x P) :
    (inPass (Chassis.evaluateInPass x)).Keeps P := ⟨fun _ => hP.evaluateInPass, fun _ => hP.markPass⟩

theorem RateClass.num_lower (j k : RateClass) : (RateClass.lower j k).num = min j.num k.num := by
  cases j <;> cases k <;> rfl

/-- R22: a notice whose ceilings cover the grant changes the record's binding and ceilings alone. -/
theorem Chassis.seatNotice_of_covered {x : Ctx} {h : Hooks} {b : Binding} {k : RateClass}
    (hg : ∀ g ∈ (c.port p).granted, g.num ≤ (x.cfg.port p).reqClass.num ∧ g.num ≤ k.num) :
    c.seatNotice x h p b (some k) = c.setPort p { c.port p with
      binding := b, seatCeil := some k, effCeil := effective (x.cfg.port p).reqClass (some k) } := by
  unfold Chassis.seatNotice
  refine Chassis.ceilingFell_of_le ?_
  rw [Chassis.port_setPort_self]
  intro g hgr j hj
  obtain rfl := Option.some.inj hj
  rw [Machine.RateClass.num_lower]
  exact Nat.le_min.2 (hg g hgr)

/-- R87: a rebinding by a pass, which clears the grace record. -/
theorem Chassis.rebind_of_covered {x : Ctx} {h : Hooks} (l : LicenceRec)
    (hg : ∀ g ∈ (c.port p).granted, g.num ≤ (x.cfg.port p).reqClass.num ∧ g.num ≤ l.ceiling.num) :
    ((c.bindSeat l.id p).setGrace p 0).seatNotice x h p (.licence l.id) (some l.ceiling) =
      ((c.bindSeat l.id p).setGrace p 0).setPort p { c.port p with
        binding := .licence l.id, seatCeil := some l.ceiling
        effCeil := effective (x.cfg.port p).reqClass (some l.ceiling) } := by
  have hport : ((c.bindSeat l.id p).setGrace p 0).port p = c.port p := Chassis.setGrace_port ..
  rw [Chassis.seatNotice_of_covered (by rw [hport]; exact hg), hport]

/-- R87: the first counted grace binding in ascending number that finds a seat is bound to it. -/
theorem Chassis.pass_serves_grace {x : Ctx} {l : LicenceRec} (hs : p ∉ c.seatWait) (hb : (c.port p).binding = .counted)
    (hd : (c.port p).state.isDraining = false)
    (hbefore : ∀ q, q.val < p.val → (c.port q).binding = .counted → c.seatChoice x q = none)
    (hl : c.seatChoice x p = some l)
    (hg : ∀ g ∈ (c.port p).granted, g.num ≤ (x.cfg.port p).reqClass.num ∧ g.num ≤ l.ceiling.num) :
    (c.pass x).SeatHeld p l.id l.ceiling True := by
  have hP := Chassis.seatHeld_governed x p l.id l.ceiling True
  refine hP.pass_of_firstPass ?_
  obtain ⟨as, bs, hall⟩ := List.append_of_mem (List.mem_finRange p)
  have hlt (q : PortId) (hq : q ∈ as) : q.val < p.val := by
    have hsorted := List.pairwise_lt_finRange 256
    rw [hall] at hsorted
    exact (List.pairwise_append.1 hsorted).2.2 q hq p List.mem_cons_self
  have hserve : (Chassis.serveGrace x (Machine.inPass (Chassis.evaluateInPass x)) { c with passDue := false } p).SeatHeld p l.id
      l.ceiling True := by
    have hl' : Chassis.seatChoice x p { c with passDue := false } = some l := hl
    unfold Chassis.serveGrace
    rw [if_pos (by exact hb), hl']
    dsimp only
    rw [Chassis.rebind_of_covered (c := { c with passDue := false }) l hg]
    refine ⟨?_, ?_, ?_, ?_, fun _ => Chassis.graceOf_setGrace ..⟩
    · rw [Chassis.port_setPort_self]
    · rw [Chassis.port_setPort_self]
    · rw [Chassis.port_setPort_self]; exact hd
    · exact fun hm => hs (Chassis.setGrace_seatWait (Chassis.bindSeat l.id p { c with passDue := false }) p 0 ▸ hm)
  have hfold : (allPorts.foldl (Chassis.serveGrace x (Machine.inPass (Chassis.evaluateInPass x)))
      { c with passDue := false }).SeatHeld p l.id l.ceiling True := by
    have hfix : as.foldl (Chassis.serveGrace x (Machine.inPass (Chassis.evaluateInPass x))) { c with passDue := false } =
        { c with passDue := false } :=
      foldl_fixed fun q hq => Chassis.serveGrace_of_none (hbefore q (hlt q hq))
    unfold allPorts
    rw [hall, List.foldl_append, List.foldl_cons, hfix]
    exact List.foldlRecOn (motive := Chassis.SeatHeld p l.id l.ceiling True) _ _ hserve fun d hd q _ =>
      hP.serveGrace _ d q hP.inPass hd
  exact List.foldlRecOn (motive := Chassis.SeatHeld p l.id l.ceiling True) _ _ hfold fun d hd q _ =>
    hP.serveWaiting _ d q hP.inPass hd

/-- R87: where no counted grace binding finds a seat, the first of the seat wait list that does leaves it for the seat. -/
theorem Chassis.pass_serves_waiting {x : Ctx} {l : LicenceRec} {before after : List PortId}
    (hgrace : ∀ q, (c.port q).binding = .counted → c.seatChoice x q = none) (hw : c.seatWait = before ++ p :: after)
    (hbefore : ∀ q ∈ before, c.seatChoice x q = none) (hl : c.seatChoice x p = some l) :
    (c.pass x).SeatHeld p l.id l.ceiling False := by
  have hP := Chassis.seatHeld_governed x p l.id l.ceiling False
  refine hP.pass_of_firstPass ?_
  have h1 : allPorts.foldl (Chassis.serveGrace x (Machine.inPass (Chassis.evaluateInPass x))) { c with passDue := false } =
      { c with passDue := false } := foldl_fixed fun q _ => Chassis.serveGrace_of_none (hgrace q)
  have hserve : (Chassis.serveWaiting x (Machine.inPass (Chassis.evaluateInPass x)) { c with passDue := false } p).SeatHeld p
      l.id l.ceiling False := by
    have hl' : Chassis.seatChoice x p { c with passDue := false } = some l := hl
    have hin : c.seatWait.contains p = true := List.contains_iff_mem.2 (by rw [hw]; simp)
    unfold Chassis.serveWaiting
    rw [if_pos (by exact hin), hl']
    dsimp only
    have hbound : ((Chassis.bindSeat l.id p (Chassis.leaveSeatWait p { c with passDue := false })).setPort p
        { c.port p with
          state := .powerWait, binding := .licence l.id, seatCeil := some l.ceiling
          effCeil := effective (x.cfg.port p).reqClass (some l.ceiling) }).SeatHeld p l.id l.ceiling False := by
      refine ⟨?_, ?_, ?_, fun hm => ?_, nofun⟩
      · rw [Chassis.port_setPort_self]
      · rw [Chassis.port_setPort_self]
      · rw [Chassis.port_setPort_self]; rfl
      · have := (List.mem_filter.1 hm).2
        simp at this
    unfold Chassis.seatBound Chassis.grantRequest
    split
    · exact hbound
    · refine hP.evaluateInPass ⟨hbound.binding, hbound.seatCeil, hbound.steady, hbound.seat, nofun⟩
  have h2 : before.foldl (Chassis.serveWaiting x (Machine.inPass (Chassis.evaluateInPass x))) { c with passDue := false } =
      { c with passDue := false } := foldl_fixed fun q hq => Chassis.serveWaiting_of_none (hbefore q hq)
  suffices hlist : ∀ ps, ps = before ++ p :: after → Chassis.SeatHeld p l.id l.ceiling False
      (ps.foldl (Chassis.serveWaiting x (Machine.inPass (Chassis.evaluateInPass x))) { c with passDue := false }) by
    unfold Chassis.firstPass Chassis.onePass
    dsimp only
    rw [h1]
    exact hlist c.seatWait hw
  rintro _ rfl
  rw [List.foldl_append, List.foldl_cons, h2]
  exact List.foldlRecOn (motive := Chassis.SeatHeld p l.id l.ceiling False) _ _ hserve fun d hd q _ =>
    hP.serveWaiting _ d q hP.inPass hd

end SeatHeld

/-- Settles O38: choice by the ranks, passes by what each gives back and what stays of what it gives, releases by the kind
of the binding. -/
theorem seatChoiceTakesBestLicence : Obligations.SeatChoiceTakesBestLicence := by
  intro x c p r fits
  refine ⟨Chassis.seatChoice_eq_none.2, fun h => ?best, ?pass, Chassis.seatRelease_cases x p c⟩
  case best =>
    obtain ⟨l, hl, hc, hbest⟩ := Chassis.seatChoice_best (x := x) (c := c) (p := p) h
    exact ⟨l, hl, hc, fun m hm => LicenceRec.of_rank_le (hbest m hm)⟩
  case pass =>
    obtain ⟨b, hb, hdue⟩ := c.pass_ends x
    refine ⟨by rw [hb]; exact hdue, fun q hq => c.pass_seatChoice x hq, Chassis.pass_of_none,
      fun l hrow hbi hd hbefore hl hg => ?_, fun l before after hrow hgrace hw hp hbefore hl => ?_⟩
    · have hseat : p ∉ c.seatWait := (hrow p).not_seat fun hu => by
        have := (hrow p).1.1 (by rw [hbi]; exact nofun)
        rw [hu] at this
        cases this
      have h := Chassis.pass_serves_grace hseat hbi hd hbefore hl hg
      exact ⟨h.binding, h.seatCeil, h.grace trivial⟩
    · have h := Chassis.pass_serves_waiting hgrace hw hbefore hl
      exact ⟨h.binding, h.seatCeil, h.seat⟩

end Sys2Proof.Machine

/-! # The seat of one port through evaluations, passes and rebindings (R79, R85, R89; O36, O40)

What a property of one port's binding and grace record must survive: nothing new, a binding given back, a seat, a
counted grace binding where a remainder is stored, and a place on the seat wait list where none is. -/

namespace Sys2Proof.Machine

/-! ## The moves of one port's seat -/

/-- Binding, grace record and place on the seat wait list stay. -/
structure Chassis.SeatStill (p : PortId) (c d : Chassis) : Prop where
  binding : (d.port p).binding = (c.port p).binding
  grace : d.graceOf p = c.graceOf p
  seat : p ∈ d.seatWait ↔ p ∈ c.seatWait
  keys : d.licKeys = c.licKeys

namespace Chassis.SeatStill

variable {p : PortId} {c d e : Chassis}

theorem trans (h : c.SeatStill p d) (h' : d.SeatStill p e) : c.SeatStill p e :=
  ⟨h'.binding.trans h.binding, h'.grace.trans h.grace, h'.seat.trans h.seat, h'.keys.trans h.keys⟩

theorem of_eq (hp : d.ports = c.ports) (hg : d.grace = c.grace) (hs : d.seatWait = c.seatWait)
    (hl : d.licences = c.licences) : c.SeatStill p d :=
  ⟨by unfold Chassis.port; rw [hp], by unfold Chassis.graceOf; rw [hg], by rw [hs], by unfold Chassis.licKeys; rw [hl]⟩

theorem setPort {r : PortRec} (hb : r.binding = (c.port p).binding) : c.SeatStill p (c.setPort p r) :=
  ⟨by rw [Chassis.port_setPort_self, hb], rfl, .rfl, rfl⟩

theorem putControl (x : Ctx) (q : PortId) (k : Control) (c : Chassis) : c.SeatStill p (c.putControl x q k) :=
  of_eq (Chassis.putControl_ports ..) (Chassis.putControl_grace ..) (Chassis.putControl_seatWait ..)
    (Chassis.putControl_licences ..)

theorem leaveWait (x : Ctx) (q : PortId) (c : Chassis) : c.SeatStill p (c.leaveWait x q) := by
  obtain ⟨a, b, w, h⟩ := c.leaveWait_frame x q
  rw [h]
  exact of_eq rfl rfl rfl rfl

end Chassis.SeatStill

/-- What a move does to one port's seat. -/
inductive Chassis.SeatMove (x : Ctx) (p : PortId) (c d : Chassis) : Prop
  | still (h : c.SeatStill p d)
  | freed (keys : d.licKeys = c.licKeys) (binding : (d.port p).binding = .none ∨ (d.port p).binding = .drainHold)
      (grace : d.graceOf p = 0 ∨ d.graceOf p = c.graceOf p ∧ (c.port p).binding ≠ .counted)
  | seat (l : LicenceRec) (choice : c.seatChoice x p = some l) (keys : d.licKeys = c.licKeys)
      (binding : (d.port p).binding = .licence l.id)
      (grace : d.graceOf p = 0 ∨ d.graceOf p = c.graceOf p ∧ (p ∈ c.seatWait ∨ (c.port p).binding ≠ .counted))
  | counted (stored : 0 < c.graceOf p) (keys : d.licKeys = c.licKeys) (binding : (d.port p).binding = .counted)
      (grace : d.graceOf p = c.graceOf p) (seat : p ∈ d.seatWait ↔ p ∈ c.seatWait)
  | joined (none_stored : c.graceOf p = 0) (keys : d.licKeys = c.licKeys)
      (binding : (d.port p).binding = (c.port p).binding) (grace : d.graceOf p = c.graceOf p)

/-- The moves of the port's seat keep a property. -/
def Chassis.SeatKept (x : Ctx) (p : PortId) (P : Chassis → Prop) : Prop := ∀ c d, Chassis.SeatMove x p c d → P c → P d

namespace Chassis.SeatKept

variable {x : Ctx} {p : PortId} {P : Chassis → Prop} (hP : Chassis.SeatKept x p P)
include hP

theorem still {c d : Chassis} (h : c.SeatStill p d) (hc : P c) : P d := hP c d (.still h) hc

theorem at_port : Chassis.Local p P := fun _ _ h hc =>
  hP.still ⟨by rw [h.port], h.grace, h.seat, h.keys⟩ hc

theorem setPort {c : Chassis} {r : PortRec} (hb : r.binding = (c.port p).binding) (hc : P c) : P (c.setPort p r) :=
  hP.still (.setPort hb) hc

theorem removeLogins {c : Chassis} (hc : P c) : P (c.removeLogins p) := hP.still (c := c) (.of_eq rfl rfl rfl rfl) hc

section Ops

variable {h : Hooks} (hh : h.Keeps P) {c : Chassis}
include hh

section

variable (hc : P c)
include hc

theorem grantRequest : P (c.grantRequest x h p) := by
  unfold Chassis.grantRequest
  split
  · exact hc
  · exact hh.eval _ (hP.still (c := c) (.of_eq rfl rfl rfl rfl) hc)

theorem grantRelease : P (c.grantRelease x h p) := by
  unfold Chassis.grantRelease
  split
  · exact hh.eval _ (hP.still (.leaveWait ..) (hP.setPort (by rfl) hc))
  · exact hc

/-- R85: the binding is none, and a counted one leaves no grace. -/
theorem seatRelease : P (c.seatRelease x h p) := by
  have hport (d : Chassis) (hd : d.ports = (c.setPort p { c.port p with binding := .none, seatCeil := none, effCeil := none }).ports) :
      (d.port p).binding = .none := by
    unfold Chassis.port
    rw [hd]
    show ((c.setPort p _).port p).binding = _
    rw [Chassis.port_setPort_self]
  unfold Chassis.seatRelease
  dsimp only
  split
  · rename_i hb
    exact hP c _ (.freed rfl (.inl (hport _ rfl)) (.inr ⟨rfl, by rw [hb]; exact nofun⟩)) hc
  · rename_i id hb
    refine hh.pass _ (hP c _ (.freed ?_ (.inl (hport _ rfl)) (.inr ⟨rfl, by rw [hb]; exact nofun⟩)) hc)
    exact Chassis.licKeys_onLicence _ id fun _ => ⟨rfl, rfl⟩
  · refine hP c _ (.freed ?_ (.inl (hport _ ?_)) (.inl (Chassis.graceOf_setGrace ..))) hc
    · exact Chassis.licKeys_setGrace _ p 0
    · exact Chassis.setGrace_ports ..
  · rename_i hb
    exact hP c _ (.freed rfl (.inl (hport _ rfl)) (.inr ⟨rfl, by rw [hb]; exact nofun⟩)) hc

theorem seatRequest : P (c.seatRequest x h p) := by
  unfold Chassis.seatRequest
  split
  · rename_i l hl
    refine hP.grantRequest hh (hP c _ (.seat l hl ?_ ?_ (.inl ?_)) hc)
    · exact (Chassis.licKeys_setGrace _ p 0).trans (Chassis.licKeys_onLicence _ l.id fun _ => ⟨rfl, rfl⟩)
    · rw [Chassis.port_setPort_self]
    · exact Chassis.graceOf_setGrace ..
  · split
    · rename_i hg
      refine hP.grantRequest hh (hP c _ (.counted hg rfl ?_ rfl .rfl) hc)
      rw [Chassis.port_setPort_self]
    · rename_i hg
      refine hP c _ (.joined (Nat.eq_zero_of_not_pos hg) rfl ?_ rfl) hc
      show ((c.setPort p { c.port p with state := .unseated }).port p).binding = _
      rw [Chassis.port_setPort_self]

theorem drainEnd (t : DrainTarget) : P (c.drainEnd x h p t) := by
  have h1 := hP.removeLogins hc
  have h2 := hP.still (.putControl x p .disable _) (hP.grantRelease hh h1)
  have h3 := hP.seatRelease hh (hP.setPort (r := { (((c.removeLogins p).grantRelease x h p).putControl x p .disable).port p with
    state := .disabled, negotiated := none }) rfl h2)
  cases t with
  | disabled => exact h3
  | unseated => exact hP.seatRequest hh h3

theorem startDrain (t : DrainTarget) : P (c.startDrain x h p t) := by
  have h1 : P (c.setPort p { c.port p with state := .draining t (x.clockMs + (x.cfg.port p).drainSecs * 1000) }) :=
    hP.setPort rfl hc
  unfold Chassis.startDrain
  dsimp only
  split
  · exact hP.drainEnd hh h1 t
  · exact h1

theorem ceilingFell : P (c.ceilingFell x h p) := by
  have hlow (e : RateClass) : P (c.reenableLower x h p e) := by
    refine hh.eval _ (hP.removeLogins (hP.still (.putControl x p (.enable e) _) ?_))
    exact hP.setPort (by rfl) hc
  unfold Chassis.ceilingFell
  dsimp only
  split
  · split
    · split
      · exact hlow _
      · exact hlow _
      · exact hP.drainEnd hh hc _
      · exact hc
    · exact hc
  · exact hc

theorem revoke : P (c.revoke x h p) := by
  have shed : P ((((c.setPort p { c.port p with state := .shed, granted := none, negotiated := none }).putControl x p
      .disable).removeLogins p).joinWait x p .shed) := by
    refine hP.still (c := (c.setPort p { c.port p with state := .shed, granted := none, negotiated := none }).putControl x p
      .disable) (.of_eq rfl rfl rfl rfl) (hP.still (.putControl x p .disable _) ?_)
    exact hP.setPort (by rfl) hc
  have gone : P (c.setPort p { c.port p with granted := none }) := hP.setPort rfl hc
  unfold Chassis.revoke
  dsimp only
  split
  · exact shed
  · exact shed
  · exact hP.drainEnd hh gone _
  · exact gone

end

/-- R23: a seat loss leaves none or a drain-hold binding of a port that holds a seat. -/
theorem seatLoss_of (hfreed : ∀ d : Chassis, d.licKeys = c.licKeys →
    (d.port p).binding = .none ∨ (d.port p).binding = .drainHold → d.graceOf p = c.graceOf p → P d)
    (hrest : (c.port p).state.seated = false → P c) : P (c.seatLoss x h p) := by
  have hhold : P (c.setPort p { c.port p with binding := .drainHold }) :=
    hfreed _ rfl (.inr (by rw [Chassis.port_setPort_self])) rfl
  have hnone : P ((c.setPort p { c.port p with state := .unseated, binding := .none, seatCeil := none, effCeil := none
      }).joinSeatWait p) := by
    refine hfreed _ rfl (.inl ?_) rfl
    show ((c.setPort p _).port p).binding = _
    rw [Chassis.port_setPort_self]
  cases hst : (c.port p).state with
  | linkWait => simp only [Chassis.seatLoss, hst]; exact hP.startDrain hh (by simpa only [hst] using hhold) _
  | online => simp only [Chassis.seatLoss, hst]; exact hP.startDrain hh (by simpa only [hst] using hhold) _
  | draining => simp only [Chassis.seatLoss, hst]; simpa only [hst] using hhold
  | powerWait | shed | fault => simp only [Chassis.seatLoss, hst]; exact hP.grantRelease hh hnone
  | absent | disabled | unseated => simp only [Chassis.seatLoss, hst]; exact hrest (by rw [hst]; rfl)

theorem seatLoss (hn : c.graceOf p = 0 ∨ (c.port p).binding ≠ .counted) (hc : P c) : P (c.seatLoss x h p) :=
  hP.seatLoss_of hh (fun d hk hb hg => hP c d (.freed hk hb (hn.imp hg.trans fun hb => ⟨hg, hb⟩)) hc) fun _ => hc

end Ops

theorem tracked : Chassis.Tracked x p P where
  at_port := hP.at_port
  revoke _ _ hh _ hc := hP.revoke hh hc
  rebind h c l hh _ hl hc := by
    refine hP.ceilingFell hh (hP c _ (.seat l hl ?_ (by rw [Chassis.port_setPort_self]) (.inl ?_)) hc)
    · exact (Chassis.licKeys_setGrace _ p 0).trans (Chassis.licKeys_onLicence _ l.id fun _ => ⟨rfl, rfl⟩)
    · exact Chassis.graceOf_setGrace ..
  bind h c l hh hs hl hc := by
    refine hP.grantRequest hh (hP c _ (.seat l hl ?_ (by rw [Chassis.port_setPort_self]) (.inr ⟨rfl, .inl hs⟩)) hc)
    exact Chassis.licKeys_onLicence _ l.id fun _ => ⟨rfl, rfl⟩

theorem governed : Chassis.Governed x P := hP.tracked.governed fun _ c e he _ _ hc => by
  unfold Chassis.offerGrant
  split
  · exact hc
  · dsimp only
    split
    · exact hc
    · rename_i g _
      have ht : P (c.takeGrant x e.port g) := hP.still (.putControl ..) (by
        rw [he]
        exact hP.setPort (by rfl) hc)
      exact hP.still (c := (c.takeGrant x e.port g).leaveWait x e.port) (.of_eq rfl rfl rfl rfl)
        (hP.still (.leaveWait ..) ht)

/-- R81, R95: at the port and at another. -/
theorem rebindOne {h : Hooks} (hh : h.Keeps P) {old : Word16} (n : Nat) (q : PortId) {c : Chassis}
    (hg : n = 0 ∨ q ≠ p) (hc : P c) : P (c.rebindOne x h old n q) := by
  by_cases hq : q = p
  · subst hq
    unfold Chassis.rebindOne
    split
    · rename_i hb
      have hne : (c.port q).binding ≠ .counted := by rw [hb]; exact nofun
      split
      · rename_i l hl
        refine hP.ceilingFell hh (hP c _ (.seat l hl ?_ (by rw [Chassis.port_setPort_self]) (.inr ⟨rfl, .inr hne⟩)) hc)
        exact Chassis.licKeys_onLicence _ l.id fun _ => ⟨rfl, rfl⟩
      · rw [if_neg (by rw [hg.resolve_right (absurd rfl)]; exact Nat.lt_irrefl 0)]
        exact hP.seatLoss hh (.inr hne) hc
    · exact hc
  · exact (hP.at_port.moves x).rebindOne (hP.at_port.keep x hh) hq hc _ _

end Chassis.SeatKept

/-! ## What the moves keep -/

/-- The port is not bound to licence `w`, where `b` says so, and that licence gives no seat. -/
def Chassis.SeatLost (w : Word16) (p : PortId) (b : Prop) (c : Chassis) : Prop :=
  (b → (c.port p).binding ≠ .licence w) ∧ ∀ k ∈ c.licKeys, k.1 = w → k.2 ≠ .active

/-- The port holds no counted grace binding, and no remainder is stored. -/
def Chassis.GraceEnded (p : PortId) (c : Chassis) : Prop := c.graceOf p = 0 ∧ (c.port p).binding ≠ .counted

/-- A grace remainder is stored for a counted grace binding alone, and is at most an hour. -/
def Chassis.GraceEnding (p : PortId) (c : Chassis) : Prop :=
  c.graceOf p ≠ 0 → c.graceOf p = 1 ∧ (c.port p).binding = .counted ∧ p ∉ c.seatWait

theorem Chassis.SeatLost.choice_ne {x : Ctx} {w : Word16} {p q : PortId} {b : Prop} {c : Chassis} {l : LicenceRec}
    (hc : c.SeatLost w p b) (hl : c.seatChoice x q = some l) : l.id ≠ w := fun he => by
  obtain ⟨m, hm, rfl, hs⟩ := c.seatChoice_some q x hl
  exact hc.2 (m.record.id, m.record.state) (List.mem_map.2 ⟨m, hm, rfl⟩) he hs

theorem Chassis.seatLost_kept (x : Ctx) (w : Word16) (p : PortId) (b : Prop) :
    Chassis.SeatKept x p (Chassis.SeatLost w p b) := fun c d hm hc => by
  cases hm with
  | still h => exact ⟨fun hb => by rw [h.binding]; exact hc.1 hb, h.keys ▸ hc.2⟩
  | freed keys binding => exact ⟨fun _ => by rcases binding with h | h <;> rw [h] <;> exact nofun, keys ▸ hc.2⟩
  | seat l choice keys binding =>
    exact ⟨fun _ he => hc.choice_ne choice (Binding.licence.inj (binding.symm.trans he)), keys ▸ hc.2⟩
  | counted _ keys binding => exact ⟨fun _ => by rw [binding]; exact nofun, keys ▸ hc.2⟩
  | joined _ keys binding => exact ⟨fun hb => by rw [binding]; exact hc.1 hb, keys ▸ hc.2⟩

theorem Chassis.graceEnded_kept (x : Ctx) (p : PortId) : Chassis.SeatKept x p (Chassis.GraceEnded p) := fun c d hm hc => by
  cases hm with
  | still h => exact ⟨h.grace.trans hc.1, by rw [h.binding]; exact hc.2⟩
  | freed _ binding grace =>
    exact ⟨grace.elim id fun h => h.1.trans hc.1, by rcases binding with h | h <;> rw [h] <;> exact nofun⟩
  | seat _ _ _ binding grace => exact ⟨grace.elim id fun h => h.1.trans hc.1, by rw [binding]; exact nofun⟩
  | counted stored => exact absurd hc.1 stored.ne'
  | joined _ _ binding grace => exact ⟨grace.trans hc.1, by rw [binding]; exact hc.2⟩

theorem Chassis.graceEnding_kept (x : Ctx) (p : PortId) : Chassis.SeatKept x p (Chassis.GraceEnding p) := fun c d hm hc => by
  have hzero (h : (c.port p).binding ≠ .counted ∨ p ∈ c.seatWait) : c.graceOf p = 0 := by
    by_contra h0
    obtain ⟨-, hb, hs⟩ := hc h0
    exact h.elim (absurd hb) hs
  cases hm with
  | still h => exact fun h0 => by rw [h.grace, h.binding, h.seat]; exact hc (h.grace ▸ h0)
  | freed _ _ grace => exact fun h0 => absurd (grace.elim id fun h => h.1.trans (hzero (.inl h.2))) h0
  | seat _ _ _ _ grace => exact fun h0 => absurd (grace.elim id fun h => h.1.trans (hzero h.2.symm)) h0
  | counted stored _ binding grace seat =>
    obtain ⟨h1, -, hs⟩ := hc stored.ne'
    exact fun _ => ⟨grace.trans h1, binding, fun h => hs (seat.1 h)⟩
  | joined hn _ _ grace => exact fun h0 => absurd (grace.trans hn) h0

end Sys2Proof.Machine

/-! # Licence Revoke and Licence Remove (R81, R82; O36) -/

namespace Sys2Proof.Machine

/-! ## A number in its bytes -/

theorem beNat_foldl_lt : ∀ (bs : List Byte) (n : Nat),
    bs.foldl (fun n b => n * 256 + b.toNat) n < (n + 1) * 256 ^ bs.length
  | [], n => by simp
  | b :: bs, n => by
    refine (beNat_foldl_lt bs (n * 256 + b.toNat)).trans_le ?_
    rw [List.length_cons, pow_succ', ← mul_assoc]
    refine Nat.mul_le_mul_right _ ?_
    have := b.isLt
    omega

theorem beNat_lt (bs : List Byte) : beNat bs < 256 ^ bs.length := by
  simpa [beNat] using beNat_foldl_lt bs 0

theorem ended_eq_some {α : Type} {r : Option (α × List Byte)} {a : α} (h : ended r = some a) : r = some (a, []) := by
  unfold ended at h
  split at h
  · cases h; rfl
  · cases h

theorem readNat_lt {w n : Nat} {bs : List Byte} (h : readNat w bs = some n) : n < 256 ^ w := by
  have h1 := ended_eq_some h
  unfold takeNat at h1
  split at h1
  · cases h1
  · obtain ⟨rfl, -⟩ := Prod.mk.inj (Option.some.inj h1)
    refine (beNat_lt _).trans_le (Nat.pow_le_pow_right (by decide) ?_)
    exact List.length_take_le _ _

theorem State.Serves.lt {s : State} {pr : Proc} {cmd : Cmd} {w n : Nat} (h : s.Serves pr cmd (readNat w) n) : n < 256 ^ w := by
  obtain ⟨_, -, hr, -⟩ := h
  exact readNat_lt hr

/-! ## The records through evaluations, passes and rebindings -/

/-- The records of the licence table, their bound seat lists apart. -/
def Chassis.Records (R : List LicenceRec) (c : Chassis) : Prop := c.licences.map Licence.record = R

theorem Chassis.Records.onLicence {R : List LicenceRec} {c : Chassis} {id : Word16} {f : Licence → Licence}
    (hf : ∀ l, (f l).record = l.record) (hc : c.Records R) : (c.onLicence id f).Records R := by
  unfold Chassis.Records
  rw [Chassis.onLicence_licences, List.map_map, ← hc]
  refine List.map_congr_left fun l _ => ?_
  show (if l.record.id == id then f l else l).record = l.record
  split
  · exact hf l
  · rfl

theorem Chassis.Records.of_eq {R : List LicenceRec} {c d : Chassis} (h : d.licences = c.licences) (hc : c.Records R) :
    d.Records R := (congrArg (List.map Licence.record) h).trans hc

theorem Chassis.records_closed (x : Ctx) (R : List LicenceRec) : Chassis.ClosedEval x (fun _ => True) (Chassis.Records R) where
  of_granted _ _ _ _ := trivial
  of_waiting _ _ _ _ := trivial
  of_counted _ _ _ _ := trivial
  of_seatWait _ _ _ _ := trivial
  port _ _ _ _ _ h := h
  joinWait _ _ _ _ h := h
  pwr _ _ _ h := h
  episode _ _ h := h
  count _ _ h := h
  control _ _ _ _ h := h.of_eq (Chassis.putControl_licences ..)
  logins _ _ _ h := h
  alarm_raise _ _ _ h := h
  alarm_clear _ _ _ h := h
  running _ _ h := h
  bind _ _ _ _ _ h := h.onLicence fun _ => rfl
  unbind _ _ _ _ h := h.onLicence fun _ => rfl
  grace _ _ _ _ h := h.of_eq (Chassis.setGrace_licences ..)
  joinSeat _ _ _ h := h
  leaveSeat _ _ _ h := h
  due _ _ h := h
  lower _ _ _ _ _ h := h
  take _ _ _ _ h := h.of_eq (Chassis.putControl_licences ..)
  form _ h := h

/-! ## A revocation (R81) -/

/-- Licence `w` stops being Active, and its list is taken. -/
def Chassis.taken (w : Word16) (st : LicState) (c : Chassis) : Chassis :=
  c.onLicence w fun l => ⟨{ l.record with state := st }, []⟩

section Taken

variable {c : Chassis} {w : Word16} {st : LicState}

theorem Chassis.unseatAll_eq {x : Ctx} {h : Hooks} {l : Licence} (hl : c.licence? w = some l) (n : Nat) :
    c.unseatAll x h w st n = l.bound.foldl (Chassis.rebindOne x h w n) (c.taken w st) := by
  unfold Chassis.unseatAll
  rw [hl]
  rfl

theorem Chassis.taken_records : (c.taken w st).Records (c.licences.map fun m =>
    if m.record.id = w then { m.record with state := st } else m.record) := by
  unfold Chassis.Records Chassis.taken
  rw [Chassis.onLicence_licences, List.map_map]
  refine List.map_congr_left fun m _ => ?_
  simp only [Function.comp, beq_iff_eq]
  split <;> rfl

theorem Chassis.taken_seatLost {p : PortId} (hst : st ≠ .active) : (c.taken w st).SeatLost w p False := by
  refine ⟨nofun, fun k hk hkw => ?_⟩
  unfold Chassis.licKeys Chassis.taken at hk
  rw [Chassis.onLicence_licences, List.map_map] at hk
  obtain ⟨m, -, rfl⟩ := List.mem_map.1 hk
  simp only [Function.comp, beq_iff_eq] at hkw ⊢
  split
  · exact hst
  · rename_i hne
    rw [if_neg hne] at hkw
    exact absurd hkw hne

theorem Chassis.taken_sound {x : Ctx} (hc : c.Sound x (Scope.plain False False)) :
    (c.taken w st).Sound x (Scope.plain False False) := by
  refine ⟨fun q => ?_, nofun⟩
  have hq := hc.port q
  exact { hq with bound := nofun, left := nofun }

end Taken

/-- R81: the port whose turn it is in the rebinding holds no seat of the licence any more. -/
theorem Chassis.rebindOne_seatLost {x : Ctx} {w : Word16} {p : PortId} {c : Chassis}
    (hc : c.Sound x (Scope.plain False False)) (hw : c.SeatLost w p False) :
    (Chassis.rebindOne x (inRebind x) w 0 c p).SeatLost w p True := by
  have hP := Chassis.seatLost_kept x w p True
  have hh := hP.governed.inRebind
  unfold Chassis.rebindOne
  split
  · rename_i hb
    split
    · rename_i l hl
      refine hP.ceilingFell hh ⟨fun _ he => hw.choice_ne hl ?_, ?_⟩
      · rw [Chassis.port_setPort_self] at he
        exact Binding.licence.inj he
      · have : (c.bindSeat l.id p).licKeys = c.licKeys := Chassis.licKeys_onLicence _ l.id fun _ => ⟨rfl, rfl⟩
        exact fun k hk => hw.2 k (this ▸ hk)
    · rw [if_neg (Nat.lt_irrefl 0)]
      refine hP.seatLoss_of hh (fun d hk hbd _ => ⟨fun _ => ?_, hk ▸ hw.2⟩) fun hs => ?_
      · rcases hbd with h | h <;> rw [h] <;> exact nofun
      · have hseat := (hc.port p).binding.1 (by rw [show (c.view p).r.binding = _ from hb]; exact nofun)
        rw [show (c.view p).r.state.seated = false from hs] at hseat
        rcases hseat with h | h <;> cases h
  · rename_i hb
    exact ⟨fun _ => hb, hw.2⟩

section Revoked

variable {s : State} {l : Licence}

/-- What the rebindings of a revocation start from. -/
def Chassis.revokedBase (x : Ctx) (w : Word16) (c : Chassis) : Chassis :=
  (c.clear x .licenseExpiryNear w.toNat).taken w .revoked

theorem Chassis.revoked_of_active {x : Ctx} {c : Chassis} (hc : c.LicencesOk) (hl : l ∈ c.licences)
    (hst : l.record.state = .active) : c.revoked x l.record =
      ((l.bound.foldl (Chassis.rebindOne x (inRebind x) l.record.id 0) (c.revokedBase x l.record.id)).passIfDue x
        (Chassis.evaluateInPass x)).markLicences := by
  unfold Chassis.revoked Chassis.revokeLicence
  rw [hst]
  dsimp only
  rw [Chassis.unseatAll_eq (c := c.clear x .licenseExpiryNear l.record.id.toNat) (l := l) (hc.licence?_of_mem hl)]
  rfl

/-- What every rebinding and a pass keep, a revocation keeps. -/
theorem Chassis.revoked_keeps {x : Ctx} {p : PortId} {c : Chassis} {P : Chassis → Prop} (hP : Chassis.SeatKept x p P) (w : Word16)
    (ps : List PortId) (hc : P c) :
    P ((ps.foldl (Chassis.rebindOne x (inRebind x) w 0) c).passIfDue x (Chassis.evaluateInPass x)).markLicences := by
  have h1 := List.foldlRecOn (motive := P) ps (Chassis.rebindOne x (inRebind x) w 0) hc fun d hd q _ =>
    hP.rebindOne hP.governed.inRebind 0 q (.inl rfl) hd
  have h2 := hP.governed.passIfDue (fun _ => hP.governed.evaluateInPass) h1
  exact hP.still (c := Chassis.passIfDue x (Chassis.evaluateInPass x) _) (.of_eq rfl rfl rfl rfl) h2

/-- R81: after the revocation no port holds a seat of the licence. -/
theorem Chassis.revoked_seatLost {x : Ctx} {c : Chassis} (hc : c.LicencesOk) (hs : c.Sound x (Scope.plain False False))
    (hl : l ∈ c.licences) (hst : l.record.state = .active) (p : PortId)
    (hb : (c.port p).binding = .licence l.record.id → p ∈ l.bound) :
    ((c.revoked x l.record).port p).binding ≠ .licence l.record.id := by
  have h0 : (c.revokedBase x l.record.id).Sound x (Scope.plain False False) :=
    Chassis.taken_sound (c := c.clear x .licenseExpiryNear l.record.id.toNat) (hs.of_view (fun _ => rfl) rfl)
  have hlost : (c.revokedBase x l.record.id).SeatLost l.record.id p False := Chassis.taken_seatLost nofun
  have hP := Chassis.seatLost_kept x l.record.id p True
  suffices h : (c.revoked x l.record).SeatLost l.record.id p True from h.1 trivial
  rw [Chassis.revoked_of_active hc hl hst]
  by_cases hp : p ∈ l.bound
  · obtain ⟨as, bs, heq⟩ := List.append_of_mem hp
    rw [heq, List.foldl_append, List.foldl_cons]
    refine Chassis.revoked_keeps hP _ bs ?_
    obtain ⟨h1, h2⟩ := List.foldlRecOn
      (motive := fun d : Chassis => d.Sound x (Scope.plain False False) ∧ d.SeatLost l.record.id p False) as
      (Chassis.rebindOne x (inRebind x) l.record.id 0) ⟨h0, hlost⟩ fun d hd q _ =>
        ⟨(hd.1.rebindOne (inRebind_sounds x) rfl trivial nofun 0).unserve,
          (Chassis.seatLost_kept x l.record.id p False).rebindOne
            (Chassis.seatLost_kept x l.record.id p False).governed.inRebind 0 q (.inl rfl) hd.2⟩
    exact Chassis.rebindOne_seatLost h1 h2
  · exact Chassis.revoked_keeps hP _ _ ⟨fun _ h => hp (hb h), hlost.2⟩

theorem Chassis.revoked_graceEnded {x : Ctx} {c : Chassis} (hc : c.LicencesOk) (hl : l ∈ c.licences)
    (hst : l.record.state = .active) (p : PortId) (hg : c.GraceEnded p) : (c.revoked x l.record).GraceEnded p := by
  rw [Chassis.revoked_of_active hc hl hst]
  exact Chassis.revoked_keeps (Chassis.graceEnded_kept x p) _ _ hg

theorem Chassis.revoked_records {x : Ctx} {c : Chassis} (hc : c.LicencesOk) (hl : l ∈ c.licences)
    (hst : l.record.state = .active) : (c.revoked x l.record).Records (c.licences.map fun m =>
      if m.record.id = l.record.id then { m.record with state := .revoked } else m.record) := by
  have hR := Chassis.records_closed x (c.licences.map fun m =>
      if m.record.id = l.record.id then { m.record with state := .revoked } else m.record)
  have h0 : (c.revokedBase x l.record.id).Records _ :=
    Chassis.taken_records (c := c.clear x .licenseExpiryNear l.record.id.toNat)
  rw [Chassis.revoked_of_active hc hl hst]
  refine Chassis.Records.of_eq (c := Chassis.passIfDue x (Chassis.evaluateInPass x) _) rfl
    (hR.passIfDue (eval := Chassis.evaluateInPass x) hR.inRebind ?_)
  exact List.foldlRecOn (motive := Chassis.Records _) _ _ h0 fun _ hd q _ => hR.rebindOne hR.inRebind trivial hd _ _

end Revoked

end Sys2Proof.Machine

/-! # One port of a taken list (R81, R95), and the commands that name a licence (R81, R82; O36) -/

namespace Sys2Proof.Machine

/-! ## The rebinding of one port -/

section Rebind

variable {x : Ctx} {h : Hooks} {c : Chassis} {p : PortId} {w : Word16} {st : LicState} {l m : Licence}

theorem Chassis.passIfDue_of_not_due {eval : Chassis → Chassis} (hd : c.passDue = false) : c.passIfDue x eval = c := by
  unfold Chassis.passIfDue
  rw [hd]
  rfl

/-- R83: the candidates while the list of `l` is taken. -/
theorem Chassis.taken_fits (hc : c.LicencesOk) (hl : l ∈ c.licences) (hst : st ≠ .active) :
    (c.taken l.record.id st).Fits p m ↔ m ≠ l ∧ c.Fits p m := by
  unfold Chassis.Fits Chassis.taken
  rw [Chassis.onLicence_licences]
  constructor
  · rintro ⟨hm, hact, hrest⟩
    obtain ⟨k, hk, rfl⟩ := List.mem_map.1 hm
    by_cases hid : k.record.id = l.record.id
    · rw [if_pos (beq_iff_eq.2 hid)] at hact
      exact absurd hact hst
    · rw [if_neg (by simpa using hid)] at hact hrest ⊢
      exact ⟨fun he => hid (he ▸ rfl), hk, hact, hrest⟩
  · rintro ⟨hne, hm, hrest⟩
    refine ⟨List.mem_map.2 ⟨m, hm, if_neg ?_⟩, hrest⟩
    exact fun he => hne (hc.eq_of_id hm hl (beq_iff_eq.1 he))

/-- R83: the one candidate is the seat choice. -/
theorem Chassis.seatChoice_of_unique (hm : c.Fits p m) (hu : ∀ k, c.Fits p k → k = m) : c.seatChoice x p = some m.record := by
  obtain ⟨k, hk, hs, -⟩ := Chassis.seatChoice_best (x := x) ⟨m, hm⟩
  rw [hs, hu k hk]

/-- R81, R95: a seat whose ceiling covers the grant. -/
theorem Chassis.rebindOne_of_choice {r : LicenceRec} (hb : (c.port p).binding = .licence w) (hr : c.seatChoice x p = some r)
    (hg : ∀ g ∈ (c.port p).granted, g.num ≤ (x.cfg.port p).reqClass.num ∧ g.num ≤ r.ceiling.num) (n : Nat) :
    Chassis.rebindOne x h w n c p = (c.bindSeat r.id p).setPort p { c.port p with
      binding := .licence r.id, seatCeil := some r.ceiling
      effCeil := effective (x.cfg.port p).reqClass (some r.ceiling) } := by
  unfold Chassis.rebindOne
  rw [if_pos hb, hr]
  exact Chassis.seatNotice_of_covered (c := c.bindSeat r.id p) hg

/-- R81, R23: without a seat and without a grace length. -/
theorem Chassis.rebindOne_of_none (hb : (c.port p).binding = .licence w) (hr : c.seatChoice x p = none) :
    Chassis.rebindOne x h w 0 c p = c.seatLoss x h p := by
  unfold Chassis.rebindOne
  rw [if_pos hb, hr]
  rfl

theorem Chassis.seatLoss_of_running (hs : (c.port p).state = .linkWait ∨ (c.port p).state = .online) :
    c.seatLoss x h p = (c.setPort p { c.port p with binding := .drainHold }).startDrain x h p .unseated := by
  rcases hs with hs | hs <;> simp only [Chassis.seatLoss, hs]

/-- R23: a port that carries traffic drains toward UNSEATED. -/
theorem Chassis.seatLoss_of_traffic (hs : (c.port p).state = .linkWait ∨ (c.port p).state = .online)
    (hd : 0 < (x.cfg.port p).drainSecs) (hl : 0 < c.loginCount p) : c.seatLoss x h p = c.setPort p { c.port p with
      state := .draining .unseated (x.clockMs + (x.cfg.port p).drainSecs * 1000), binding := .drainHold } := by
  rw [Chassis.seatLoss_of_running hs,
    Chassis.startDrain_of_pos (c := c.setPort p { c.port p with binding := .drainHold }) hd hl,
    Chassis.port_setPort_self, Chassis.setPort_setPort]

theorem Chassis.mem_bindSeat_of_mem (hm : m ∈ c.licences) :
    ∃ k ∈ (c.bindSeat m.record.id p).licences, k.record = m.record ∧ k.bound = m.bound ++ [p] := by
  refine ⟨{ m with bound := m.bound ++ [p] }, ?_, rfl, rfl⟩
  unfold Chassis.bindSeat
  rw [Chassis.onLicence_licences]
  exact List.mem_map.2 ⟨m, hm, if_pos (beq_iff_eq.2 rfl)⟩

end Rebind

/-! ## The commands -/

section Commands

variable {s : State} {pr : Proc} {id : Nat} {l : Licence}

/-- R81: an Expired licence. -/
theorem Chassis.revoked_of_expired {x : Ctx} {c : Chassis} (hid : l.record.id = BitVec.ofNat 16 id) (hlt : id < 65536)
    (hst : l.record.state = .expired) : c.revoked x l.record = Chassis.clear x .licenseExpired id
      { c with
        licences := c.licences.map fun m =>
          if m.record.id = BitVec.ofNat 16 id then { m with record := { m.record with state := .revoked } } else m
        licencesDirty := true } := by
  have hn : l.record.id.toNat = id := by rw [hid, BitVec.toNat_ofNat]; exact Nat.mod_eq_of_lt hlt
  have hmap : c.licences.map (fun m => if m.record.id == l.record.id then
        { m with record := { m.record with state := .revoked } } else m) =
      c.licences.map fun m =>
        if m.record.id = BitVec.ofNat 16 id then { m with record := { m.record with state := .revoked } } else m :=
    List.map_congr_left fun m _ => by simp only [beq_iff_eq, hid]
  unfold Chassis.revoked Chassis.onLicence
  rw [hst]
  dsimp only
  rw [hn, hmap]
  rfl

theorem Chassis.removeLicence_of_expired {x : Ctx} {c : Chassis} (hid : l.record.id = BitVec.ofNat 16 id) (hlt : id < 65536)
    (hst : l.record.state = .expired) : c.removeLicence x l.record = Chassis.clear x .licenseExpired id
      { c with licences := c.licences.filter (fun m => m.record.id != BitVec.ofNat 16 id), licencesDirty := true } := by
  have hn : l.record.id.toNat = id := by rw [hid, BitVec.toNat_ofNat]; exact Nat.mod_eq_of_lt hlt
  unfold Chassis.removeLicence
  dsimp only
  rw [if_pos hst, hn, hid]
  rfl

theorem Chassis.removeLicence_of_revoked {x : Ctx} {c : Chassis} (hid : l.record.id = BitVec.ofNat 16 id)
    (hst : l.record.state = .revoked) : c.removeLicence x l.record =
      { c with licences := c.licences.filter (fun m => m.record.id != BitVec.ofNat 16 id), licencesDirty := true } := by
  unfold Chassis.removeLicence
  dsimp only
  rw [if_neg (by rw [hst]; exact nofun), hid]
  rfl

/-! ## The one port of a revoked licence -/

/-- R2, R140: a grant is covered by the requested class and by the seat ceiling. -/
theorem State.CeilingOk.granted {p : PortId} (h : s.CeilingOk p) : ∀ g ∈ (s.chassis.port p).granted,
    g.num ≤ (s.cfg.port p).reqClass.num ∧ ∃ k, (s.chassis.port p).seatCeil = some k ∧ g.num ≤ k.num := fun g hg => by
  obtain ⟨e, he, hle⟩ := h.2 g hg
  have heff := h.1.symm.trans he
  cases hk : (s.chassis.port p).seatCeil with
  | none => rw [hk] at heff; cases heff
  | some k =>
    rw [hk] at heff
    obtain rfl := Option.some.inj heff
    rw [Machine.RateClass.num_lower] at hle
    exact ⟨hle.trans (Nat.min_le_left _ _), k, rfl, hle.trans (Nat.min_le_right _ _)⟩

theorem Chassis.revokedBase_fits {x : Ctx} {c : Chassis} {p : PortId} {m : Licence} (hc : c.LicencesOk) (hl : l ∈ c.licences) :
    (c.revokedBase x l.record.id).Fits p m ↔ m ≠ l ∧ c.Fits p m :=
  Chassis.taken_fits (c := c.clear x .licenseExpiryNear l.record.id.toNat) hc hl nofun

section OnePort

variable {p : PortId} (hc : s.chassis.LicencesOk) (hl : l ∈ s.chassis.licences) (hst : l.record.state = .active)
  (hp : l.bound = [p]) (hb : (s.chassis.port p).binding = .licence l.record.id) (hd : s.chassis.passDue = false)
include hc hl hst hp hd

/-- No pass follows where the rebinding of the one port causes none. -/
theorem State.revoked_one {d : Chassis}
    (hr : Chassis.rebindOne s.ctx (inRebind s.ctx) l.record.id 0 (s.chassis.revokedBase s.ctx l.record.id) p = d)
    (hdue : d.passDue = s.chassis.passDue) : s.chassis.revoked s.ctx l.record = d.markLicences := by
  have h := Chassis.revoked_of_active (x := s.ctx) hc hl hst
  rw [hp, List.foldl_cons, List.foldl_nil, hr, Chassis.passIfDue_of_not_due (hdue.trans hd)] at h
  exact h

include hb

/-- R81: bound to the one free seat. -/
theorem State.revoked_rebinds {m : Licence} (hok : s.PortsOk) (hne : m ≠ l) (hm : s.chassis.Fits p m)
    (hu : ∀ k, k ≠ l → s.chassis.Fits p k → k = m) (hg : ∀ g ∈ (s.chassis.port p).granted, g.num ≤ m.record.ceiling.num) :
    (s.chassis.revoked s.ctx l.record).port p = { s.chassis.port p with
      binding := .licence m.record.id, seatCeil := some m.record.ceiling
      effCeil := effective (s.cfg.port p).reqClass (some m.record.ceiling) } ∧
    ∃ k ∈ (s.chassis.revoked s.ctx l.record).licences, k.record = m.record ∧ k.bound = m.bound ++ [p] := by
  have hfits (k : Licence) := Chassis.revokedBase_fits (x := s.ctx) (p := p) (m := k) hc hl
  have hbase := (hfits m).2 ⟨hne, hm⟩
  have hr := Chassis.rebindOne_of_choice (x := s.ctx) (h := inRebind s.ctx) (c := s.chassis.revokedBase s.ctx l.record.id) hb
    (Chassis.seatChoice_of_unique hbase fun k hk => hu k ((hfits k).1 hk).1 ((hfits k).1 hk).2)
    (fun g hgr => ⟨((hok.2.2 p).granted g hgr).1, hg g hgr⟩) 0
  rw [State.revoked_one hc hl hst hp hd hr rfl]
  exact ⟨Chassis.port_setPort_self .., Chassis.mem_bindSeat_of_mem hbase.1⟩

/-- R81, R23: without a free seat it drains toward UNSEATED. -/
theorem State.revoked_drains (hn : ∀ k, k ≠ l → ¬ s.chassis.Fits p k)
    (hs : (s.chassis.port p).state = .linkWait ∨ (s.chassis.port p).state = .online) (hsec : 0 < (s.cfg.port p).drainSecs)
    (hlog : 0 < s.chassis.loginCount p) : (s.chassis.revoked s.ctx l.record).port p = { s.chassis.port p with
      state := .draining .unseated (s.clockMs + (s.cfg.port p).drainSecs * 1000), binding := .drainHold } := by
  have hnone : (s.chassis.revokedBase s.ctx l.record.id).seatChoice s.ctx p = none := Chassis.seatChoice_eq_none.2 fun k hk => by
    obtain ⟨hne, hf⟩ := (Chassis.revokedBase_fits hc hl).1 hk
    exact hn k hne hf
  have hr := (Chassis.rebindOne_of_none (h := inRebind s.ctx) (c := s.chassis.revokedBase s.ctx l.record.id) hb hnone).trans
    (Chassis.seatLoss_of_traffic (x := s.ctx) (c := s.chassis.revokedBase s.ctx l.record.id) hs hsec hlog)
  rw [State.revoked_one hc hl hst hp hd hr rfl]
  exact Chassis.port_setPort_self ..

end OnePort

/-! ## The commands -/

theorem State.licenceRevoke_of_named (hn : s.chassis.named id = .ok l) :
    s.licenceRevoke id = (s.onChassis fun x c => c.revoked x l.record, plain .done) := by
  rw [State.licenceRevoke, hn]

theorem State.licenceRemove_of_named (hn : s.chassis.named id = .ok l) (hst : l.record.state ≠ .active) :
    s.licenceRemove id = (s.onChassis fun x c => c.removeLicence x l.record, plain .done) := by
  rw [State.licenceRemove, hn]
  exact if_neg hst

end Commands

/-- Settles O36: each command by the record that its number names. -/
theorem licenceRevokeAndRemove : Obligations.LicenceRevokeAndRemove := by
  intro s pr id hc w found others
  have hnamed {st : LicState} {l : Licence} (h : found st l) : s.chassis.named id = .ok l := by
    obtain ⟨h0, hl, hid, -⟩ := h
    exact hc.named_of_mem h0 hl hid
  refine ⟨fun hs => ⟨fun h0 => ?rzero, fun h0 hn => ?runknown, fun l h => ?revoked, fun l h => ?expired, fun l h hok hbound => ?active⟩,
    fun hs => ⟨fun h0 => ?dzero, fun h0 hn => ?dunknown, fun l h => ?dactive, fun l h => ?dexpired, fun l h => ?drevoked⟩⟩
  case rzero => exact leaves_of_refusal rfl hs (by rw [State.licenceRevoke, Chassis.named_zero h0]; rfl)
  case runknown => exact leaves_of_refusal rfl hs (by rw [State.licenceRevoke, Chassis.named_of_unknown h0 hn]; rfl)
  case revoked =>
    refine leaves_of_act rfl hs ((State.licenceRevoke_of_named (hnamed h)).trans ?_)
    obtain ⟨-, -, -, hst⟩ := h
    unfold State.onChassis Chassis.revoked
    rw [hst]
    rfl
  case expired =>
    refine leaves_of_act rfl hs ((State.licenceRevoke_of_named (hnamed h)).trans ?_)
    obtain ⟨-, -, hid, hst⟩ := h
    unfold State.onChassis
    dsimp only
    rw [Chassis.revoked_of_expired hid hs.lt hst]
    rfl
  case active =>
    obtain ⟨h0, hl, hid, hst⟩ := h
    have hid' : l.record.id = w := hid
    refine ⟨s.onChassis fun x c => c.revoked x l.record,
      leaves_of_act rfl hs (State.licenceRevoke_of_named (hc.named_of_mem h0 hl hid)), ?_⟩
    have hrec := Chassis.revoked_records (x := s.ctx) hc hl hst
    have hkept : (s.chassis.revoked s.ctx l.record).LicencesOk :=
      (licencesOk_kept.at s.ctx).revoked hc (licencesOk_closed s.ctx).inRebind hl
    have hsound := s.portsOk_iff.1 hok
    rw [← hid'] at hbound ⊢
    refine ⟨?_, hrec, fun m hm hmid => (hkept.2.2 m hm).2 ?_, fun p => ?_, fun p hb hg => ?_, fun p hp hb hd => ?_⟩
    · show (s.chassis.revoked s.ctx l.record).licencesDirty = true
      rw [Chassis.revoked_of_active hc hl hst]
      rfl
    · have hin : m.record ∈ s.chassis.licences.map _ := hrec ▸ List.mem_map_of_mem hm
      obtain ⟨k, hk, he⟩ := List.mem_map.1 hin
      split at he
      · rw [← he]; exact nofun
      · rename_i hne
        rw [← he] at hmid
        exact absurd hmid hne
    · exact Chassis.revoked_seatLost hc hsound hl hst p (hbound p)
    · exact (Chassis.revoked_graceEnded (x := s.ctx) hc hl hst p ⟨hg, by rw [hb]; exact nofun⟩).2
    · intro r free
      refine ⟨fun m hm hu hg => ?_, fun hn hs hsec hlog => ?_⟩
      · obtain ⟨hmem, hne, hrest⟩ := hm
        exact State.revoked_rebinds hc hl hst hp hb hd hok hne ⟨hmem, hrest⟩ (fun k hk hf => hu k ⟨hf.1, hk, hf.2⟩) hg
      · exact State.revoked_drains hc hl hst hp hb hd (fun k hk hf => hn k ⟨hf.1, hk, hf.2⟩) hs hsec hlog
  case dzero => exact leaves_of_refusal rfl hs (by rw [State.licenceRemove, Chassis.named_zero h0]; rfl)
  case dunknown => exact leaves_of_refusal rfl hs (by rw [State.licenceRemove, Chassis.named_of_unknown h0 hn]; rfl)
  case dactive =>
    refine leaves_of_refusal rfl hs ?_
    obtain ⟨h0, hl, hid, hst⟩ := h
    rw [State.licenceRemove, hc.named_of_mem h0 hl hid]
    exact if_pos hst
  case dexpired =>
    have hn := hnamed h
    obtain ⟨-, -, hid, hst⟩ := h
    refine leaves_of_act rfl hs ((State.licenceRemove_of_named hn (by rw [hst]; exact nofun)).trans ?_)
    unfold State.onChassis
    dsimp only
    rw [Chassis.removeLicence_of_expired hid hs.lt hst]
    rfl
  case drevoked =>
    have hn := hnamed h
    obtain ⟨-, -, hid, hst⟩ := h
    refine leaves_of_act rfl hs ((State.licenceRemove_of_named hn (by rw [hst]; exact nofun)).trans ?_)
    unfold State.onChassis
    dsimp only
    rw [Chassis.removeLicence_of_revoked hid hst]
    rfl

end Sys2Proof.Machine

/-! # The alarm table through an hour tick (R94, R95, R156 to R158; O40)

PORT, SEAT and PWR raise and clear four kinds without subject in an evaluation or a pass. The entries under any other key
stay, and the table keeps the room that the keys of the tick need. -/

namespace Sys2Proof.Machine

/-! ## The entries under one key -/

/-- The entries under a key. -/
def Alm.under (k : AlarmKind) (n : Nat) (a : Alm) : List AlarmEntry := a.entries.filter (AlarmEntry.hasKey k n)

section Under

variable {x : Ctx} {k k' : AlarmKind} {n n' : Nat} {a : Alm}

theorem Alm.mem_under {e : AlarmEntry} : e ∈ a.under k n ↔ e ∈ a.entries ∧ e.kind = k ∧ e.subject = n := by
  unfold Alm.under
  rw [List.mem_filter, AlarmEntry.hasKey_iff]

theorem Alm.under_eq_nil : a.under k n = [] ↔ ¬ a.Stands k n := by
  rw [List.eq_nil_iff_forall_not_mem]
  exact ⟨fun h ⟨e, he, hk⟩ => h e (Alm.mem_under.2 ⟨he, hk⟩), fun h e he => h ⟨e, Alm.mem_under.1 he⟩⟩

theorem Alm.under_raise (h : (k', n') ≠ (k, n)) : (a.raise x k n).under k' n' = a.under k' n' :=
  (Alm.Touch.raise x k n a).others k' n' (by simpa using h)

theorem Alm.under_clear (h : (k', n') ≠ (k, n)) : (a.clear x k n).under k' n' = a.under k' n' :=
  (Alm.Touch.clear x k n a).others k' n' (by simpa using h)

/-- R156: what a raise does to the table. -/
theorem Alm.raise_cases (x : Ctx) (k : AlarmKind) (n : Nat) (a : Alm) :
    ((a.raise x k n).entries = a.entries ∧ (a.Stands k n ∨ 64 ≤ a.entries.length)) ∨
      (¬ a.Stands k n ∧ (a.raise x k n).entries = a.entries ++ [AlarmEntry.new x k n]) := by
  by_cases hs : a.Stands k n
  · exact .inl ⟨by rw [Alm.raise_of_stands hs], .inl hs⟩
  · by_cases hl : a.entries.length < 64
    · exact .inr ⟨hs, by rw [Alm.raise_of_room hs hl, Alm.notifyAlarm_entries]⟩
    · refine .inl ⟨?_, .inr (Nat.not_lt.1 hl)⟩
      cases hf : a.full with
      | some e => rw [Alm.raise_of_reserved hs (Nat.not_lt.1 hl) hf]
      | none => rw [Alm.raise_of_full hs (Nat.not_lt.1 hl) hf, Alm.notifyAlarm_entries]

/-- R158: what a clear does to the table. -/
theorem Alm.clear_cases (x : Ctx) (k : AlarmKind) (n : Nat) (a : Alm) :
    ((a.clear x k n).entries = a.entries ∧ (a.Stands k n → ∃ e ∈ a.under k n, e.state = .clearedUnack)) ∨
      (latchedKind k = true ∧ (a.clear x k n).entries = (a.setState k n .clearedUnack).entries) ∨
      (a.Stands k n ∧ (a.clear x k n).entries = (a.remove k n).entries) := by
  unfold Alm.clear
  split
  · rename_i hn
    refine .inl ⟨rfl, fun ⟨e, he, hk⟩ => absurd (AlarmEntry.hasKey_iff.2 hk) ?_⟩
    exact List.find?_eq_none.1 hn e he
  · rename_i e he
    have hm : e ∈ a.under k n := List.mem_filter.2 ⟨List.mem_of_find?_eq_some he, List.find?_some he⟩
    have hs : a.Stands k n := ⟨e, Alm.mem_under.1 hm⟩
    split
    · rename_i hst
      exact .inl ⟨rfl, fun _ => ⟨e, hm, hst⟩⟩
    · split
      · rename_i hl
        exact .inr (.inl ⟨hl, by rw [Alm.notifyAlarm_entries]⟩)
      · exact .inr (.inr ⟨hs, by rw [Alm.freed_entries, Alm.notifyAlarm_entries]⟩)
    · exact .inr (.inr ⟨hs, by rw [Alm.freed_entries, Alm.notifyAlarm_entries]⟩)

/-- No entry of a key is Cleared-Unacknowledged. -/
def AlarmEntry.Live (es : List AlarmEntry) : Prop := ∀ e ∈ es, e.state ≠ .clearedUnack

theorem Alm.live_raise (h : AlarmEntry.Live (a.under k n)) : AlarmEntry.Live ((a.raise x k n).under k n) := by
  rcases Alm.raise_cases x k n a with ⟨he, -⟩ | ⟨-, he⟩
  · unfold Alm.under
    rw [he]
    exact h
  · intro e hm
    obtain ⟨hm, hk⟩ := Alm.mem_under.1 hm
    rw [he] at hm
    rcases List.mem_append.1 hm with hm | hm
    · exact h e (Alm.mem_under.2 ⟨hm, hk⟩)
    · rw [List.mem_singleton.1 hm]
      exact nofun

/-- R158: the clear of a kind that is not latched. -/
theorem Alm.under_clear_self (hl : latchedKind k = false) (h : AlarmEntry.Live (a.under k n)) :
    (a.clear x k n).under k n = [] := by
  rcases Alm.clear_cases x k n a with ⟨he, hs⟩ | ⟨hk, -⟩ | ⟨-, he⟩
  · have : a.under k n = [] := Alm.under_eq_nil.2 fun hst => by
      obtain ⟨e, hm, hc⟩ := hs hst
      exact h e hm hc
    unfold Alm.under at this ⊢
    rw [he]
    exact this
  · rw [hl] at hk
    cases hk
  · refine List.filter_eq_nil_iff.2 fun e hm => ?_
    rw [he] at hm
    simpa using (List.mem_filter.1 hm).2

end Under

/-! ## Room for the keys of a tick -/

/-- The keys under which entries stand. -/
def Alm.keys (a : Alm) : Finset (AlarmKind × Nat) := (a.entries.map AlarmEntry.keyOf).toFinset

/-- The table has at most `N` entries, also once every key of `K` has one. -/
def Alm.Room (K : Finset (AlarmKind × Nat)) (N : Nat) (a : Alm) : Prop := a.entries.length + (K \ a.keys).card ≤ N

section Room

variable {x : Ctx} {k : AlarmKind} {n N : Nat} {a b : Alm} {K : Finset (AlarmKind × Nat)}

theorem Alm.mem_keys : (k, n) ∈ a.keys ↔ a.Stands k n := by
  unfold Alm.keys Alm.Stands
  rw [List.mem_toFinset, List.mem_map]
  exact exists_congr fun e => and_congr_right fun _ => Prod.ext_iff

theorem Alm.Room.of_entries (h : b.entries = a.entries) (ha : a.Room K N) : b.Room K N := by
  unfold Alm.Room Alm.keys
  rw [h]
  exact ha

theorem Alm.Room.lt (ha : a.Room K N) (hN : N ≤ 64) (hk : (k, n) ∈ K) (hs : ¬ a.Stands k n) : a.entries.length < 64 := by
  have hm : (k, n) ∈ K \ a.keys := Finset.mem_sdiff.2 ⟨hk, fun h => hs (Alm.mem_keys.1 h)⟩
  have := Finset.card_pos.2 ⟨_, hm⟩
  unfold Alm.Room at ha
  omega

theorem Alm.Room.raise (ha : a.Room K N) (hk : (k, n) ∈ K) : (a.raise x k n).Room K N := by
  rcases Alm.raise_cases x k n a with ⟨he, -⟩ | ⟨hs, he⟩
  · exact ha.of_entries he
  · have hkeys : (a.raise x k n).keys = insert (k, n) a.keys := by
      unfold Alm.keys
      rw [he, List.map_append, List.toFinset_append, Finset.union_comm]
      rfl
    have hm : (k, n) ∈ K \ a.keys := Finset.mem_sdiff.2 ⟨hk, fun h => hs (Alm.mem_keys.1 h)⟩
    have hpos := Finset.card_pos.2 ⟨_, hm⟩
    unfold Alm.Room at ha ⊢
    rw [hkeys, Finset.sdiff_insert, Finset.card_erase_of_mem hm, he, List.length_append, List.length_singleton]
    omega

/-- R157: with room a raise leaves an entry. -/
theorem Alm.Room.raise_stands (ha : a.Room K N) (hN : N ≤ 64) (hk : (k, n) ∈ K) : (a.raise x k n).under k n ≠ [] := by
  rw [Ne, Alm.under_eq_nil, not_not]
  by_cases hs : a.Stands k n
  · rwa [Alm.raise_of_stands hs]
  · exact Alm.raise_stands (ha.lt hN hk hs)

theorem Alm.Room.clear (ha : a.Room K N) : (a.clear x k n).Room K N := by
  rcases Alm.clear_cases x k n a with ⟨he, -⟩ | ⟨-, he⟩ | ⟨⟨e, hm, hek, hen⟩, he⟩
  · exact ha.of_entries he
  · have hkeys : (a.clear x k n).keys = a.keys := by
      unfold Alm.keys
      rw [he]
      refine congrArg List.toFinset ?_
      unfold Alm.setState
      rw [List.map_map]
      refine List.map_congr_left fun e _ => ?_
      simp only [Function.comp]
      split <;> rfl
    unfold Alm.Room at ha ⊢
    rw [hkeys, he]
    unfold Alm.setState
    rw [List.length_map]
    exact ha
  · have hlt := Alm.remove_length_lt hm hek hen
    have hsub : K \ (a.clear x k n).keys ⊆ insert (k, n) (K \ a.keys) := fun κ hκ => by
      obtain ⟨h1, h2⟩ := Finset.mem_sdiff.1 hκ
      by_cases hne : κ = (k, n)
      · exact Finset.mem_insert.2 (.inl hne)
      · refine Finset.mem_insert.2 (.inr (Finset.mem_sdiff.2 ⟨h1, fun h => h2 ?_⟩))
        obtain ⟨f, hf, hfk⟩ := Alm.mem_keys.1 h
        refine Alm.mem_keys.2 ⟨f, ?_, hfk⟩
        rw [he]
        refine List.mem_filter.2 ⟨hf, ?_⟩
        simp only [Bool.not_eq_true', Bool.eq_false_iff, ne_eq, AlarmEntry.hasKey_iff]
        exact fun hkn => hne (Prod.ext (hfk.1.symm.trans hkn.1) (hfk.2.symm.trans hkn.2))
    have hcard := (Finset.card_le_card hsub).trans (Finset.card_insert_le _ _)
    unfold Alm.Room at ha ⊢
    rw [he]
    omega

end Room

/-! ## What evaluations and passes keep of the table -/

/-- The kinds that evaluations and passes raise and clear. -/
def governedKinds : List AlarmKind := [.graceRunning, .powerWait, .powerShedActive, .redundancyLost]

theorem mem_governedKinds : ∀ {k : AlarmKind}, chassisKind k = true → k ∈ governedKinds
  | .graceRunning, _ | .powerWait, _ | .powerShedActive, _ => by decide

/-- A property of the alarm unit that the requests of evaluations and passes keep. -/
def Alm.Governed (Q : Alm → Prop) : Prop :=
  ∀ (x : Ctx) (k : AlarmKind) (a : Alm), k ∈ governedKinds → Q a → Q (a.raise x k 0) ∧ Q (a.clear x k 0)

/-- A chassis whose alarm unit has a property. -/
def Chassis.OnAlm (Q : Alm → Prop) (c : Chassis) : Prop := Q c.alm

theorem Alm.Governed.closed {Q : Alm → Prop} (hQ : Alm.Governed Q) (x : Ctx) :
    Chassis.ClosedEval x (fun _ => True) (Chassis.OnAlm Q) where
  of_granted _ _ _ _ := trivial
  of_waiting _ _ _ _ := trivial
  of_counted _ _ _ _ := trivial
  of_seatWait _ _ _ _ := trivial
  port _ _ _ _ _ h := h
  joinWait _ _ _ _ h := h
  pwr _ _ _ h := h
  episode _ _ h := h
  count _ _ h := h
  control c p k _ h := show Q (c.putControl x p k).alm from (Chassis.putControl_alm c x p k).symm ▸ h
  logins _ _ _ h := h
  alarm_raise c k hk h := (hQ x k c.alm (mem_governedKinds hk) h).1
  alarm_clear c k hk h := (hQ x k c.alm (mem_governedKinds hk) h).2
  running _ _ h := h
  bind _ _ _ _ _ h := h
  unbind _ _ _ _ h := h
  grace c p n _ h := show Q (c.setGrace p n).alm from (Chassis.setGrace_alm c p n).symm ▸ h
  joinSeat _ _ _ h := h
  leaveSeat _ _ _ h := h
  due _ _ h := h
  lower _ _ _ _ _ h := h
  take c p g _ h := show Q (c.takeGrant x p g).alm from (Chassis.putControl_alm _ x p (.enable g)).symm ▸ h
  form c h := by
    have hj : ∀ u v, Q (c.alm.judge x .redundancyLost 0 u v) := fun u v => by
      unfold Alm.judge
      split
      · exact (hQ x .redundancyLost c.alm (by decide) h).1
      · exact (hQ x .redundancyLost c.alm (by decide) h).2
      · exact h
    exact hj _ _

/-- R95: a rebinding of a taken list. -/
theorem Alm.Governed.expire {Q : Alm → Prop} (hQ : Alm.Governed Q) {x : Ctx} {c : Chassis} {id : Word16}
    (h : Q ((c.alm.raise x .licenseExpired id.toNat).clear x .licenseExpiryNear id.toNat)) :
    Q (Chassis.expire x (inRebind x) c id).alm := by
  have hc := hQ.closed x
  unfold Chassis.expire Chassis.unseatAll
  dsimp only
  split
  · exact h
  · exact List.foldlRecOn (motive := Chassis.OnAlm Q) _ _ h fun d hd q _ => hc.rebindOne hc.inRebind trivial hd _ _

end Sys2Proof.Machine

/-! # The hour tick: hours, expiries and their alarms (R92, R94, R95; O40) -/

namespace Sys2Proof.Machine

/-! ## The event -/

/-- The state at the second that wraps SEAT's seconds counter. -/
def State.ticked (s : State) : State :=
  { s with
    clockMs := max s.clockMs s.secondDueMs
    secondDueMs := s.secondDueMs + 1000
    seconds := (s.seconds + 1) % 4294967296
    hourSeconds := 0 }

/-- R92: the chassis after the hour tick. -/
def State.hourChassis (s : State) : Chassis :=
  s.chassis.hourTick s.ticked.ctx (inRebind s.ticked.ctx) fun c => c.passIfDue s.ticked.ctx (Chassis.evaluateInPass s.ticked.ctx)

theorem State.hourTick_eq {s : State} (h : s.hourSeconds = 3599) : s.hourTick = { s.ticked with chassis := s.hourChassis } := by
  have h1 : s.hourTick = s.secondEnds := if_pos h
  rw [h1]
  simp only [State.secondEnds, h, State.carry, decide_true, if_true]
  rfl

theorem State.exec_hourTick {s : State} (hr : s.Runs) (h : s.hourSeconds = 3599) :
    ∃ t, exec .hourTick s = .next t ∧ t.blocks = ({ s.ticked with chassis := s.hourChassis } : State).blocks := by
  obtain ⟨t, ht, hb⟩ := exists_of_event (c := .hourTick) (f := State.hourTick) hr rfl
  exact ⟨t, ht, by rw [hb, State.hourTick_eq h]⟩

/-! ## One licence's hour (R92) -/

section Hour

variable {l : Licence} {t : Term}

/-- R92: the remaining hours after the hour. -/
def Licence.left (l : Licence) (t : Term) : Nat := if l.bound = [] then t.remaining else t.remaining - 1

theorem Licence.hour_of_none (h : l.record.term = none) : l.hour = l := by
  unfold Licence.hour
  rw [h]

theorem Licence.hour_of_not_active (h : l.record.state ≠ .active) : l.hour = l := by
  unfold Licence.hour
  split
  · exact if_neg fun ha => h ha.1
  · rfl

theorem Licence.hour_of_active (ht : l.record.term = some t) (ha : l.record.state = .active) :
    l.hour = { l with record := { l.record with term := some { t with remaining := l.left t } } } := by
  unfold Licence.hour Licence.left
  rw [ht]
  dsimp only
  by_cases hb : l.bound = []
  · rw [if_neg fun h => h.2 hb, if_pos hb, ← ht]
  · rw [if_pos ⟨ha, hb⟩, if_neg hb]

theorem Licence.runOut_iff : l.runOut = true ↔ l.record.state = .active ∧ ∃ t, l.record.term = some t ∧ t.remaining = 0 := by
  unfold Licence.runOut
  rw [Bool.and_eq_true, beq_iff_eq]
  refine and_congr_right fun _ => ?_
  cases ht : l.record.term with
  | none => simp
  | some t => simp

theorem Licence.runOut_hour_iff :
    l.hour.runOut = true ↔ l.record.state = .active ∧ ∃ t, l.record.term = some t ∧ l.left t = 0 := by
  rw [Licence.runOut_iff]
  by_cases ha : l.record.state = .active
  · cases ht : l.record.term with
    | none => rw [Licence.hour_of_none ht, ht]; simp
    | some t => rw [Licence.hour_of_active ht ha]; simp [ha]
  · rw [Licence.hour_of_not_active ha]
    simp [ha]

end Hour

/-! ## Hours and expiries (R92) -/

section Hours

variable {x : Ctx} {h : Hooks} {c : Chassis}

/-- R96: while no counted grace binding runs out, the tick's first step changes grace records alone. -/
theorem Chassis.foldl_graceHour_frame : ∀ (ps : List PortId) (c : Chassis), ps.Nodup →
    (∀ p ∈ ps, (c.port p).binding = .counted → 2 ≤ c.graceOf p) →
    ∃ g b, ps.foldl (Chassis.graceHour x h) c = { c with grace := g, licencesDirty := b }
  | [], c, _, _ => ⟨c.grace, c.licencesDirty, rfl⟩
  | p :: ps, c, hn, hg => by
    obtain ⟨hp, hps⟩ := List.nodup_cons.1 hn
    rw [List.foldl_cons]
    unfold Chassis.graceHour
    by_cases hb : (c.port p).binding = .counted
    · have h2 := hg p List.mem_cons_self hb
      dsimp only
      rw [if_pos hb, if_neg (by omega : c.graceOf p - 1 ≠ 0)]
      obtain ⟨g, b, hf⟩ := c.setGrace_frame p (c.graceOf p - 1)
      obtain ⟨g', b', hr⟩ := Chassis.foldl_graceHour_frame ps (c.setGrace p (c.graceOf p - 1)) hps fun q hq hbq => by
        have hs : c.Still q (c.setGrace p (c.graceOf p - 1)) := .setGrace _ fun he => hp (he ▸ hq)
        rw [hs.grace]
        exact hg q (List.mem_cons_of_mem _ hq) (by rw [← hs.port]; exact hbq)
      refine ⟨g', b', hr.trans ?_⟩
      rw [hf]
    · rw [if_neg hb]
      exact Chassis.foldl_graceHour_frame ps c hps fun q hq => hg q (List.mem_cons_of_mem _ hq)

theorem Chassis.graceHours_licences (hg : ∀ p, (c.port p).binding = .counted → 2 ≤ c.graceOf p) :
    (c.graceHours x h).licences = c.licences := by
  obtain ⟨g, b, hf⟩ := Chassis.foldl_graceHour_frame (x := x) (h := h) (allPorts.filter fun p => (c.port p).binding == .counted) c
    ((List.nodup_finRange 256).filter _) fun p _ => hg p
  unfold Chassis.graceHours
  rw [hf]
  rfl

/-- The ids of the licences that run out. -/
def Chassis.outIds (c : Chassis) : List Word16 := (c.licences.filter Licence.runOut).map fun l => l.record.id

/-- R95: a licence of one of the ids is Expired. -/
def LicenceRec.expireIn (ids : List Word16) (r : LicenceRec) : LicenceRec :=
  if r.id ∈ ids then { r with state := .expired } else r

theorem LicenceRec.expireIn_id (ids : List Word16) (r : LicenceRec) : (r.expireIn ids).id = r.id := by
  unfold LicenceRec.expireIn
  split <;> rfl

theorem LicenceRec.expireIn_cons (id : Word16) (ids : List Word16) (r : LicenceRec) :
    (r.expireIn [id]).expireIn ids = r.expireIn (id :: ids) := by
  unfold LicenceRec.expireIn
  by_cases h1 : r.id = id
  · simp [h1]
  · simp [h1]

theorem Chassis.expire_records {R : List LicenceRec} {id : Word16} (hc : c.Records R) :
    (Chassis.expire x (inRebind x) c id).Records (R.map (LicenceRec.expireIn [id])) := by
  have hR := Chassis.records_closed x (R.map (LicenceRec.expireIn [id]))
  unfold Chassis.expire Chassis.unseatAll
  dsimp only
  split
  · rename_i hn
    unfold Chassis.Records
    rw [← hc, List.map_map]
    refine List.map_congr_left fun l hl => ?_
    have hne : l.record.id ≠ id := by simpa using List.find?_eq_none.1 hn l hl
    simp [LicenceRec.expireIn, hne]
  · refine List.foldlRecOn (motive := Chassis.Records _) _ _ ?_ fun d hd q _ => hR.rebindOne hR.inRebind trivial hd _ _
    unfold Chassis.Records
    rw [Chassis.onLicence_licences, ← hc, List.map_map, List.map_map]
    refine List.map_congr_left fun l _ => ?_
    simp only [Function.comp, LicenceRec.expireIn, beq_iff_eq, List.mem_singleton]
    split <;> rfl

theorem Chassis.foldl_expire_records : ∀ (ids : List Word16) (c : Chassis) (R : List LicenceRec), c.Records R →
    (ids.foldl (Chassis.expire x (inRebind x)) c).Records (R.map (LicenceRec.expireIn ids))
  | [], c, R, hc => by
    have : R.map (LicenceRec.expireIn []) = R := by
      conv_rhs => rw [← List.map_id R]
      exact List.map_congr_left fun r _ => if_neg List.not_mem_nil
    rw [this]
    exact hc
  | id :: ids, c, R, hc => by
    have h1 := Chassis.foldl_expire_records ids _ _ (Chassis.expire_records (x := x) (id := id) hc)
    rw [List.map_map] at h1
    have hmap : R.map (LicenceRec.expireIn ids ∘ LicenceRec.expireIn [id]) = R.map (LicenceRec.expireIn (id :: ids)) :=
      List.map_congr_left fun r _ => r.expireIn_cons id ids
    rw [hmap] at h1
    exact h1

/-- R94: judging the thresholds changes the alarm unit alone. -/
theorem Chassis.foldl_judgeWarn_frame : ∀ (ls : List Licence) (c : Chassis),
    ∃ a, ls.foldl (Chassis.judgeWarn x) c = { c with alm := a }
  | [], c => ⟨c.alm, rfl⟩
  | l :: ls, c => by
    have h1 : ∃ a, Chassis.judgeWarn x c l = { c with alm := a } := by
      unfold Chassis.judgeWarn
      split
      · split
        · split
          · exact ⟨_, rfl⟩
          · exact ⟨_, rfl⟩
        · exact ⟨c.alm, rfl⟩
      · exact ⟨c.alm, rfl⟩
    obtain ⟨a, ha⟩ := h1
    obtain ⟨b, hb⟩ := Chassis.foldl_judgeWarn_frame ls { c with alm := a }
    exact ⟨b, by rw [List.foldl_cons, ha, hb]⟩

end Hours

/-- The chassis of an hour tick after its first two steps. -/
def State.hoursRun (s : State) : Chassis := (s.chassis.graceHours s.ticked.ctx (inRebind s.ticked.ctx)).termHours

/-- The chassis of an hour tick when the thresholds are judged. -/
def State.expired (s : State) : Chassis :=
  (s.hoursRun.outIds.foldl (Chassis.expire s.ticked.ctx (inRebind s.ticked.ctx)) s.hoursRun).passIfDue s.ticked.ctx
    (Chassis.evaluateInPass s.ticked.ctx)

theorem State.hourChassis_eq (s : State) :
    s.hourChassis = s.expired.licences.foldl (Chassis.judgeWarn s.ticked.ctx) s.expired := rfl

section Tick

variable {s : State}

theorem State.hourChassis_frame (s : State) : ∃ a, s.hourChassis = { s.expired with alm := a } := by
  rw [State.hourChassis_eq]
  exact Chassis.foldl_judgeWarn_frame _ _

theorem State.hoursRun_licences (hg : ∀ p, (s.chassis.port p).binding = .counted → 2 ≤ s.chassis.graceOf p) :
    s.hoursRun.licences = s.chassis.licences.map Licence.hour :=
  congrArg (List.map Licence.hour) (Chassis.graceHours_licences hg)

theorem State.expired_records (s : State) :
    s.expired.Records ((s.hoursRun.licences.map Licence.record).map (LicenceRec.expireIn s.hoursRun.outIds)) := by
  have hR := Chassis.records_closed s.ticked.ctx ((s.hoursRun.licences.map Licence.record).map (LicenceRec.expireIn s.hoursRun.outIds))
  exact hR.passIfDue (eval := Chassis.evaluateInPass s.ticked.ctx) hR.inRebind (Chassis.foldl_expire_records _ _ _ rfl)

theorem State.hoursRun_licencesOk (hc : s.chassis.LicencesOk) : s.hoursRun.LicencesOk :=
  licencesOk_map (c := s.chassis.graceHours s.ticked.ctx (inRebind s.ticked.ctx)) (fun l => l.hour_id)
    (fun l hl => l.hour_ok (((licencesOk_closed s.ticked.ctx).graceHours (licencesOk_closed s.ticked.ctx).inRebind hc).2.2 l hl))
    ((licencesOk_closed s.ticked.ctx).graceHours (licencesOk_closed s.ticked.ctx).inRebind hc)

theorem State.hourChassis_licencesOk (hc : s.chassis.LicencesOk) : s.hourChassis.LicencesOk :=
  (licencesOk_kept.at s.ticked.ctx).hourTick (licencesOk_closed s.ticked.ctx).inRebind hc fun _ hd =>
    (licencesOk_closed s.ticked.ctx).passIfDue (eval := Chassis.evaluateInPass s.ticked.ctx) (licencesOk_closed s.ticked.ctx).inRebind hd

theorem Chassis.LicencesOk.mem_outIds {c : Chassis} (hc : c.LicencesOk) {l : Licence} (hl : l ∈ c.licences) :
    l.record.id ∈ c.outIds ↔ l.runOut = true := by
  unfold Chassis.outIds
  rw [List.mem_map]
  constructor
  · rintro ⟨m, hm, he⟩
    obtain ⟨hm, ho⟩ := List.mem_filter.1 hm
    rwa [← hc.eq_of_id hm hl he]
  · exact fun ho => ⟨l, List.mem_filter.2 ⟨hl, ho⟩, rfl⟩

/-- A licence when the thresholds are judged is one whose hours have run. -/
theorem State.exists_of_expired {l : Licence} (hl : l ∈ s.expired.licences) :
    ∃ m ∈ s.hoursRun.licences, l.record = m.record.expireIn s.hoursRun.outIds := by
  have hm : l.record ∈ s.expired.licences.map Licence.record := List.mem_map_of_mem hl
  rw [s.expired_records, List.map_map] at hm
  obtain ⟨m, hm, he⟩ := List.mem_map.1 hm
  exact ⟨m, hm, he.symm⟩

end Tick

end Sys2Proof.Machine

/-! # The alarms of an hour tick (R94, R95; O40) -/

namespace Sys2Proof.Machine

/-- The key that the tick may add for a licence whose hours have run. -/
def Licence.tickKey (l : Licence) : AlarmKind × Nat :=
  (if l.runOut then .licenseExpired else .licenseExpiryNear, l.record.id.toNat)

/-- The keys that the tick may add. -/
def tickKeys (ls : List Licence) : Finset (AlarmKind × Nat) :=
  (governedKinds.map fun k => (k, 0)).toFinset ∪ (ls.map Licence.tickKey).toFinset

theorem card_tickKeys_le (ls : List Licence) : (tickKeys ls).card ≤ 4 + ls.length := by
  refine (Finset.card_union_le _ _).trans (Nat.add_le_add ?_ ?_)
  · exact (List.toFinset_card_le _).trans (by decide)
  · exact (List.toFinset_card_le _).trans (List.length_map ..).le

theorem mem_tickKeys_of_governed {k : AlarmKind} {ls : List Licence} (h : k ∈ governedKinds) : (k, 0) ∈ tickKeys ls :=
  Finset.mem_union_left _ (List.mem_toFinset.2 (List.mem_map_of_mem h))

theorem mem_tickKeys_of_mem {l : Licence} {ls : List Licence} (h : l ∈ ls) : l.tickKey ∈ tickKeys ls :=
  Finset.mem_union_right _ (List.mem_toFinset.2 (List.mem_map_of_mem h))

/-- What is followed through a tick: the room for its keys where `r` says so, and the entries under one key. -/
def Alm.Followed (ls : List Licence) (r : Prop) (k : AlarmKind) (n : Nat) (φ : List AlarmEntry → Prop) (a : Alm) : Prop :=
  (r → a.Room (tickKeys ls) 63) ∧ φ (a.under k n)

section Followed

variable {ls : List Licence} {r : Prop} {k k' : AlarmKind} {n n' : Nat} {φ : List AlarmEntry → Prop} {a : Alm} {x : Ctx}

theorem Alm.Followed.clear (ha : a.Followed ls r k n φ) (hne : (k, n) ≠ (k', n')) : (a.clear x k' n').Followed ls r k n φ :=
  ⟨fun hr => (ha.1 hr).clear, (Alm.under_clear hne).symm ▸ ha.2⟩

theorem Alm.Followed.raise (ha : a.Followed ls r k n φ) (hm : (k', n') ∈ tickKeys ls) (hne : (k, n) ≠ (k', n')) :
    (a.raise x k' n').Followed ls r k n φ :=
  ⟨fun hr => (ha.1 hr).raise hm, (Alm.under_raise hne).symm ▸ ha.2⟩

theorem Alm.followed_governed (hk : k ∉ governedKinds) : Alm.Governed (Alm.Followed ls r k n φ) := fun _ _ _ hk' ha =>
  have hne {m : Nat} : (k, n) ≠ (_, m) := fun h => hk ((Prod.mk.inj h).1 ▸ hk')
  ⟨ha.raise (mem_tickKeys_of_governed hk') hne, ha.clear hne⟩

end Followed

section Tick

variable {s : State} {ls : List Licence} {r : Prop} {k : AlarmKind} {n : Nat} {φ : List AlarmEntry → Prop}

/-- The first two steps of a tick and a pass. -/
theorem State.followed_hoursRun (hk : k ∉ governedKinds) (h : s.chassis.alm.Followed ls r k n φ) :
    s.hoursRun.alm.Followed ls r k n φ := by
  have hc := (Alm.followed_governed (ls := ls) (r := r) (n := n) (φ := φ) hk).closed s.ticked.ctx
  exact hc.graceHours hc.inRebind h

theorem Alm.Followed.passIfDue {x : Ctx} {c : Chassis} (hk : k ∉ governedKinds) (h : c.alm.Followed ls r k n φ) :
    (c.passIfDue x (Chassis.evaluateInPass x)).alm.Followed ls r k n φ := by
  have hc := (Alm.followed_governed (ls := ls) (r := r) (n := n) (φ := φ) hk).closed x
  exact hc.passIfDue (eval := Chassis.evaluateInPass x) hc.inRebind h

theorem mem_tickKeys_of_outIds {c : Chassis} {id : Word16} (h : id ∈ c.outIds) :
    (AlarmKind.licenseExpired, id.toNat) ∈ tickKeys c.licences := by
  obtain ⟨l, hl, rfl⟩ := List.mem_map.1 h
  obtain ⟨hl, ho⟩ := List.mem_filter.1 hl
  have := mem_tickKeys_of_mem hl
  unfold Licence.tickKey at this
  rwa [if_pos ho] at this

/-- R95: an expiry keeps the entries under a key that is not its own. -/
theorem Alm.Followed.expire {x : Ctx} {b c : Chassis} {id : Word16} (hk : k ∉ governedKinds) (hid : id ∈ b.outIds)
    (he : (k, n) ≠ (.licenseExpired, id.toNat)) (hn : (k, n) ≠ (.licenseExpiryNear, id.toNat))
    (h : c.alm.Followed b.licences r k n φ) : (Chassis.expire x (inRebind x) c id).alm.Followed b.licences r k n φ :=
  (Alm.followed_governed hk).expire ((h.raise (mem_tickKeys_of_outIds hid) he).clear hn)

theorem toNat_ne {a b : Word16} (h : a ≠ b) : a.toNat ≠ b.toNat := fun he => h (BitVec.eq_of_toNat_eq he)

/-- R95: License Expired stands for a licence that ran out. -/
theorem State.expired_stands (hroom : s.hoursRun.alm.Room (tickKeys s.hoursRun.licences) 63) {id : Word16}
    (hid : id ∈ s.hoursRun.outIds) :
    s.expired.alm.Followed s.hoursRun.licences True .licenseExpired id.toNat (· ≠ []) := by
  have hk : AlarmKind.licenseExpired ∉ governedKinds := by decide
  refine Alm.Followed.passIfDue hk ?_
  obtain ⟨as, bs, heq⟩ := List.append_of_mem hid
  have hin (j : Word16) (hj : j ∈ as ∨ j ∈ bs) : j ∈ s.hoursRun.outIds := by
    rw [heq]
    exact hj.elim (List.mem_append_left _) fun h => List.mem_append_right _ (List.mem_cons_of_mem _ h)
  rw [heq, List.foldl_append, List.foldl_cons]
  have h1 : (as.foldl (Chassis.expire s.ticked.ctx (inRebind s.ticked.ctx)) s.hoursRun).alm.Room (tickKeys s.hoursRun.licences) 63 := by
    have h := List.foldlRecOn (motive := fun c : Chassis => c.alm.Followed s.hoursRun.licences True .sensorTrustLost 0 fun _ => True)
      as (Chassis.expire s.ticked.ctx (inRebind s.ticked.ctx)) ⟨fun _ => hroom, trivial⟩ fun c hc j hj =>
        hc.expire (by decide) (hin j (.inl hj)) (by simp) (by simp)
    exact h.1 trivial
  have h2 : (Chassis.expire s.ticked.ctx (inRebind s.ticked.ctx)
      (as.foldl (Chassis.expire s.ticked.ctx (inRebind s.ticked.ctx)) s.hoursRun) id).alm.Followed s.hoursRun.licences True
        .licenseExpired id.toNat (· ≠ []) := by
    refine (Alm.followed_governed hk).expire (Alm.Followed.clear ⟨fun _ => h1.raise (mem_tickKeys_of_outIds hid), ?_⟩ (by simp))
    exact h1.raise_stands (by decide) (mem_tickKeys_of_outIds hid)
  refine List.foldlRecOn (motive := fun c : Chassis => c.alm.Followed s.hoursRun.licences True .licenseExpired id.toNat (· ≠ []))
    bs _ h2 fun c hc j hj => ?_
  by_cases hj' : j = id
  · subst hj'
    refine (Alm.followed_governed hk).expire (Alm.Followed.clear ⟨fun _ => (hc.1 trivial).raise (mem_tickKeys_of_outIds hid), ?_⟩
      (by simp))
    exact (hc.1 trivial).raise_stands (by decide) (mem_tickKeys_of_outIds hid)
  · exact hc.expire hk (hin j (.inr hj)) (fun he => toNat_ne (Ne.symm hj') (Prod.mk.inj he).2) (by simp)

/-- R94: no entry of License Expiry Near becomes Cleared-Unacknowledged. -/
theorem State.expired_live {n : Nat} (h : s.hoursRun.alm.Followed s.hoursRun.licences r .licenseExpiryNear n AlarmEntry.Live) :
    s.expired.alm.Followed s.hoursRun.licences r .licenseExpiryNear n AlarmEntry.Live := by
  have hk : AlarmKind.licenseExpiryNear ∉ governedKinds := by decide
  refine Alm.Followed.passIfDue hk ?_
  refine List.foldlRecOn (motive := fun c : Chassis => c.alm.Followed s.hoursRun.licences r .licenseExpiryNear n AlarmEntry.Live)
    _ _ h fun c hc j hj => ?_
  by_cases hjn : j.toNat = n
  · subst hjn
    refine (Alm.followed_governed hk).expire ?_
    have h1 : (c.alm.raise s.ticked.ctx .licenseExpired j.toNat).Followed s.hoursRun.licences r .licenseExpiryNear j.toNat
        AlarmEntry.Live := hc.raise (mem_tickKeys_of_outIds hj) (by simp)
    exact ⟨fun hr => (h1.1 hr).clear, by rw [Alm.under_clear_self rfl h1.2]; exact nofun⟩
  · exact hc.expire hk hj (by simp) fun he => hjn (Prod.mk.inj he).2.symm

/-- R94: the judgement of a licence other than the one of the key. -/
theorem Alm.Followed.judgeWarn {x : Ctx} {c : Chassis} {l : Licence} (hl : l.record.state = .active → l.record.term.isSome = true →
    (AlarmKind.licenseExpiryNear, l.record.id.toNat) ∈ tickKeys ls) (hne : (k, n) ≠ (.licenseExpiryNear, l.record.id.toNat))
    (h : c.alm.Followed ls r k n φ) : (Chassis.judgeWarn x c l).alm.Followed ls r k n φ := by
  unfold Chassis.judgeWarn
  split
  · rename_i ht
    split
    · rename_i ha
      split
      · exact h.raise (hl ha (by rw [ht]; rfl)) hne
      · exact h.clear hne
    · exact h
  · exact h

/-- The key that the judgement of an Active licence may add. -/
theorem State.mem_tickKeys_of_active (hc : s.chassis.LicencesOk) {l : Licence} (hl : l ∈ s.expired.licences)
    (ha : l.record.state = .active) : (AlarmKind.licenseExpiryNear, l.record.id.toNat) ∈ tickKeys s.hoursRun.licences := by
  obtain ⟨m, hm, he⟩ := State.exists_of_expired hl
  have hnot : m.record.id ∉ s.hoursRun.outIds := fun hin => by
    rw [he, LicenceRec.expireIn, if_pos hin] at ha
    cases ha
  have hrun : ¬ m.runOut = true := fun ho => hnot ((State.hoursRun_licencesOk hc).mem_outIds hm |>.2 ho)
  have hkey := mem_tickKeys_of_mem hm
  unfold Licence.tickKey at hkey
  rw [if_neg hrun] at hkey
  rwa [he, LicenceRec.expireIn, if_neg hnot]

/-- R95: License Expired stands through the thresholds. -/
theorem State.hourChassis_stands (hc : s.chassis.LicencesOk) (hroom : s.hoursRun.alm.Room (tickKeys s.hoursRun.licences) 63)
    {id : Word16} (hid : id ∈ s.hoursRun.outIds) : s.hourChassis.alm.under .licenseExpired id.toNat ≠ [] := by
  have h := State.expired_stands hroom hid
  rw [State.hourChassis_eq]
  exact (List.foldlRecOn
    (motive := fun c : Chassis => c.alm.Followed s.hoursRun.licences True .licenseExpired id.toNat (· ≠ [])) _ _ h
    fun c hd l hl => hd.judgeWarn (fun ha _ => State.mem_tickKeys_of_active hc hl ha) (by simp)).2

/-- R94: License Expiry Near by the threshold. -/
theorem State.hourChassis_near (hc : s.chassis.LicencesOk) {l : Licence} {t : Term} (hl : l ∈ s.expired.licences)
    (ht : l.record.term = some t) (ha : l.record.state = .active)
    (h : s.hoursRun.alm.Followed s.hoursRun.licences r .licenseExpiryNear l.record.id.toNat AlarmEntry.Live) :
    (t.warn < t.remaining → s.hourChassis.alm.under .licenseExpiryNear l.record.id.toNat = []) ∧
    (t.remaining ≤ t.warn → r → s.hourChassis.alm.under .licenseExpiryNear l.record.id.toNat ≠ [] ∧
      AlarmEntry.Live (s.hourChassis.alm.under .licenseExpiryNear l.record.id.toNat)) := by
  have hnodup : (s.expired.licences.map fun l => l.record.id).Nodup := by
    have := (State.hourChassis_licencesOk hc).2.1
    obtain ⟨a, hf⟩ := s.hourChassis_frame
    rwa [hf] at this
  obtain ⟨as, bs, heq⟩ := List.append_of_mem hl
  have hother (m : Licence) (hm : m ∈ as ∨ m ∈ bs) : m.record.id ≠ l.record.id := fun he => by
    rw [heq, List.map_append, List.map_cons] at hnodup
    obtain ⟨-, h2, h3⟩ := List.nodup_append.1 hnodup
    rcases hm with hm | hm
    · exact h3 _ (List.mem_map_of_mem hm) _ List.mem_cons_self he
    · exact (List.nodup_cons.1 h2).1 (he ▸ List.mem_map_of_mem hm)
  have hkeep {φ : List AlarmEntry → Prop} (c : Chassis) (m : Licence) (hm : m ∈ as ∨ m ∈ bs)
      (hd : c.alm.Followed s.hoursRun.licences r .licenseExpiryNear l.record.id.toNat φ) :
      (Chassis.judgeWarn s.ticked.ctx c m).alm.Followed s.hoursRun.licences r .licenseExpiryNear l.record.id.toNat φ := by
    refine hd.judgeWarn (fun hma _ => State.mem_tickKeys_of_active hc ?_ hma) fun he => toNat_ne (hother m hm) (Prod.mk.inj he).2.symm
    rw [heq]
    rcases hm with hm | hm
    · exact List.mem_append_left _ hm
    · exact List.mem_append_right _ (List.mem_cons_of_mem _ hm)
  have h1 := List.foldlRecOn
    (motive := fun c : Chassis => c.alm.Followed s.hoursRun.licences r .licenseExpiryNear l.record.id.toNat AlarmEntry.Live)
    as (Chassis.judgeWarn s.ticked.ctx) (State.expired_live h) fun c hd m hm => hkeep c m (.inl hm) hd
  have hlast {φ : List AlarmEntry → Prop}
      (h2 : (Chassis.judgeWarn s.ticked.ctx (as.foldl (Chassis.judgeWarn s.ticked.ctx) s.expired) l).alm.Followed
        s.hoursRun.licences r .licenseExpiryNear l.record.id.toNat φ) :
      φ (s.hourChassis.alm.under .licenseExpiryNear l.record.id.toNat) := by
    rw [State.hourChassis_eq, heq, List.foldl_append, List.foldl_cons]
    exact (List.foldlRecOn
      (motive := fun c : Chassis => c.alm.Followed s.hoursRun.licences r .licenseExpiryNear l.record.id.toNat φ)
      bs (Chassis.judgeWarn s.ticked.ctx) h2 fun c hd m hm => hkeep c m (.inr hm) hd).2
  have hkey := State.mem_tickKeys_of_active hc hl ha
  have hjudge : Chassis.judgeWarn s.ticked.ctx (as.foldl (Chassis.judgeWarn s.ticked.ctx) s.expired) l =
      if t.remaining ≤ t.warn then
        Chassis.raise s.ticked.ctx .licenseExpiryNear l.record.id.toNat (as.foldl (Chassis.judgeWarn s.ticked.ctx) s.expired)
      else Chassis.clear s.ticked.ctx .licenseExpiryNear l.record.id.toNat (as.foldl (Chassis.judgeWarn s.ticked.ctx) s.expired) := by
    unfold Chassis.judgeWarn
    rw [ht]
    exact if_pos ha
  refine ⟨fun hw => ?_, fun hw hr => ?_⟩
  · refine hlast (φ := (· = [])) ?_
    rw [hjudge, if_neg (Nat.not_le.2 hw)]
    exact ⟨fun hr => (h1.1 hr).clear, Alm.under_clear_self rfl h1.2⟩
  · refine hlast (φ := fun es => es ≠ [] ∧ AlarmEntry.Live es) ?_
    rw [hjudge, if_pos hw]
    exact ⟨fun hr => (h1.1 hr).raise hkey, (h1.1 hr).raise_stands (by decide) hkey, Alm.live_raise h1.2⟩

end Tick

end Sys2Proof.Machine

/-! # Counted grace at an hour tick (R96; O40) -/

namespace Sys2Proof.Machine

/-! ## The tick at one port -/

section OnePort

variable {x : Ctx} {h : Hooks} {p : PortId} {c : Chassis} {P : Chassis → Prop}

/-- R96: the grace hours of the other ports. -/
theorem Chassis.Local.graceHour (hP : Chassis.Local p P) (hh : h.Keeps P) {q : PortId} (hq : q ≠ p) (hc : P c) :
    P (Chassis.graceHour x h c q) := by
  unfold Chassis.graceHour
  split
  · have h1 : P (c.setGrace q (c.graceOf q - 1)) := (hP.moves x).grace _ _ _ hq hc
    dsimp only
    split
    · exact (hP.moves x).seatLoss (hP.keep x hh) hq h1
    · exact h1
  · exact hc

/-- R92: the grace hours, in which the port has its turn where it holds a counted grace binding. -/
theorem Chassis.graceHours_of_turn {Q P : Chassis → Prop} (hP : Chassis.Local p P)
    (hQh : ∀ c q, q ≠ p → Q c → Q (Chassis.graceHour x h c q)) (hPh : h.Keeps P)
    (hturn : ∀ c, Q c → P (Chassis.graceHour x h c p)) (hb : (c.port p).binding = .counted) (hc : Q c) :
    P (c.graceHours x h) := by
  have hm : p ∈ allPorts.filter fun p => (c.port p).binding == .counted :=
    List.mem_filter.2 ⟨List.mem_finRange p, beq_iff_eq.2 hb⟩
  have hnodup : (allPorts.filter fun p => (c.port p).binding == .counted).Nodup := (List.nodup_finRange 256).filter _
  obtain ⟨as, bs, heq⟩ := List.append_of_mem hm
  rw [heq] at hnodup
  obtain ⟨-, h2, h3⟩ := List.nodup_append.1 hnodup
  have h1 : Q (as.foldl (Chassis.graceHour x h) c) := List.foldlRecOn (motive := Q) _ _ hc fun d hd q hq =>
    hQh d q (h3 q hq p List.mem_cons_self) hd
  have h4 : P ((allPorts.filter fun p => (c.port p).binding == .counted).foldl (Chassis.graceHour x h) c) := by
    rw [heq, List.foldl_append, List.foldl_cons]
    exact List.foldlRecOn (motive := P) _ _ (hturn _ h1) fun d hd q hq =>
      hP.graceHour hPh (fun he => (List.nodup_cons.1 h2).1 (he ▸ hq)) hd
  unfold Chassis.graceHours
  refine hP _ _ ?_ h4
  exact .of_pwr (fun _ he => he) rfl

theorem Chassis.termHours_still (p : PortId) (c : Chassis) : c.Still p c.termHours :=
  ⟨rfl, .rfl, id, rfl, fun _ => .rfl, rfl, by
    unfold Chassis.licKeys Chassis.termHours
    rw [List.map_map]
    refine List.map_congr_left fun l _ => ?_
    obtain ⟨t, ht⟩ := l.hour_eq
    simp only [Function.comp, ht]⟩

/-- The rest of a tick in which no licence runs out. -/
theorem State.hourChassis_of_graceHours {s : State} (hP : Chassis.Local p P) (hG : Chassis.Governed s.ticked.ctx P)
    (hout : s.hoursRun.outIds = []) (h : P (s.chassis.graceHours s.ticked.ctx (inRebind s.ticked.ctx))) : P s.hourChassis := by
  have h1 : P s.hoursRun := hP _ _ (Chassis.termHours_still p _) h
  have h2 : P s.expired := by
    unfold State.expired
    rw [hout]
    exact hG.passIfDue (fun _ => hG.evaluateInPass) h1
  obtain ⟨a, hf⟩ := s.hourChassis_frame
  rw [hf]
  refine hP _ _ ?_ h2
  exact .of_pwr (fun _ he => he) rfl

end OnePort

/-- R92: no licence runs out where each Active Term licence has two hours left. -/
theorem State.outIds_eq_nil {s : State}
    (h : ∀ l ∈ s.chassis.licences, l.record.state = .active → ∀ t, l.record.term = some t → 2 ≤ t.remaining) :
    s.hoursRun.outIds = [] := by
  have hR := (Chassis.records_closed s.ticked.ctx (s.chassis.licences.map Licence.record)).graceHours
    (Chassis.records_closed s.ticked.ctx _).inRebind (c := s.chassis) rfl
  unfold Chassis.outIds
  rw [List.map_eq_nil_iff, List.filter_eq_nil_iff]
  intro m hm
  obtain ⟨l, hl, rfl⟩ := List.mem_map.1 hm
  have hrec : l.record ∈ s.chassis.licences.map Licence.record := by
    rw [← hR]
    exact List.mem_map_of_mem hl
  obtain ⟨k, hk, hkr⟩ := List.mem_map.1 hrec
  have h2 := h k hk
  rw [hkr] at h2
  rw [Licence.runOut_hour_iff]
  rintro ⟨ha, t, ht, hz⟩
  have h3 := h2 ha t ht
  unfold Licence.left at hz
  split at hz <;> omega

/-! ## A port that does not drain -/

section Steady

variable {x : Ctx} {p : PortId} {P : Chassis → Prop}

/-- A property of the seat of a port that does not drain and waits for no seat. -/
structure Chassis.SteadyKept (x : Ctx) (p : PortId) (P : Chassis → Prop) : Prop where
  steady : ∀ c, P c → (c.port p).state.isDraining = false ∧ p ∉ c.seatWait
  still : ∀ c d, Chassis.SeatStill p c d → (d.port p).state.isDraining = false → P c → P d
  bind : ∀ c d l, c.seatChoice x p = some l → d.licKeys = c.licKeys → (d.port p).binding = .licence l.id →
    d.graceOf p = 0 → d.seatWait = c.seatWait → (d.port p).state.isDraining = false → P c → P d

namespace Chassis.SteadyKept

variable (hP : Chassis.SteadyKept x p P) {h : Hooks} {c : Chassis}
include hP

theorem at_port : Chassis.Local p P := fun c d hs hc =>
  hP.still c d ⟨by rw [hs.port], hs.grace, hs.seat, hs.keys⟩ (by rw [hs.port]; exact (hP.steady c hc).1) hc

theorem setPort {r : PortRec} (hb : r.binding = (c.port p).binding) (hs : r.state.isDraining = false) (hc : P c) :
    P (c.setPort p r) := hP.still _ _ (.setPort hb) (by rw [Chassis.port_setPort_self]; exact hs) hc

theorem of_ports {d : Chassis} (hs : c.SeatStill p d) (hp : d.ports = c.ports) (hc : P c) : P d :=
  hP.still c d hs (by unfold Chassis.port; rw [hp]; exact (hP.steady c hc).1) hc

theorem putControl (k : Control) (hc : P c) : P (c.putControl x p k) :=
  hP.of_ports (.putControl ..) (Chassis.putControl_ports ..) hc

theorem removeLogins (hc : P c) : P (c.removeLogins p) := hP.of_ports (c := c) (.of_eq rfl rfl rfl rfl) rfl hc

theorem revoke (hc : P c) : P (c.revoke x h p) := by
  have shed : P ((((c.setPort p { c.port p with state := .shed, granted := none, negotiated := none }).putControl x p
      .disable).removeLogins p).joinWait x p .shed) :=
    hP.of_ports (c := ((c.setPort p { c.port p with state := .shed, granted := none, negotiated := none }).putControl x p
      .disable).removeLogins p) (.of_eq rfl rfl rfl rfl) rfl (hP.removeLogins (hP.putControl _ (hP.setPort (by rfl) rfl hc)))
  unfold Chassis.revoke
  dsimp only
  split
  · exact shed
  · exact shed
  · rename_i hst
    have := (hP.steady c hc).1
    rw [hst] at this
    cases this
  · exact hP.setPort rfl (hP.steady c hc).1 hc

theorem ceilingFell (hh : h.Keeps P) (hc : P c) : P (c.ceilingFell x h p) := by
  have hlow (e : RateClass) : P (c.reenableLower x h p e) :=
    hh.eval _ (hP.removeLogins (hP.putControl _ (hP.setPort (by rfl) rfl hc)))
  unfold Chassis.ceilingFell
  dsimp only
  split
  · split
    · split
      · exact hlow _
      · exact hlow _
      · rename_i hst
        have := (hP.steady c hc).1
        rw [hst] at this
        cases this
      · exact hc
    · exact hc
  · exact hc

theorem tracked : Chassis.Tracked x p P where
  at_port := hP.at_port
  revoke _ _ _ _ hc := hP.revoke hc
  rebind h c l hh _ hl hc := by
    have hport := Chassis.setGrace_port (c.bindSeat l.id p) p p 0
    refine hP.ceilingFell hh (hP.bind c _ l hl ?_ (by rw [Chassis.port_setPort_self]) ?_ ?_ ?_ hc)
    · exact (Chassis.licKeys_setGrace _ p 0).trans (Chassis.licKeys_onLicence _ l.id fun _ => ⟨rfl, rfl⟩)
    · exact Chassis.graceOf_setGrace ..
    · exact Chassis.setGrace_seatWait ..
    · rw [Chassis.port_setPort_self]
      exact (congrArg (fun r : PortRec => r.state.isDraining) hport).trans (hP.steady c hc).1
  bind _ c _ _ hs _ hc := absurd hs (hP.steady c hc).2

theorem governed : Chassis.Governed x P := hP.tracked.governed fun _ c e he _ _ hc => by
  unfold Chassis.offerGrant
  split
  · exact hc
  · dsimp only
    split
    · exact hc
    · rename_i g _
      have ht : P (c.takeGrant x e.port g) := by
        rw [he]
        exact hP.putControl _ (hP.setPort (by rfl) rfl hc)
      have hl : P ((c.takeGrant x e.port g).leaveWait x e.port) := by
        refine hP.of_ports (.leaveWait ..) ?_ ht
        obtain ⟨a, b, w, hf⟩ := (c.takeGrant x e.port g).leaveWait_frame x e.port
        rw [hf]
      exact hP.of_ports (c := (c.takeGrant x e.port g).leaveWait x e.port) (.of_eq rfl rfl rfl rfl) rfl hl

end Chassis.SteadyKept

end Steady

/-- A port that does not drain and waits for no seat holds a counted grace binding with `n` hours, or a seat of a licence
that a pass of the tick gave it. -/
structure Chassis.GraceHeld (p : PortId) (n : Nat) (K : List (Word16 × LicState)) (c : Chassis) : Prop where
  steady : (c.port p).state.isDraining = false
  seat : p ∉ c.seatWait
  keys : c.licKeys = K
  hold : ((c.port p).binding = .counted ∧ c.graceOf p = n) ∨
    (K ≠ [] ∧ c.graceOf p = 0 ∧ ∃ id, (c.port p).binding = .licence id)

theorem Chassis.graceHeld_kept (x : Ctx) (p : PortId) (n : Nat) (K : List (Word16 × LicState)) :
    Chassis.SteadyKept x p (Chassis.GraceHeld p n K) where
  steady _ hc := ⟨hc.steady, hc.seat⟩
  still c d hs hst hc := ⟨hst, fun hm => hc.seat (hs.seat.1 hm), hs.keys.trans hc.keys, by
    rw [hs.binding, hs.grace]
    exact hc.hold⟩
  bind c d l hl hk hb hg hs hst hc := by
    refine ⟨hst, hs ▸ hc.seat, hk.trans hc.keys, .inr ⟨fun hnil => ?_, hg, l.id, hb⟩⟩
    obtain ⟨m, hm, -⟩ := c.seatChoice_some p x hl
    have hkeys := hc.keys.trans hnil
    unfold Chassis.licKeys at hkeys
    rw [List.map_eq_nil_iff.1 hkeys] at hm
    cases hm

/-- R96: an hour of the port's own. -/
theorem Chassis.GraceHeld.graceHour {x : Ctx} {h : Hooks} {p : PortId} {n : Nat} {K : List (Word16 × LicState)} {c : Chassis}
    (hn : 2 ≤ n) (hc : c.GraceHeld p n K) : (Chassis.graceHour x h c p).GraceHeld p (n - 1) K := by
  unfold Chassis.graceHour
  by_cases hb : (c.port p).binding = .counted
  · obtain ⟨-, hg⟩ := hc.hold.resolve_right fun h => by
      obtain ⟨-, -, id, hid⟩ := h
      rw [hb] at hid
      cases hid
    have hport := Chassis.setGrace_port c p p (n - 1)
    dsimp only
    rw [if_pos hb, hg, if_neg (by omega)]
    exact ⟨by rw [hport]; exact hc.steady, fun hm => hc.seat (Chassis.setGrace_seatWait c p (n - 1) ▸ hm),
      (c.licKeys_setGrace p (n - 1)).trans hc.keys, .inl ⟨by rw [hport]; exact hb, Chassis.graceOf_setGrace ..⟩⟩
  · rw [if_neg hb]
    exact ⟨hc.steady, hc.seat, hc.keys, .inr (hc.hold.resolve_left fun h => hb h.1)⟩

/-- R96: the last hour of the port's own. -/
theorem Chassis.GraceEnding.graceHour {x : Ctx} {p : PortId} {c : Chassis} (hs : c.Sound x (Scope.plain False False))
    (hc : c.GraceEnding p) : (Chassis.graceHour x (inRebind x) c p).GraceEnded p := by
  have hP := Chassis.graceEnded_kept x p
  unfold Chassis.graceHour
  by_cases hb : (c.port p).binding = .counted
  · have hg : c.graceOf p - 1 = 0 := by
      by_cases h0 : c.graceOf p = 0
      · rw [h0]
      · rw [(hc h0).1]
    dsimp only
    rw [if_pos hb, hg, if_pos rfl]
    have hport := Chassis.setGrace_port c p p 0
    refine hP.seatLoss_of hP.governed.inRebind (fun d _ hd hdg => ⟨hdg.trans (Chassis.graceOf_setGrace ..), ?_⟩) fun hseat => ?_
    · rcases hd with h | h <;> rw [h] <;> exact nofun
    · rw [hport] at hseat
      have h1 := (hs.port p).binding.1 (by rw [show (c.view p).r.binding = _ from hb]; exact nofun)
      rw [show (c.view p).r.state.seated = false from hseat] at h1
      rcases h1 with h | h <;> cases h
  · rw [if_neg hb]
    refine ⟨?_, hb⟩
    by_contra h0
    exact hb (hc h0).2.1

end Sys2Proof.Machine

/-! # The one port of a licence that expires (R95, R23; O40) -/

namespace Sys2Proof.Machine

/-! ## A port that an evaluation does not reach -/

section Ungranted

variable {x : Ctx} {p : PortId} {c d : Chassis}

/-- An evaluation whose causes of a pass wait leaves a port that holds no grant and asks for none. -/
theorem Chassis.evaluateInPass_still (hg : (c.port p).granted = none) (ho : c.onWaitList p = false) :
    c.Still p (c.evaluateInPass x) := by
  have hL : Chassis.Local p (c.Still p) := fun _ _ h hd => hd.trans h
  have hh : (⟨id, Chassis.markPass⟩ : Hooks).Keeps (c.Still p) := ⟨fun _ h => h, fun _ h => (hL.moves x).due _ _ h⟩
  have hloop (budget n : Nat) : ∀ (d : Chassis) (any : Bool), c.Still p d →
      c.Still p (d.shedLoop x ⟨id, Chassis.markPass⟩ budget n any).1 := by
    induction n with
    | zero => exact fun _ _ hd => hd
    | succ n ih =>
      intro d any hd
      unfold Chassis.shedLoop
      split
      · exact hd
      · split
        · exact hd
        · rename_i q hq
          have hqp : q ≠ p := fun he => by
            have := (Chassis.of_nextShed hq).1
            rw [he, hd.port, hg] at this
            cases this
          exact ih _ _ ((hL.moves x).revoke (hL.keep x hh) hqp hd)
  have hshed (d : Chassis) (hd : c.Still p d) : c.Still p (d.shedOrGrant x ⟨id, Chassis.markPass⟩) := by
    unfold Chassis.shedOrGrant
    split
    · have h1 := hloop d.pwr.budget 256 d false hd
      unfold Chassis.shedPass
      dsimp only
      split
      · refine hL.openEpisode x (hL _ _ ?_ h1)
        exact .of_pwr (fun _ h => h) rfl
      · exact h1
    · split
      · refine List.foldlRecOn (motive := c.Still p) _ _ hd fun b hb e he => hL.offerGrant x (fun hep => ?_) hb
        exact List.any_eq_false.1 (hd.off ho) e (Chassis.mem_waitOrder.1 he) (beq_iff_eq.2 hep)
      · exact hd
  unfold Chassis.evaluateInPass Chassis.evaluateWith
  split
  · exact (hL.moves x).judgePowerWait (hL.closeEpisode x (hshed _ (hL.formBudget x (.refl p c))))
  · exact .refl p c

/-- No port drains, and no pass is due. -/
def Chassis.Calm (c : Chassis) : Prop := (∀ q, (c.port q).state.isDraining = false) ∧ c.passDue = false

theorem Chassis.calm_kept (x : Ctx) : Chassis.PassKept x Chassis.Calm where
  same c d h hc := by
    refine ⟨fun q => Bool.eq_false_iff.2 fun hq => ?_, h.passDue.trans hc.2⟩
    have := h.draining q hq
    rw [hc.1 q] at this
    cases this
  drainEnd _ c p _ _ hp hc := by rw [hc.1 p] at hp; cases hp

/-- R141: a release of a port that holds no grant, where nothing drains. -/
theorem Chassis.grantRelease_of_calm (hg : (c.port p).granted = none) (hc : c.Calm) :
    (c.grantRelease x (inRebind x) p).port p = c.port p ∧
      (p ∈ (c.grantRelease x (inRebind x) p).seatWait ↔ p ∈ c.seatWait) ∧
      (c.grantRelease x (inRebind x) p).passDue = false := by
  have hrec : ({ c.port p with granted := none } : PortRec) = c.port p := by rw [← hg]
  unfold Chassis.grantRelease
  split
  · rw [hrec]
    obtain ⟨a, b, w, hf⟩ := (c.setPort p (c.port p)).leaveWait_frame x p
    have hport : ((c.setPort p (c.port p)).leaveWait x p).port p = c.port p := by
      rw [hf]
      exact Chassis.port_setPort_self ..
    have hsame : c.SeatSame ((c.setPort p (c.port p)).leaveWait x p) := (Chassis.SeatSame.setPort p rfl id).trans (.leaveWait ..)
    have hstill := Chassis.evaluateInPass_still (x := x) (by rw [hport]; exact hg) (Chassis.leaveWait_off x p (c.setPort p (c.port p)))
    exact ⟨hstill.port.trans hport, by rw [← hsame.seatWait]; exact hstill.seat,
      ((Chassis.calm_kept x).evaluateInPass ((Chassis.calm_kept x).same _ _ hsame hc)).2⟩
  · exact ⟨rfl, .rfl, hc.2⟩

/-- R23: a port that carries no traffic loses its seat at once. -/
theorem Chassis.seatLoss_of_parked (hs : (c.port p).state = .powerWait ∨ (c.port p).state = .shed ∨ (c.port p).state = .fault)
    (hg : (c.port p).granted = none) (hc : c.Calm) :
    (c.seatLoss x (inRebind x) p).port p =
      { c.port p with state := .unseated, binding := .none, seatCeil := none, effCeil := none } ∧
    p ∈ (c.seatLoss x (inRebind x) p).seatWait ∧ (c.seatLoss x (inRebind x) p).passDue = false := by
  have hb : c.seatLoss x (inRebind x) p = Chassis.grantRelease x (inRebind x) p ((c.setPort p { c.port p with
      state := .unseated, binding := .none, seatCeil := none, effCeil := none }).joinSeatWait p) := by
    rcases hs with hs | hs | hs <;> simp only [Chassis.seatLoss, hs]
  rw [hb]
  have hport := Chassis.port_setPort_self c p { c.port p with
    state := .unseated, binding := .none, seatCeil := none, effCeil := none }
  have hcalm : (c.setPort p { c.port p with state := .unseated, binding := .none, seatCeil := none, effCeil := none }).Calm := by
    refine ⟨fun q => ?_, hc.2⟩
    by_cases hq : q = p
    · rw [hq, hport]
      rfl
    · rw [Chassis.port_setPort_ne _ _ hq]
      exact hc.1 q
  obtain ⟨h1, h2, h3⟩ := Chassis.grantRelease_of_calm (x := x) (p := p) (c := (c.setPort p { c.port p with
    state := .unseated, binding := .none, seatCeil := none, effCeil := none }).joinSeatWait p)
    ((congrArg PortRec.granted hport).trans hg) hcalm
  exact ⟨h1.trans hport, h2.2 (List.mem_append_right _ (List.mem_singleton.2 rfl)), h3⟩

end Ungranted

end Sys2Proof.Machine

/-! # The hour tick (R92, R94 to R96; O40) -/

namespace Sys2Proof.Machine

/-! ## The tick of a licence that expires -/

section Expiry

variable {s : State} {l m : Licence} {p : PortId}

/-- R92: a tick without counted grace bindings begins with Grace Running and the hours of the licences alone. -/
theorem State.hoursRun_of_no_grace (hg : ∀ q, (s.chassis.port q).binding ≠ .counted) :
    ∃ g a b, s.hoursRun = { s.chassis with
      graceRunning := g, alm := a, licencesDirty := b, licences := s.chassis.licences.map Licence.hour } := by
  have hnil : allPorts.filter (fun p => (s.chassis.port p).binding == .counted) = [] :=
    List.filter_eq_nil_iff.2 fun q _ hq => hg q (beq_iff_eq.1 hq)
  unfold State.hoursRun Chassis.graceHours
  rw [hnil]
  exact ⟨_, _, _, rfl⟩

theorem Licence.hour_fields (l : Licence) : l.hour.record.id = l.record.id ∧ l.hour.record.state = l.record.state ∧
    l.hour.record.seats = l.record.seats ∧ l.hour.record.scope = l.record.scope ∧ l.hour.record.ceiling = l.record.ceiling ∧
    l.hour.bound = l.bound := by
  obtain ⟨t, h⟩ := l.hour_eq
  rw [h]
  exact ⟨rfl, rfl, rfl, rfl, rfl, rfl⟩

/-- R83: an hour leaves the candidates. -/
theorem Chassis.fits_hour {c d : Chassis} (h : d.licences = c.licences.map Licence.hour) :
    d.Fits p m ↔ ∃ k, c.Fits p k ∧ m = k.hour := by
  unfold Chassis.Fits
  rw [h]
  constructor
  · rintro ⟨hm, hrest⟩
    obtain ⟨k, hk, rfl⟩ := List.mem_map.1 hm
    obtain ⟨-, h2, h3, h4, -, h6⟩ := k.hour_fields
    rw [h2, h3, h4, h6] at hrest
    exact ⟨k, ⟨hk, hrest⟩, rfl⟩
  · rintro ⟨k, ⟨hk, hrest⟩, rfl⟩
    obtain ⟨-, h2, h3, h4, -, h6⟩ := k.hour_fields
    rw [h2, h3, h4, h6]
    exact ⟨List.mem_map_of_mem hk, hrest⟩

/-- What the rebinding of an expiry starts from. -/
def State.expiryBase (s : State) (l : Licence) : Chassis :=
  ((s.hoursRun.raise s.ticked.ctx .licenseExpired l.record.id.toNat).clear s.ticked.ctx .licenseExpiryNear
    l.record.id.toNat).taken l.record.id .expired

theorem filter_eq_singleton {α : Type} {f : α → Bool} {a : α} {as : List α} (hn : as.Nodup) (ha : a ∈ as)
    (h : ∀ b ∈ as, f b = true ↔ b = a) : as.filter f = [a] := by
  obtain ⟨bs, cs, rfl⟩ := List.append_of_mem ha
  obtain ⟨-, h2, h3⟩ := List.nodup_append.1 hn
  have hbs : bs.filter f = [] := List.filter_eq_nil_iff.2 fun b hb hf =>
    h3 b hb a List.mem_cons_self ((h b (List.mem_append_left _ hb)).1 hf)
  have hcs : cs.filter f = [] := List.filter_eq_nil_iff.2 fun b hb hf =>
    (List.nodup_cons.1 h2).1 ((h b (List.mem_append_right _ (List.mem_cons_of_mem _ hb))).1 hf ▸ hb)
  rw [List.filter_append, hbs, List.filter_cons_of_pos ((h a ha).2 rfl), hcs]
  rfl

variable (hg : ∀ q, (s.chassis.port q).binding ≠ .counted) (hc : s.chassis.LicencesOk) (hl : l ∈ s.chassis.licences)
  (hout : l.hour.runOut = true) (hothers : ∀ m ∈ s.chassis.licences, m ≠ l → m.hour.runOut = false)
include hg hc hl

theorem State.expiryBase_fits : (s.expiryBase l).Fits p m ↔ ∃ k, k ≠ l ∧ s.chassis.Fits p k ∧ m = k.hour := by
  obtain ⟨g, a, b, hrun⟩ := State.hoursRun_of_no_grace hg
  have hlic : s.hoursRun.licences = s.chassis.licences.map Licence.hour := by rw [hrun]
  have hok := State.hoursRun_licencesOk hc
  have hmem : l.hour ∈ s.hoursRun.licences := hlic ▸ List.mem_map_of_mem hl
  have htaken := Chassis.taken_fits (c := (s.hoursRun.raise s.ticked.ctx .licenseExpired l.record.id.toNat).clear s.ticked.ctx
    .licenseExpiryNear l.record.id.toNat) (p := p) (m := m) (l := l.hour) (st := .expired) hok hmem nofun
  rw [l.hour_id] at htaken
  refine htaken.trans ?_
  have hfits := Chassis.fits_hour (p := p) (m := m) (c := s.chassis) (d := (s.hoursRun.raise s.ticked.ctx .licenseExpired
    l.record.id.toNat).clear s.ticked.ctx .licenseExpiryNear l.record.id.toNat) hlic
  rw [hfits]
  constructor
  · rintro ⟨hne, k, hk, rfl⟩
    exact ⟨k, fun he => hne (by rw [he]), hk, rfl⟩
  · rintro ⟨k, hne, hk, rfl⟩
    refine ⟨fun he => hne (hc.eq_of_id hk.1 hl ?_), k, hk, rfl⟩
    rw [← k.hour_id, ← l.hour_id, he]

include hout hothers

theorem State.expired_of_one (hp : l.bound = [p]) : s.expired =
    (Chassis.rebindOne s.ticked.ctx (inRebind s.ticked.ctx) l.record.id s.cfg.graceLen (s.expiryBase l) p).passIfDue s.ticked.ctx
      (Chassis.evaluateInPass s.ticked.ctx) := by
  obtain ⟨g, a, b, hrun⟩ := State.hoursRun_of_no_grace hg
  have hlic : s.hoursRun.licences = s.chassis.licences.map Licence.hour := by rw [hrun]
  have hok := State.hoursRun_licencesOk hc
  have hmem : l.hour ∈ s.hoursRun.licences := hlic ▸ List.mem_map_of_mem hl
  have hids : s.hoursRun.outIds = [l.record.id] := by
    have hf : s.hoursRun.licences.filter Licence.runOut = [l.hour] := by
      refine filter_eq_singleton (List.Nodup.of_map _ hok.2.1) hmem fun m hm => ?_
      rw [hlic] at hm
      obtain ⟨k, hk, rfl⟩ := List.mem_map.1 hm
      by_cases hkl : k = l
      · rw [hkl]
        exact ⟨fun _ => rfl, fun _ => hout⟩
      · refine ⟨fun h => ?_, fun he => absurd ?_ hkl⟩
        · rw [hothers k hk hkl] at h
          cases h
        · refine hc.eq_of_id hk hl ?_
          rw [← k.hour_id, ← l.hour_id, he]
    unfold Chassis.outIds
    rw [hf, List.map_singleton, l.hour_id]
  unfold State.expired
  rw [hids, List.foldl_cons, List.foldl_nil]
  unfold Chassis.expire
  dsimp only
  have hlic? : ((s.hoursRun.raise s.ticked.ctx .licenseExpired l.record.id.toNat).clear s.ticked.ctx .licenseExpiryNear
      l.record.id.toNat).licence? l.record.id = some l.hour := by
    rw [← l.hour_id]
    exact hok.licence?_of_mem hmem
  rw [Chassis.unseatAll_eq hlic?, l.hour_bound, hp]
  rfl

/-- The rebinding of the one port, where it causes no pass, is the tick at that port. -/
theorem State.expired_one (hp : l.bound = [p]) {d : Chassis}
    (hr : Chassis.rebindOne s.ticked.ctx (inRebind s.ticked.ctx) l.record.id s.cfg.graceLen (s.expiryBase l) p = d)
    (hd : d.passDue = false) : s.expired = d := by
  rw [State.expired_of_one hg hc hl hout hothers hp, hr, Chassis.passIfDue_of_not_due hd]

end Expiry

end Sys2Proof.Machine

/-! # The hour tick (R92, R94 to R96; O40): its clauses together -/

namespace Sys2Proof.Machine

section Clauses

variable {s : State} {l m : Licence} {p : PortId}

/-! ## Records and alarms -/

theorem State.hourChassis_licences (s : State) : s.hourChassis.licences = s.expired.licences := by
  obtain ⟨a, h⟩ := s.hourChassis_frame
  rw [h]

theorem State.hourChassis_port (s : State) (p : PortId) : s.hourChassis.port p = s.expired.port p := by
  obtain ⟨a, h⟩ := s.hourChassis_frame
  rw [h]
  rfl

/-- R92, R95: an Active Term licence loses its hour, and is Expired where none is left. -/
theorem Licence.hour_expired {t : Term} {ids : List Word16} (ht : l.record.term = some t) (ha : l.record.state = .active)
    (hids : l.hour.record.id ∈ ids ↔ l.hour.runOut = true) : l.hour.record.expireIn ids =
      { l.record with
        term := some { t with remaining := if l.bound = [] then t.remaining else t.remaining - 1 }
        state := if (if l.bound = [] then t.remaining else t.remaining - 1) = 0 then .expired else .active } := by
  have hz : l.hour.runOut = true ↔ l.left t = 0 := by
    rw [Licence.runOut_hour_iff]
    refine ⟨fun ⟨_, u, hu, h0⟩ => ?_, fun h0 => ⟨ha, t, ht, h0⟩⟩
    rw [ht] at hu
    rwa [Option.some.inj hu]
  unfold LicenceRec.expireIn
  rw [show (if l.bound = [] then t.remaining else t.remaining - 1) = l.left t from rfl]
  by_cases h0 : l.left t = 0
  · rw [if_pos (hids.2 (hz.2 h0)), if_pos h0, Licence.hour_of_active ht ha]
  · rw [if_neg fun hin => h0 (hz.1 (hids.1 hin)), if_neg h0, Licence.hour_of_active ht ha, ← ha]

theorem Licence.hour_other {ids : List Word16} (h : l.record.term = none ∨ l.record.state ≠ .active)
    (hids : l.hour.record.id ∈ ids ↔ l.hour.runOut = true) : l.hour.record.expireIn ids = l.record := by
  have hrun : ¬ l.hour.runOut = true := fun ho => by
    obtain ⟨ha, t, ht, -⟩ := Licence.runOut_hour_iff.1 ho
    rcases h with h | h
    · rw [ht] at h; cases h
    · exact h ha
  unfold LicenceRec.expireIn
  rw [if_neg fun hin => hrun (hids.1 hin)]
  rcases h with h | h
  · rw [Licence.hour_of_none h]
  · rw [Licence.hour_of_not_active h]

theorem State.mem_outIds_hour (hc : s.chassis.LicencesOk) (hlic : s.hoursRun.licences = s.chassis.licences.map Licence.hour)
    (hl : l ∈ s.chassis.licences) : l.hour.record.id ∈ s.hoursRun.outIds ↔ l.hour.runOut = true :=
  (State.hoursRun_licencesOk hc).mem_outIds (by rw [hlic]; exact List.mem_map_of_mem hl)

/-- The table has room for the keys of a tick. -/
theorem State.followed_start {k : AlarmKind} {n : Nat} {φ : List AlarmEntry → Prop} (hk : k ∉ governedKinds)
    (hlic : s.hoursRun.licences = s.chassis.licences.map Licence.hour) (h : φ (s.chassis.alm.under k n)) :
    s.hoursRun.alm.Followed s.hoursRun.licences (s.chassis.alm.entries.length + s.chassis.licences.length + 5 ≤ 64) k n φ := by
  refine State.followed_hoursRun hk ⟨fun hroom => ?_, h⟩
  have hcard := (Finset.card_le_card (Finset.sdiff_subset (s := tickKeys s.hoursRun.licences) (t := s.chassis.alm.keys))).trans
    (card_tickKeys_le s.hoursRun.licences)
  rw [hlic, List.length_map] at hcard
  unfold Alm.Room
  rw [hlic]
  omega

theorem mem_entries_of_blocks {t u : State} (h : t.blocks = u.blocks) {e : AlarmEntry} (he : e.kind ≠ .graceRunning) :
    e ∈ t.chassis.alm.entries ↔ e ∈ u.chassis.alm.entries := by
  have hf := congrArg (e ∈ Blocks.alarms ·) h
  have hkey : (!e.hasKey .graceRunning 0) = true := by
    rw [Bool.not_eq_true', Bool.eq_false_iff, ne_eq, AlarmEntry.hasKey_iff]
    exact fun hk => he hk.1
  simpa only [State.blocks, List.mem_filter, hkey, and_true] using iff_of_eq hf

theorem mem_under_of_blocks {t u : State} (h : t.blocks = u.blocks) {k : AlarmKind} (hk : k ≠ .graceRunning) {n : Nat}
    {e : AlarmEntry} : e ∈ u.chassis.alm.under k n ↔ e ∈ t.chassis.alm.entries ∧ e.kind = k ∧ e.subject = n := by
  rw [Alm.mem_under]
  exact and_congr_left fun he => (mem_entries_of_blocks h (by rw [he.1]; exact hk)).symm

/-! ## Counted grace -/

/-- R96: two hours or more. -/
theorem State.hourChassis_graceHeld (hok : s.PortsOk) (hout : s.hoursRun.outIds = []) (hb : (s.chassis.port p).binding = .counted)
    (hg : 2 ≤ s.chassis.graceOf p) (hd : (s.chassis.port p).state.isDraining = false) :
    s.hourChassis.GraceHeld p (s.chassis.graceOf p - 1) s.chassis.licKeys := by
  have hQ := Chassis.graceHeld_kept s.ticked.ctx p (s.chassis.graceOf p) s.chassis.licKeys
  have hP := Chassis.graceHeld_kept s.ticked.ctx p (s.chassis.graceOf p - 1) s.chassis.licKeys
  have hrow := hok.1 p
  have hseat : p ∉ s.chassis.seatWait := hrow.not_seat fun hu => by
    have := hrow.1.1 (by rw [hb]; exact nofun)
    rw [hu] at this
    cases this
  refine State.hourChassis_of_graceHours hP.at_port hP.governed hout ?_
  exact Chassis.graceHours_of_turn hP.at_port
    (fun c q hq hc => hQ.at_port.graceHour hQ.governed.inRebind hq hc) hP.governed.inRebind (fun _ hc => hc.graceHour hg) hb
    ⟨hd, hseat, rfl, .inl ⟨hb, rfl⟩⟩

/-- R96: the last hour. -/
theorem State.hourChassis_graceEnded (hok : s.PortsOk) (hout : s.hoursRun.outIds = []) (hb : (s.chassis.port p).binding = .counted)
    (hg : s.chassis.graceOf p ≤ 1) : s.hourChassis.GraceEnded p := by
  have hQ := Chassis.graceEnding_kept s.ticked.ctx p
  have hP := Chassis.graceEnded_kept s.ticked.ctx p
  have hrow := hok.1 p
  have hseat : p ∉ s.chassis.seatWait := hrow.not_seat fun hu => by
    have := hrow.1.1 (by rw [hb]; exact nofun)
    rw [hu] at this
    cases this
  have hsound : s.chassis.Sound s.ticked.ctx (Scope.plain False False) := s.ticked.portsOk_iff.1 hok
  refine State.hourChassis_of_graceHours hP.at_port hP.governed hout ?_
  refine Chassis.graceHours_of_turn
    (Q := fun c => c.Sound s.ticked.ctx (Scope.plain False False) ∧ c.GraceEnding p) hP.at_port
    (fun c q hq hc => ⟨hc.1.graceHour (inRebind_sounds _), hQ.at_port.graceHour hQ.governed.inRebind hq hc.2⟩)
    hP.governed.inRebind (fun c hc => hc.2.graceHour hc.1) hb ⟨hsound, fun h0 => ⟨?_, hb, hseat⟩⟩
  omega

/-! ## The port of the licence that expires -/

section OnePort

variable (hg : ∀ q, (s.chassis.port q).binding ≠ .counted)
include hg

theorem State.expiryBase_frame (l : Licence) : ∃ g a b ls, s.expiryBase l = { s.chassis with
    graceRunning := g, alm := a, licencesDirty := b, licences := ls } := by
  obtain ⟨g, a, b, hrun⟩ := State.hoursRun_of_no_grace hg
  unfold State.expiryBase
  rw [hrun]
  exact ⟨_, _, _, _, rfl⟩

variable (hc : s.chassis.LicencesOk) (hl : l ∈ s.chassis.licences) (hout : l.hour.runOut = true)
  (hothers : ∀ m ∈ s.chassis.licences, m ≠ l → m.hour.runOut = false) (hp : l.bound = [p])
  (hb : (s.chassis.port p).binding = .licence l.record.id) (hd : s.chassis.passDue = false)
include hc hl hout hothers hp hb hd

/-- R95: bound to the one free seat. -/
theorem State.expired_rebinds (hok : s.PortsOk) (hne : m ≠ l) (hm : s.chassis.Fits p m)
    (hu : ∀ k, k ≠ l → s.chassis.Fits p k → k = m) (hcov : ∀ g ∈ (s.chassis.port p).granted, g.num ≤ m.record.ceiling.num) :
    s.expired.port p = { s.chassis.port p with
      binding := .licence m.record.id, seatCeil := some m.record.ceiling
      effCeil := effective (s.cfg.port p).reqClass (some m.record.ceiling) } ∧
    ∃ k ∈ s.expired.licences, k.record.id = m.record.id ∧ k.bound = m.bound ++ [p] := by
  obtain ⟨g, a, b, ls, hf⟩ := State.expiryBase_frame hg l
  have hport : (s.expiryBase l).port p = s.chassis.port p := by rw [hf]; rfl
  have hfit : (s.expiryBase l).Fits p m.hour := (State.expiryBase_fits hg hc hl).2 ⟨m, hne, hm, rfl⟩
  have hchoice := Chassis.seatChoice_of_unique (x := s.ticked.ctx) hfit fun k hk => by
    obtain ⟨k', hk', hkf, rfl⟩ := (State.expiryBase_fits hg hc hl).1 hk
    rw [hu k' hk' hkf]
  obtain ⟨hid, -, -, -, hceil, hbound⟩ := m.hour_fields
  have hr := Chassis.rebindOne_of_choice (h := inRebind s.ticked.ctx) (w := l.record.id) (by rw [hport]; exact hb) hchoice
    (fun g hgr => by
      rw [hport] at hgr
      rw [hceil]
      exact ⟨((hok.2.2 p).granted g hgr).1, hcov g hgr⟩) s.cfg.graceLen
  rw [State.expired_one hg hc hl hout hothers hp hr (by rw [hf]; exact hd), Chassis.port_setPort_self, hport, hid, hceil]
  refine ⟨rfl, ?_⟩
  obtain ⟨k, hk, hkr, hkb⟩ := Chassis.mem_bindSeat_of_mem (p := p) hfit.1
  rw [hid] at hk
  exact ⟨k, hk, by rw [hkr, hid], by rw [hkb, hbound]⟩

variable (hn : ∀ k, k ≠ l → ¬ s.chassis.Fits p k)
include hn

omit hout hothers hp hb hd in
theorem State.expiryBase_seatChoice : (s.expiryBase l).seatChoice s.ticked.ctx p = none :=
  Chassis.seatChoice_eq_none.2 fun k hk => by
    obtain ⟨k', hk', hkf, -⟩ := (State.expiryBase_fits hg hc hl).1 hk
    exact hn k' hk' hkf

/-- R95: a counted grace binding of the grace length. -/
theorem State.expired_graces (hok : s.PortsOk) (hlen : 0 < s.cfg.graceLen) :
    s.expired.port p = { s.chassis.port p with binding := .counted } ∧ s.expired.graceOf p = s.cfg.graceLen := by
  obtain ⟨g, a, b, ls, hf⟩ := State.expiryBase_frame hg l
  have hport : (s.expiryBase l).port p = s.chassis.port p := by rw [hf]; rfl
  have hnone := State.expiryBase_seatChoice hg hc hl hn
  have hceil := hok.2.2 p
  obtain ⟨k, hk⟩ : ∃ k, (s.chassis.port p).seatCeil = some k := by
    have hrow := hok.1 p
    have hseat := hrow.2.1
    rw [hrow.1.1 (by rw [hb]; exact nofun)] at hseat
    exact Option.isSome_iff_exists.1 hseat
  have heff : (s.chassis.port p).effCeil = effective (s.cfg.port p).reqClass (some k) := hceil.1.trans (by rw [hk])
  have hgport : ((s.expiryBase l).setGrace p s.cfg.graceLen).port p = s.chassis.port p := (Chassis.setGrace_port ..).trans hport
  have hr : Chassis.rebindOne s.ticked.ctx (inRebind s.ticked.ctx) l.record.id s.cfg.graceLen (s.expiryBase l) p =
      ((s.expiryBase l).setGrace p s.cfg.graceLen).setPort p { s.chassis.port p with binding := .counted } := by
    unfold Chassis.rebindOne
    rw [if_pos (by rw [hport]; exact hb), hnone]
    dsimp only
    rw [if_pos hlen, hport, hk, Chassis.seatNotice_of_covered, hgport]
    · congr 1
      rw [← hk, show s.ticked.ctx.cfg = s.cfg from rfl, hk, ← heff]
    · rw [hgport]
      intro g hgr
      obtain ⟨h1, j, hj, h2⟩ := hceil.granted g hgr
      rw [hk] at hj
      obtain rfl := Option.some.inj hj
      exact ⟨h1, h2⟩
  have hdue : (((s.expiryBase l).setGrace p s.cfg.graceLen).setPort p { s.chassis.port p with binding := .counted }).passDue =
      false := (Chassis.setGrace_passDue ..).trans (by rw [hf]; exact hd)
  rw [State.expired_one hg hc hl hout hothers hp hr hdue]
  exact ⟨Chassis.port_setPort_self .., Chassis.graceOf_setGrace ..⟩

variable (hlen : s.cfg.graceLen = 0)
include hlen

omit hd in
/-- R95, R23: without a grace length the port loses its seat. -/
theorem State.expired_loses : (s.expiryBase l).port p = s.chassis.port p ∧
    (((s.expiryBase l).seatLoss s.ticked.ctx (inRebind s.ticked.ctx) p).passDue = false →
      s.expired = (s.expiryBase l).seatLoss s.ticked.ctx (inRebind s.ticked.ctx) p) := by
  obtain ⟨g, a, b, ls, hf⟩ := State.expiryBase_frame hg l
  have hport : (s.expiryBase l).port p = s.chassis.port p := by rw [hf]; rfl
  refine ⟨hport, fun hdue => State.expired_one hg hc hl hout hothers hp ?_ hdue⟩
  rw [hlen]
  exact Chassis.rebindOne_of_none (by rw [hport]; exact hb) (State.expiryBase_seatChoice hg hc hl hn)

/-- R23: in traffic. -/
theorem State.expired_drains (hs : (s.chassis.port p).state = .linkWait ∨ (s.chassis.port p).state = .online)
    (hsec : 0 < (s.cfg.port p).drainSecs) (hlog : 0 < s.chassis.loginCount p) : s.expired.port p = { s.chassis.port p with
      state := .draining .unseated (max s.clockMs s.secondDueMs + (s.cfg.port p).drainSecs * 1000), binding := .drainHold } := by
  obtain ⟨g, a, b, ls, hf⟩ := State.expiryBase_frame hg l
  obtain ⟨hport, hloss⟩ := State.expired_loses hg hc hl hout hothers hp hb hn hlen
  have hr := Chassis.seatLoss_of_traffic (x := s.ticked.ctx) (h := inRebind s.ticked.ctx) (c := s.expiryBase l)
    (by rw [hport]; exact hs) hsec (by rw [hf]; exact hlog)
  rw [hloss (by rw [hr, hf]; exact hd), hr, Chassis.port_setPort_self, hport]
  rfl

/-- R23: a drain goes on. -/
theorem State.expired_holds {t : DrainTarget} {due : Nat} (hs : (s.chassis.port p).state = .draining t due) :
    s.expired.port p = { s.chassis.port p with binding := .drainHold } := by
  obtain ⟨g, a, b, ls, hf⟩ := State.expiryBase_frame hg l
  obtain ⟨hport, hloss⟩ := State.expired_loses hg hc hl hout hothers hp hb hn hlen
  have hr : (s.expiryBase l).seatLoss s.ticked.ctx (inRebind s.ticked.ctx) p =
      (s.expiryBase l).setPort p { (s.expiryBase l).port p with binding := .drainHold } := by
    have hst : ((s.expiryBase l).port p).state = .draining t due := by rw [hport]; exact hs
    simp only [Chassis.seatLoss, hst]
  rw [hloss (by rw [hr, hf]; exact hd), hr, Chassis.port_setPort_self, hport]

/-- R23: without traffic. -/
theorem State.expired_unseats (hok : s.PortsOk)
    (hs : (s.chassis.port p).state = .powerWait ∨ (s.chassis.port p).state = .shed ∨ (s.chassis.port p).state = .fault)
    (hcalm : ∀ q, (s.chassis.port q).state.isDraining = false) :
    s.expired.port p = { s.chassis.port p with state := .unseated, binding := .none, seatCeil := none, effCeil := none } ∧
      p ∈ s.expired.seatWait := by
  obtain ⟨g, a, b, ls, hf⟩ := State.expiryBase_frame hg l
  obtain ⟨hport, hloss⟩ := State.expired_loses hg hc hl hout hothers hp hb hn hlen
  have hgrant : (s.chassis.port p).granted = none := (hok.1 p).granted_none (by rcases hs with h | h | h <;> rw [h] <;> rfl)
  have hcalm' : (s.expiryBase l).Calm := by
    rw [hf]
    exact ⟨hcalm, hd⟩
  obtain ⟨h1, h2, h3⟩ := Chassis.seatLoss_of_parked (x := s.ticked.ctx) (c := s.expiryBase l) (p := p)
    (by rw [hport]; exact hs) (by rw [hport]; exact hgrant) hcalm'
  rw [hloss h3]
  exact ⟨h1.trans (by rw [hport]), h2⟩

end OnePort

end Clauses

end Sys2Proof.Machine

/-! # The hour tick settled (O40) -/

namespace Sys2Proof.Machine

theorem licences_of_blocks {s t : State} (h : t.blocks = s.blocks) : t.chassis.licences = s.chassis.licences :=
  congrArg Blocks.licences h

/-- Settles O40: hours and expiries record by record, alarms by the entries under each key, and the grace hours and the
rebinding of one port. -/
theorem hourTickRunsHoursDown : Obligations.HourTickRunsHoursDown := by
  unfold Obligations.HourTickRunsHoursDown
  refine ⟨fun s hr h hc hg => ?records, fun s hr h hok hterm => ?grace,
    fun s l h p hr hh hok hc hbind hd hg hl ha ht hrem hp hothers => ?expiry⟩
  case records =>
    obtain ⟨t, ht, hb⟩ := State.exec_hourTick hr h
    have hlic := State.hoursRun_licences hg
    have htl : t.chassis.licences = s.expired.licences := (licences_of_blocks hb).trans s.hourChassis_licences
    have hfrom {l : Licence} (hl : l ∈ s.expired.licences) :
        ∃ m ∈ s.chassis.licences, l.record = m.hour.record.expireIn s.hoursRun.outIds := by
      obtain ⟨m, hm, he⟩ := State.exists_of_expired hl
      rw [hlic] at hm
      obtain ⟨k, hk, rfl⟩ := List.mem_map.1 hm
      exact ⟨k, hk, he⟩
    refine ⟨t, ht, ?_, fun l hl he => ?_, fun hroom l hl he hact => ?_, fun hlive l hl u hu ha => ?_⟩
    · have hrec := s.expired_records
      rw [hlic, List.map_map, List.map_map] at hrec
      rw [htl, show s.expired.licences.map Licence.record = _ from hrec]
      refine List.map_congr_left fun l hl => ?_
      have hids := State.mem_outIds_hour hc hlic hl
      show l.hour.record.expireIn s.hoursRun.outIds = _
      cases ht : l.record.term with
      | none => exact Licence.hour_other (.inl ht) hids
      | some u =>
        by_cases ha : l.record.state = .active
        · dsimp only
          rw [if_pos ha]
          exact Licence.hour_expired ht ha hids
        · dsimp only
          rw [if_neg ha]
          exact Licence.hour_other (.inr ha) hids
    · have hok := State.hourChassis_licencesOk hc
      rw [licences_of_blocks hb] at hl
      exact (hok.2.2 l hl).2 (by rw [he]; exact nofun)
    · obtain ⟨m, hm, hrec⟩ := hfrom (htl ▸ hl)
      have hid : l.record.id = m.record.id := by rw [hrec, LicenceRec.expireIn_id, m.hour_id]
      have hin : m.hour.record.id ∈ s.hoursRun.outIds := by
        by_contra hnot
        rw [LicenceRec.expireIn, if_neg hnot] at hrec
        have hstate := m.hour_fields.2.1
        rw [← hrec, he, hact m hm hid.symm] at hstate
        cases hstate
      have hstart := State.followed_start (s := s) (k := .licenseExpired) (n := 0) (φ := fun _ => True) (by decide) hlic trivial
      obtain ⟨e, hm⟩ := List.exists_mem_of_ne_nil _ (State.hourChassis_stands hc (hstart.1 hroom) hin)
      rw [m.hour_id, ← hid] at hm
      exact ⟨e, (mem_under_of_blocks hb (by decide)).1 hm⟩
    · have hl' : l ∈ s.expired.licences := htl ▸ hl
      have hstart := State.followed_start (s := s) (k := .licenseExpiryNear) (n := l.record.id.toNat) (φ := AlarmEntry.Live)
        (by decide) hlic fun e he => hlive e (Alm.mem_under.1 he).1 (Alm.mem_under.1 he).2.1
      obtain ⟨hclear, hraise⟩ := State.hourChassis_near hc hl' hu ha hstart
      refine ⟨fun hw e he hk hn => ?_, fun hw hroom => ?_⟩
      · have hm : e ∈ s.hourChassis.alm.under .licenseExpiryNear l.record.id.toNat :=
          (mem_under_of_blocks hb (by decide)).2 ⟨he, hk, hn⟩
        rw [hclear hw] at hm
        cases hm
      · obtain ⟨hne, hstates⟩ := hraise hw hroom
        obtain ⟨e, hm⟩ := List.exists_mem_of_ne_nil _ hne
        obtain ⟨he, hk, hn⟩ := (mem_under_of_blocks hb (by decide)).1 hm
        exact ⟨e, he, hk, hn, hstates e hm⟩
  case grace =>
    obtain ⟨t, ht, hb⟩ := State.exec_hourTick hr h
    have hout := State.outIds_eq_nil hterm
    refine ⟨t, ht, fun p hp => ⟨fun h2 hd => ?_, fun h1 => ?_⟩⟩
    · have hheld := State.hourChassis_graceHeld hok hout hp h2 hd
      rw [graceOf_of_blocks hb p, port_of_blocks hb p]
      refine hheld.hold.imp And.symm fun h => ⟨fun hnil => h.1 ?_, h.2⟩
      unfold Chassis.licKeys
      rw [hnil]
      rfl
    · have hended := State.hourChassis_graceEnded hok hout hp h1
      rw [graceOf_of_blocks hb p, port_of_blocks hb p]
      exact hended
  case expiry =>
    intro r now free
    obtain ⟨t, hx, hb⟩ := State.exec_hourTick hr hh
    have hlb : (s.chassis.port p).binding = .licence l.record.id :=
      (hbind.1 p l.record.id).2 ⟨l, hl, rfl, by rw [hp]; exact List.mem_singleton.2 rfl⟩
    have hout : l.hour.runOut = true := Licence.runOut_hour_iff.2 ⟨ha, h, ht, by
      unfold Licence.left
      rw [if_neg (by rw [hp]; exact nofun)]
      omega⟩
    have hrest (m : Licence) (hm : m ∈ s.chassis.licences) (hne : m ≠ l) : m.hour.runOut = false := by
      rw [Bool.eq_false_iff, ne_eq, Licence.runOut_hour_iff]
      rintro ⟨hma, u, hu, hz⟩
      have := hothers m hm hne hma u hu
      unfold Licence.left at hz
      split at hz <;> omega
    have hport : t.chassis.port p = s.expired.port p := (port_of_blocks hb p).trans (s.hourChassis_port p)
    have htl : t.chassis.licences = s.expired.licences := (licences_of_blocks hb).trans s.hourChassis_licences
    have hgrace : t.chassis.graceOf p = s.expired.graceOf p := (graceOf_of_blocks hb p).trans (by
      obtain ⟨a, hf⟩ := s.hourChassis_frame
      show s.hourChassis.graceOf p = _
      rw [hf]
      rfl)
    have hwait : t.chassis.seatWait = s.expired.seatWait := (seatWait_of_blocks hb).trans (by
      obtain ⟨a, hf⟩ := s.hourChassis_frame
      show s.hourChassis.seatWait = _
      rw [hf])
    have hfree {hn : ∀ m, ¬ free m} (k : Licence) (hk : k ≠ l) : ¬ s.chassis.Fits p k := fun hf => hn k ⟨hf.1, hk, hf.2⟩
    refine ⟨t, hx, fun m hm hu hcov => ?_, fun hn hlen => ?_, fun hn hlen => ⟨fun hs hsec hlog => ?_, fun tg due hs => ?_,
      fun hs hcalm => ?_⟩⟩
    · obtain ⟨hmem, hne, hfit⟩ := hm
      rw [hport, htl]
      exact State.expired_rebinds hg hc hl hout hrest hp hlb hd hok hne ⟨hmem, hfit⟩
        (fun k hk hf => hu k ⟨hf.1, hk, hf.2⟩) hcov
    · rw [hport, hgrace]
      exact State.expired_graces hg hc hl hout hrest hp hlb hd (hfree (hn := hn)) hok hlen
    · rw [hport]
      exact State.expired_drains hg hc hl hout hrest hp hlb hd (hfree (hn := hn)) hlen hs hsec hlog
    · rw [hport]
      exact State.expired_holds hg hc hl hout hrest hp hlb hd (hfree (hn := hn)) hlen hs
    · rw [hport, hwait]
      exact State.expired_unseats hg hc hl hout hrest hp hlb hd (hfree (hn := hn)) hlen hok hs hcalm

end Sys2Proof.Machine

/-! # The layouts of the reads, in bytes (chapter 9; O25) -/

namespace Sys2Proof.Machine

/-! ## Field encodings -/

section Fields

theorem u8_eq (n : Nat) : u8 n = [BitVec.ofNat 8 n] := by
  simp [u8, beBytes]

theorem u8_ofFin (p : Fin 256) : u8 p.val = [BitVec.ofFin p] := by
  rw [u8_eq]
  congr 1
  exact BitVec.eq_of_toNat_eq (by simp)

@[simp] theorem length_beBytes (w n : Nat) : (beBytes w n).length = w := by
  induction w with
  | zero => rfl
  | succ w ih => rw [beBytes, List.length_cons, ih]

@[simp] theorem length_u8 (n : Nat) : (u8 n).length = 1 := length_beBytes 1 n
@[simp] theorem length_u16 (n : Nat) : (u16 n).length = 2 := length_beBytes 2 n
@[simp] theorem length_u24 (n : Nat) : (u24 n).length = 3 := length_beBytes 3 n
@[simp] theorem length_u32 (n : Nat) : (u32 n).length = 4 := length_beBytes 4 n
@[simp] theorem length_i16 (n : Int) : (i16 n).length = 2 := length_u16 _

@[simp] theorem length_flag (b : Bool) : (flag b).length = 1 := by cases b <;> rfl

@[simp] theorem length_classByte (o : Option RateClass) : (classByte o).length = 1 := by cases o <;> rfl

@[simp] theorem length_codeBytes (o : Option RawCode) : (codeBytes o).length = 2 := by cases o <;> rfl

@[simp] theorem length_rpmBytes (o : Option Nat) : (rpmBytes o).length = 3 := by cases o <;> rfl

@[simp] theorem length_secsLeft16 (now : Nat) (o : Option Nat) : (secsLeft16 now o).length = 2 := by cases o <;> rfl

@[simp] theorem length_reading16 (place : Nat) (o : Option Int) : (reading16 place o).length = 2 := by cases o <;> rfl

@[simp] theorem length_stage16 (f : Stages → Nat) (o : Option Stages) : (stage16 f o).length = 2 := by cases o <;> rfl

@[simp] theorem length_pacingBytes (now : Nat) (o : Option Pacing) : (pacingBytes now o).length = 4 := by
  cases o <;> simp [pacingBytes]

/-- Fields of one width, one after another. -/
theorem length_flatMap_of_forall {α : Type} {f : α → List Byte} {n : Nat} (h : ∀ a, (f a).length = n) (l : List α) :
    (l.flatMap f).length = n * l.length := by
  induction l with
  | nil => rfl
  | cons a as ih => rw [List.flatMap_cons, List.length_append, h, ih, List.length_cons, Nat.mul_succ, Nat.add_comm]

theorem flatMap_singleton_eq {α : Type} (f : α → Byte) (l : List α) : l.flatMap (fun a => [f a]) = l.map f :=
  List.map_eq_flatMap.symm

end Fields

/-! ## Vectors by their places -/

theorem Vector.toList_eq_map {α : Type} {n : Nat} (v : Vector α n) : v.toList = (List.finRange n).map fun i => v[i.val] := by
  rw [Vector.toList_eq_ofFn, List.ofFn_eq_map]

theorem Vector.flatMap_toList {α : Type} {n : Nat} (v : Vector α n) (f : α → List Byte) :
    v.toList.flatMap f = (List.finRange n).flatMap fun i => f v[i.val] := by
  rw [Vector.toList_eq_map, List.flatMap_map]

theorem Vector.flatMap_zip {α β : Type} {n : Nat} (v : Vector α n) (w : Vector β n) (f : α × β → List Byte) :
    (v.toList.zip w.toList).flatMap f = (List.finRange n).flatMap fun i => f (v[i.val], w[i.val]) := by
  rw [Vector.toList_eq_map, Vector.toList_eq_map w, List.zip_map', List.flatMap_map]

theorem Vector.length_filter_toList {α : Type} {n : Nat} (v : Vector α n) (f : α → Bool) :
    (v.toList.filter f).length = ((List.finRange n).filter fun i => f v[i.val]).length := by
  rw [Vector.toList_eq_map, List.filter_map, List.length_map]
  rfl

/-! ## Sums of distinct powers of two -/

theorem bits_three (a b c : Prop) [Decidable a] [Decidable b] [Decidable c] :
    let n := (if a then 1 else 0) + (if b then 2 else 0) + (if c then 4 else 0)
    n < 8 ∧ (n.testBit 0 = true ↔ a) ∧ (n.testBit 1 = true ↔ b) ∧ (n.testBit 2 = true ↔ c) := by
  by_cases ha : a <;> by_cases hb : b <;> by_cases hc : c <;> simp only [ha, hb, hc, if_true, if_false] <;> decide

theorem bits_four (a b c d : Prop) [Decidable a] [Decidable b] [Decidable c] [Decidable d] :
    let n := (if a then 1 else 0) + (if b then 2 else 0) + (if c then 4 else 0) + (if d then 8 else 0)
    n < 16 ∧ (n.testBit 0 = true ↔ a) ∧ (n.testBit 1 = true ↔ b) ∧ (n.testBit 2 = true ↔ c) ∧ (n.testBit 3 = true ↔ d) := by
  by_cases ha : a <;> by_cases hb : b <;> by_cases hc : c <;> by_cases hd : d <;>
    simp only [ha, hb, hc, hd, if_true, if_false] <;> decide

/-! ## The widths of the fixed layouts -/

section Lengths

variable (s : State)

theorem State.portData_length (p : PortId) : (s.portData p).length = 21 := by
  unfold State.portData
  simp only [List.length_append, length_u8, length_u16, length_flag, length_classByte]

theorem State.channelData_length (i : ChanId) : (s.channelData i).length = 23 := by
  unfold State.channelData
  dsimp only
  split <;> simp only [List.length_append, length_u8, length_flag, length_i16, length_reading16, length_codeBytes]

theorem SlotRec.bytes_length (r : SlotRec) : r.bytes.length = 3 := by
  unfold SlotRec.bytes
  split <;> simp only [List.length_append, length_u8]

theorem State.environmentData_length : s.environmentData.length = 428 := by
  unfold State.environmentData ScannerCfg.bytes
  rw [Vector.flatMap_zip, Vector.flatMap_toList]
  simp only [List.length_append, length_u8, length_u16, length_flag, length_reading16, length_codeBytes,
    length_flatMap_of_forall s.channelData_length, length_flatMap_of_forall (n := 4) (fun i : Fin 8 =>
      show (flag s.trayPresent[i.val] ++ rpmBytes s.env.lastRpm[i.val]).length = 4 by simp),
    length_flatMap_of_forall (fun i : Fin 4 => SlotRec.bytes_length s.env.slots[i.val]), List.length_finRange]
  rfl

theorem State.trayData_length (t : TrayId) : (s.trayData t).length = 7 := by
  unfold State.trayData
  simp only [List.length_append, length_u8, length_rpmBytes]

theorem State.coolingData_length : s.coolingData.length = 66 := by
  unfold State.coolingData CoolingCfg.bytes
  simp only [List.length_append, length_u8, length_u16, length_flag, length_reading16,
    length_flatMap_of_forall s.trayData_length, List.length_finRange]

theorem State.waitData_length (e : WaitEntry) : (s.waitData e).length = 5 := by
  unfold State.waitData
  simp only [List.length_append, length_u8, length_u16]

theorem State.powerInputs_length : s.powerInputs.length = 36 := by
  unfold State.powerInputs
  dsimp only
  rw [Vector.flatMap_zip]
  cases s.chassis.pwr.stages <;>
    simp only [List.length_append, length_u8, length_u16, length_i16, length_flag, length_reading16, length_stage16,
      length_flatMap_of_forall (n := 3) (fun i : Fin 4 =>
        show (u8 s.chassis.pwr.inputs.slots[i.val].code ++ u16 s.cfg.supply.ratings[i.val]).length = 3 by simp),
      List.length_finRange]

theorem State.powerDemand_length : s.powerDemand.length = 18 := by
  unfold State.powerDemand
  simp only [List.length_append, length_u16]

theorem PowerCfg.bytes_length (w : PowerCfg) : w.bytes.length = 20 := by
  unfold PowerCfg.bytes
  simp only [List.length_append, length_u8, length_u16]

theorem State.powerData_length : s.powerData.length = 84 + 5 * s.chassis.pwr.waitList.length := by
  unfold State.powerData
  simp only [List.length_append, length_u16, length_flag, length_secsLeft16, length_pacingBytes, s.powerInputs_length,
    s.powerDemand_length, PowerCfg.bytes_length, length_flatMap_of_forall s.waitData_length,
    (s.chassis.waitOrder_perm s.ctx).length_eq]
  omega

theorem AlarmEntry.bytes_length (e : AlarmEntry) : e.bytes.length = 12 := by
  unfold AlarmEntry.bytes
  simp only [List.length_append, length_u8, length_u24, length_u32, length_flag]

theorem State.alarmData_length : s.alarmData.length = 47 + 12 * s.chassis.alm.entries.length := by
  unfold State.alarmData
  rw [Vector.flatMap_toList]
  simp only [List.length_append, length_u8, length_u16, length_flag, length_flatMap_of_forall AlarmEntry.bytes_length,
    length_flatMap_of_forall (n := 2) (fun i : Fin 20 =>
      show (u8 s.cfg.relays[i.val].mode.code ++ flag s.cfg.relays[i.val].enable).length = 2 by simp), List.length_finRange]
  omega

theorem State.identityData_length : s.identityData.length = 57 := by
  unfold State.identityData
  simp only [List.length_append, length_u8, length_u16, length_u24, length_u32, length_flag,
    length_flatMap_of_forall length_u16]
  rfl

end Lengths

end Sys2Proof.Machine

/-! # The reads of ports, logins, zones and licences (R15, R46, R75, R76, R98; O25) -/

namespace Sys2Proof.Machine

/-! ## Login Read (R46) and Port Read (R15) -/

section Ports

variable {c : Chassis} {a : Addr} {p : PortId}

theorem Chassis.loginRead_of_none (h : ∀ p, ¬ c.LoggedIn a p) : c.loginRead (.byAddr a) = ⟨.refusedUnknown, []⟩ := by
  simp only [Chassis.loginRead, Chassis.loginOf_eq_none_iff.2 h]
  rfl

theorem Chassis.loginRead_of_some {before after : List LoginEntry} (hc : c.LoginsOk)
    (h : c.logins = before ++ ⟨a, p⟩ :: after) : c.loginRead (.byAddr a) = ⟨.done, [BitVec.ofFin p,
      BitVec.ofNat 8 ((before.filter (fun e => e.port == p)).length + 1)] ++ u16 c.logins.length⟩ := by
  have hlog : c.loginOf a = some p := hc.loginOf_eq_some_iff.2 (by
    unfold Chassis.LoggedIn
    rw [h]
    exact List.mem_append_right _ List.mem_cons_self)
  have hbefore (e : LoginEntry) (he : e ∈ before.filter fun e => e.port == p) : ¬ (e.addr == a) = true := fun hea => by
    have hnodup := hc.1
    rw [h, List.map_append, List.map_cons] at hnodup
    exact (List.nodup_append.1 hnodup).2.2 _ (List.mem_map_of_mem (List.mem_filter.1 he).1) _ List.mem_cons_self (beq_iff_eq.1 hea)
  have hpos : (c.loginsOf p).findIdx (fun e => e.addr == a) = (before.filter fun e => e.port == p).length := by
    unfold Chassis.loginsOf
    rw [h, List.filter_append, List.filter_cons_of_pos (by simp), List.findIdx_append,
      List.findIdx_eq_length_of_false fun e he => Bool.eq_false_iff.2 (hbefore e he)]
    simp [List.findIdx_cons]
  simp only [Chassis.loginRead, hlog, hpos]
  rw [u8_ofFin, u8_eq]
  rfl

theorem u8_bit (b : Bool) : u8 (if b = true then 1 else 0) = flag b := by
  cases b <;> decide

/-- R5: the control state's code. -/
theorem PortRec.control_code (r : PortRec) : u8 r.control.code = flag (r.state.runs && r.granted.isSome) := by
  have hcode : r.control.code = if (r.state.runs && r.granted.isSome) = true then 1 else 0 := by
    cases hs : r.state <;> cases hg : r.granted <;> simp only [PortRec.control, hs, hg] <;> rfl
  rw [hcode, u8_bit]

/-- R15: the target of a drain and the seconds left of it. -/
def PortState.drainBytes (now : Nat) : PortState → List Byte
  | .draining .disabled due => u8 1 ++ u8 ((due - now + 999) / 1000)
  | .draining .unseated due => u8 2 ++ u8 ((due - now + 999) / 1000)
  | _ => [0x00#8, 0xFF#8]

theorem PortState.drainBytes_eq (now : Nat) (st : PortState) :
    u8 st.targetCode ++ u8 (st.drainLeft now) = st.drainBytes now := by
  cases st with
  | draining t due => cases t <;> rfl
  | absent | disabled | unseated | powerWait | linkWait | online | shed | fault =>
    exact (by decide : u8 0 ++ u8 0xFF = [0x00#8, 0xFF#8])

theorem State.portData_eq (s : State) (p : PortId) : s.portData p =
    [BitVec.ofFin p] ++ u8 (p.val / 32) ++ flag (s.chassis.blade (bladeOf p)) ++ flag (s.cfg.port p).enabled
      ++ u8 (s.cfg.port p).reqClass.num ++ u8 (s.cfg.port p).priority ++ flag (s.cfg.port p).reducedOk
      ++ u8 (s.cfg.port p).drainSecs ++ u8 (s.chassis.port p).state.code
      ++ flag ((s.chassis.port p).state.runs && (s.chassis.port p).granted.isSome)
      ++ u8 (s.chassis.port p).binding.code ++ u16 (s.chassis.port p).binding.licenceNo
      ++ u16 (if (s.chassis.port p).binding = .counted then s.chassis.graceOf p else 0)
      ++ classByte (s.chassis.port p).seatCeil ++ classByte (s.chassis.port p).effCeil ++ classByte (s.chassis.port p).granted
      ++ (s.chassis.port p).state.drainBytes s.clockMs ++ classByte (s.chassis.port p).negotiated := by
  rw [← PortState.drainBytes_eq, ← u8_ofFin, ← PortRec.control_code]
  unfold State.portData
  simp only [List.append_assoc]
  rfl

theorem Chassis.loginRead_byPort (c : Chassis) (p : PortId) : c.loginRead (.byPort p) =
    ⟨.done, [BitVec.ofFin p] ++ u8 (c.port p).state.code ++ u8 (c.logins.filter fun e => e.port == p).length
      ++ (c.logins.filter fun e => e.port == p).flatMap (fun e => u24 e.addr.toNat) ++ u16 c.logins.length⟩ := by
  rw [← u8_ofFin]
  rfl

end Ports

/-! ## Zone Read (R75, R76) -/

section Zones

variable {s : State} {e : ZoneSet} {k : Nat}

/-- R75: the edit claim's owner, 0 for none. -/
def ownerBytes : Option Word16 → List Byte
  | some o => u16 o.toNat
  | none => u16 0

theorem ownerBytes_eq (o : Option Word16) : u16 (o.getD 0#16).toNat = ownerBytes o := by
  cases o <;> rfl

/-- R75: the state of the commit. -/
def Commit.bytes : Commit → List Byte
  | .idle => u8 0
  | .armed => u8 1
  | .validating _ => u8 2

theorem Commit.bytes_eq (c : Commit) : u8 c.code = c.bytes := by
  cases c <;> rfl

theorem State.zoneRead_summary (s : State) : s.zoneRead .summary = ⟨.done, s.zone.active.summary ++ s.zone.edit.summary
    ++ u16 s.zone.generation.toNat ++ ownerBytes s.zone.owner ++ secsLeft16 s.clockMs s.zone.claimDue ++ s.zone.commit.bytes
    ++ s.zone.outcome.bytes⟩ := by
  rw [← ownerBytes_eq, ← Commit.bytes_eq]
  rfl

theorem State.zoneRead_of_noSet (hk : 2 ≤ k) (a n i : Nat) (nm : List Byte) :
    s.zoneRead (.list k a n) = ⟨.refusedRange, []⟩ ∧ s.zoneRead (.byIndex k i) = ⟨.refusedRange, []⟩ ∧
      s.zoneRead (.byName k nm) = ⟨.refusedRange, []⟩ := by
  obtain ⟨m, rfl⟩ := Nat.exists_eq_add_of_le' hk
  exact ⟨rfl, rfl, rfl⟩

theorem ZoneUnit.set?_of {z : ZoneUnit} (h : (k = 0 ∧ e = z.active) ∨ (k = 1 ∧ e = z.edit)) : z.set? k = some e := by
  rcases h with ⟨rfl, rfl⟩ | ⟨rfl, rfl⟩ <;> rfl

theorem State.zoneRead_list (h : s.zone.set? k = some e) (a n : Nat) : s.zoneRead (.list k a n) =
    if 512 < a ∨ n < 1 ∨ 64 < n then ⟨.refusedRange, []⟩
    else if e.zones.length < a then ⟨.refusedUnknown, []⟩ else ⟨.done, e.listing a n⟩ := by
  simp only [State.zoneRead, h, Bool.or_eq_true, decide_eq_true_eq, or_assoc]
  rfl

theorem State.zoneRead_byIndex (h : s.zone.set? k = some e) (i : Nat) : s.zoneRead (.byIndex k i) =
    if 511 < i then ⟨.refusedRange, []⟩ else e.zoneData i := by
  simp only [State.zoneRead, h]
  rfl

theorem State.zoneRead_byName (h : s.zone.set? k = some e) (nm : List Byte) : s.zoneRead (.byName k nm) =
    if nameOk nm = false then ⟨.refusedRange, []⟩
    else ((e.zones.findIdx? fun z => z.name == nm).map e.zoneData).getD ⟨.refusedUnknown, []⟩ := by
  simp only [State.zoneRead, h, Bool.not_eq_true']
  cases e.zones.findIdx? fun z => z.name == nm <;> rfl

/-- R76: the entry of a zone in a list. -/
def Zone.entry (i : Nat) (y : Zone) : List Byte := u16 i ++ (u8 y.name.length ++ y.name) ++ u16 y.members.length

theorem ZoneSet.listing_eq {a n : Nat} {before mid after : List Zone} (h : e.zones = before ++ mid ++ after)
    (hb : before.length = a) (hm : mid.length = n ∨ (mid.length < n ∧ after = [])) :
    e.listing a n = u8 mid.length ++ (mid.zipIdx a).flatMap fun y => y.1.entry y.2 := by
  have htake : ((e.zones.zipIdx.drop a).take n) = mid.zipIdx a := by
    rw [h, List.append_assoc, List.zipIdx_append, List.drop_append_of_le_length (by rw [List.length_zipIdx, hb]),
      List.drop_of_length_le (by rw [List.length_zipIdx, hb]), List.nil_append, List.zipIdx_append, hb, Nat.zero_add]
    rcases hm with hm | ⟨hm, rfl⟩
    · rw [← hm, List.take_append_of_le_length (by rw [List.length_zipIdx]), List.take_of_length_le (by rw [List.length_zipIdx])]
    · rw [List.zipIdx_nil, List.append_nil, List.take_of_length_le (by rw [List.length_zipIdx]; exact hm.le)]
  unfold ZoneSet.listing
  dsimp only
  rw [htake, List.length_zipIdx]
  rfl

/-- A member's bytes, with a port's number as its byte. -/
def Member.fields : Member → List Byte
  | .port p => [0x00#8, BitVec.ofFin p]
  | .range b l => 0x01#8 :: (u24 b.toNat ++ u24 l.toNat)

theorem Member.bytes_eq (m : Member) : m.bytes = m.fields := by
  cases m with
  | port p =>
    show [0#8] ++ u8 p.val = _
    rw [u8_ofFin]
    rfl
  | range b l => rfl

/-- R76: what the zone form answers. -/
def Zone.answer (i : Nat) (y : Zone) : Result := ⟨.done, y.entry i ++ y.members.flatMap Member.fields⟩

theorem ZoneSet.zoneData_of_some {i : Nat} {y : Zone} (h : e.zones[i]? = some y) :
    e.zoneData i = y.answer i := by
  unfold ZoneSet.zoneData Zone.answer
  rw [h, ← funext Member.bytes_eq]
  rfl

theorem ZoneSet.zoneData_of_none {i : Nat} (h : e.zones.length ≤ i) : e.zoneData i = ⟨.refusedUnknown, []⟩ := by
  unfold ZoneSet.zoneData
  rw [List.getElem?_eq_none h]
  rfl

/-- R50: zones of a set have distinct names. -/
theorem ZoneSet.Ok.findIdx? (he : e.Ok) {i : Nat} {y : Zone} (h : e.zones[i]? = some y) :
    (e.zones.findIdx? fun z => z.name == y.name) = some i := by
  obtain ⟨-, -, hnodup, -⟩ := he
  obtain ⟨hi, hy⟩ := List.getElem?_eq_some_iff.1 h
  rw [List.findIdx?_eq_some_iff_getElem]
  refine ⟨hi, by rw [hy]; exact beq_iff_eq.2 rfl, fun j hj hname => ?_⟩
  have hjl := hj.trans hi
  have := (List.nodup_iff_injective_getElem.1 hnodup) (a₁ := ⟨j, by simpa using hjl⟩) (a₂ := ⟨i, by simpa using hi⟩)
    (by simpa [hy] using hname)
  exact absurd (Fin.mk.inj this) hj.ne

theorem State.zoneRead_list_cases (hk : s.zone.set? k = some e) (a n : Nat) :
    (512 < a ∨ n < 1 ∨ 64 < n → s.zoneRead (.list k a n) = ⟨.refusedRange, []⟩) ∧
    (a ≤ 512 → 1 ≤ n → n ≤ 64 → e.zones.length < a → s.zoneRead (.list k a n) = ⟨.refusedUnknown, []⟩) ∧
    ∀ before mid after, a ≤ 512 → 1 ≤ n → n ≤ 64 → e.zones = before ++ mid ++ after → before.length = a →
      mid.length = n ∨ (mid.length < n ∧ after = []) →
      s.zoneRead (.list k a n) = ⟨.done, u8 mid.length ++ (mid.zipIdx a).flatMap fun y => y.1.entry y.2⟩ := by
  rw [State.zoneRead_list hk]
  refine ⟨fun h => if_pos h, fun ha hn hn' hlen => ?_, fun before mid after ha hn hn' hz hb hm => ?_⟩
  · rw [if_neg (by omega), if_pos hlen]
  · have hlen : a ≤ e.zones.length := by
      rw [hz, List.length_append, List.length_append]
      omega
    rw [if_neg (by omega), if_neg (Nat.not_lt.2 hlen), ZoneSet.listing_eq hz hb hm]

theorem State.zoneRead_byIndex_cases (hk : s.zone.set? k = some e) (i : Nat) :
    (511 < i → s.zoneRead (.byIndex k i) = ⟨.refusedRange, []⟩) ∧
    (i ≤ 511 → e.zones.length ≤ i → s.zoneRead (.byIndex k i) = ⟨.refusedUnknown, []⟩) ∧
    ∀ y, i ≤ 511 → e.zones[i]? = some y → s.zoneRead (.byIndex k i) = y.answer i := by
  rw [State.zoneRead_byIndex hk]
  refine ⟨fun h => if_pos h, fun h hlen => ?_, fun y h hy => ?_⟩
  · rw [if_neg (Nat.not_lt.2 h), ZoneSet.zoneData_of_none hlen]
  · rw [if_neg (Nat.not_lt.2 h), ZoneSet.zoneData_of_some hy]

theorem State.zoneRead_byName_cases (hk : s.zone.set? k = some e) (nm : List Byte) :
    (nameOk nm = false → s.zoneRead (.byName k nm) = ⟨.refusedRange, []⟩) ∧
    (nameOk nm = true → (∀ y ∈ e.zones, y.name ≠ nm) → s.zoneRead (.byName k nm) = ⟨.refusedUnknown, []⟩) ∧
    ∀ (i : Nat) (y : Zone), nameOk nm = true → e.Ok → e.zones[i]? = some y → y.name = nm → s.zoneRead (.byName k nm) = y.answer i := by
  rw [State.zoneRead_byName hk]
  refine ⟨fun h => if_pos h, fun h hne => ?_, fun i y h he hy hname => ?_⟩
  · have hnone : e.zones.findIdx? (fun z => z.name == nm) = none :=
      List.findIdx?_eq_none_iff.2 fun y hy => beq_false_of_ne (hne y hy)
    rw [if_neg (by rw [h]; decide), hnone]
    rfl
  · subst hname
    rw [if_neg (by rw [h]; decide), he.findIdx? hy]
    exact ZoneSet.zoneData_of_some hy

end Zones

/-! ## Licence Read (R98) -/

section Licences

variable {s : State} {l : Licence}

theorem Chassis.bindingCount_eq (b : Binding) (c : Chassis) :
    c.bindingCount b = ((List.finRange 256).filter fun p => (c.port p).binding == b).length := by
  unfold Chassis.bindingCount Chassis.port
  exact Vector.length_filter_toList c.ports fun r => r.binding == b

/-- R98: a record, field by field. -/
def Licence.fields (l : Licence) : List Byte :=
  u16 l.record.id.toNat ++ flag l.record.term.isSome ++ u8 l.record.state.code ++ u16 l.record.seats
    ++ u16 l.bound.length ++ u8 l.record.ceiling.num ++ u8 l.record.scope.length
    ++ l.record.scope.map (fun b => BitVec.ofNat 8 b.val)
    ++ (match l.record.term with | some t => u16 t.hours ++ u16 t.remaining ++ u16 t.warn | none => [])

theorem Licence.bytes_eq (l : Licence) : l.bytes = l.fields := by
  have hscope : (l.record.scope.flatMap fun b => u8 b.val) = l.record.scope.map fun b => BitVec.ofNat 8 b.val := by
    simp only [u8_eq, flatMap_singleton_eq]
  unfold Licence.bytes
  dsimp only
  rw [u8_bit, hscope]
  rfl

theorem State.licenceRead_summary (s : State) : s.licenceRead .summary = ⟨.done,
    u8 s.chassis.licences.length ++ s.chassis.licences.flatMap Licence.fields ++ u16 s.chassis.seatWait.length
      ++ s.chassis.seatWait.map BitVec.ofFin
      ++ u16 ((List.finRange 256).filter fun p => (s.chassis.port p).binding == .counted).length
      ++ u16 ((List.finRange 256).filter fun p => (s.chassis.port p).binding == .drainHold).length
      ++ u16 s.cfg.graceLen ++ u16 s.hourSeconds⟩ := by
  rw [← Chassis.bindingCount_eq, ← Chassis.bindingCount_eq, ← funext Licence.bytes_eq, ← flatMap_singleton_eq]
  simp only [← u8_ofFin]
  rfl

theorem State.licenceRead_zero (s : State) : s.licenceRead (.one 0) = ⟨.refusedRange, []⟩ := rfl

theorem State.licenceRead_of_unknown {id : Nat} (h : id ≠ 0) (hn : ∀ l ∈ s.chassis.licences, l.record.id ≠ BitVec.ofNat 16 id) :
    s.licenceRead (.one id) = ⟨.refusedUnknown, []⟩ := by
  simp only [State.licenceRead, Chassis.named_of_unknown h hn]
  rfl

theorem State.licenceRead_of_mem {id : Nat} (hc : s.chassis.LicencesOk) (h : id ≠ 0) (hl : l ∈ s.chassis.licences)
    (hid : l.record.id = BitVec.ofNat 16 id) :
    s.licenceRead (.one id) = ⟨.done, l.fields ++ l.bound.map BitVec.ofFin⟩ := by
  simp only [State.licenceRead, hc.named_of_mem h hl hid, ← Licence.bytes_eq, u8_ofFin, flatMap_singleton_eq]
  rfl

end Licences

end Sys2Proof.Machine

/-! # The reads of the environment, the cooling, the power, the alarms and the identity (R119, R132, R152, R167, R193; O25) -/

namespace Sys2Proof.Machine

/-! ## Fields that are none (log entries 19 and 28) -/

/-- The free bytes of Environment Read and Cooling Read, by their place. -/
def absentBytes (k : Nat) : List Byte := u16 (Config.absentField k).toNat

/-- The free bytes of Power Read: the inlet reading, the pacing window, and the wait time above 65,535 s of a port, by
`256` times the seconds and the port. -/
def powerHole (clockMs : Nat) : Nat → List Byte
  | 0 => absentBytes 34
  | 1 => absentBytes 35
  | k + 2 => u16 (Config.waitSecondsOver (k % 256) (k / 256) clockMs).toNat

theorem length_powerHole (clockMs k : Nat) : (powerHole clockMs k).length = 2 := by
  rcases k with _ | _ | k <;> exact length_u16 _

theorem powerHole_wait (clockMs secs : Nat) (p : PortId) :
    powerHole clockMs (2 + secs * 256 + p.val) = u16 (Config.waitSecondsOver p.val secs clockMs).toNat := by
  have hk : 2 + secs * 256 + p.val = (p.val + 256 * secs) + 2 := by omega
  rw [hk, powerHole, Nat.add_mul_mod_self_left, Nat.mod_eq_of_lt p.isLt, Nat.add_mul_div_left _ _ (by decide : 0 < 256),
    Nat.div_eq_of_lt p.isLt, Nat.zero_add]

/-! ## Environment Read (R119) and Cooling Read (R132) -/

section Environment

variable (s : State)

/-- R119: one channel, its present flag from the raw code. -/
theorem State.channelData_eq (i : ChanId) :
    let c := s.cfg.channel i
    let w := s.env.chan i
    let v := w.raw.map (valueOf c.kind c.divider)
    s.channelData i = flag c.enabled ++ u8 c.kind.code ++ u8 c.input.val ++ u8 c.divider ++ u8 c.role.code ++ i16 c.hiLimit
      ++ flag c.hiEnable ++ i16 c.loLimit ++ flag c.loEnable ++ u8 c.hysteresis ++ i16 c.critical ++ u8 c.target
      ++ flag w.raw.isSome ++ reading16 i.val v
      ++ (if c.kind = .temperature then reading16 (16 + i.val) (v.map wholeDegrees) else u16 0)
      ++ codeBytes w.raw ++ u8 ((if w.hi then 1 else 0) + (if w.lo then 2 else 0) + (if w.emergency then 4 else 0)) := by
  unfold State.channelData
  dsimp only
  rw [Option.isSome_map]
  rfl

theorem Env.settled_eq (e : Env) : e.settled = (List.finRange 4).all fun i => e.slots[i.val].state != .unknown := by
  unfold Env.settled
  rw [Vector.toList_eq_map, List.all_map]
  rfl

theorem State.environmentData_eq : s.environmentData =
    (List.finRange 16).flatMap s.channelData ++ flag s.env.inlet.isSome ++ reading16 32 s.env.inlet
      ++ u8 s.env.scanner.code
      ++ flag s.cfg.scanner.enable ++ u16 s.cfg.scanner.restMs ++ u8 s.cfg.scanner.tolerance
      ++ u8 s.cfg.scanner.gateSecs ++ u8 s.env.trust.code ++ u8 s.env.fails ++ u8 s.env.passes
      ++ codeBytes s.env.refCode ++ flag s.env.thermal
      ++ (List.finRange 8).flatMap (fun t => flag s.trayPresent[t.val] ++ rpmBytes s.env.lastRpm[t.val])
      ++ (List.finRange 4).flatMap (fun i => s.env.slots[i.val].bytes)
      ++ flag ((List.finRange 4).all (fun i => s.env.slots[i.val].state != .unknown)) := by
  unfold State.environmentData ScannerCfg.bytes
  rw [Vector.flatMap_zip, Vector.flatMap_toList, Env.settled_eq]
  simp only [List.append_assoc]
  rfl

theorem State.coolingData_eq : s.coolingData =
    u8 s.fan.current ++ u8 s.fan.computed ++ u8 s.overrideBits ++ flag s.fan.excess.isSome
      ++ reading16 33 s.fan.excess ++ u16 s.cfg.cooling.minRpm ++ u8 s.cfg.cooling.minDuty ++ u8 s.cfg.cooling.gain
      ++ (List.finRange 8).flatMap s.trayData := by
  unfold State.coolingData CoolingCfg.bytes
  simp only [List.append_assoc]

theorem State.excesses_eq_nil_iff : s.excesses = [] ↔ ∀ i, (s.cfg.channel i).role = .cooling → s.reading? i = none := by
  rw [List.eq_nil_iff_forall_not_mem]
  simp only [State.mem_excesses, not_exists, not_and, Option.eq_none_iff_forall_ne_some]
  exact ⟨fun h i hi v hv => h _ i hi v hv rfl, fun h _ i hi v hv _ => h i hi v hv⟩

theorem Fan.anyFailed_iff (f : Fan) :
    f.trays.toList.any (fun t => t.state == .failed) = true ↔ ∃ t, (f.tray t).state = .failed := by
  rw [Vector.toList_eq_map, List.any_map, List.any_eq_true]
  simp only [List.mem_finRange, true_and, Function.comp_apply, beq_iff_eq]
  rfl

/-- R132: the override bits. -/
theorem State.overrideBits_spec : s.overrideBits < 16 ∧
    (s.overrideBits.testBit 0 = true ↔ ∃ t, (s.fan.tray t).state = .failed) ∧
    (s.overrideBits.testBit 1 = true ↔ s.env.trust ≠ .trusted) ∧ (s.overrideBits.testBit 2 = true ↔ s.env.thermal = true) ∧
    (s.overrideBits.testBit 3 = true ↔ ∀ i, (s.cfg.channel i).role = .cooling → s.reading? i = none) := by
  rw [← Fan.anyFailed_iff, ← State.excesses_eq_nil_iff, ← List.isEmpty_iff]
  exact bits_four _ _ _ _

end Environment

/-! ## Power Read (R152) -/

section Power

variable (s : State)

theorem Chassis.grantsAt_eq (c : Chassis) (k : RateClass) :
    c.grantsAt k = ((List.finRange 256).filter fun p => (c.port p).granted == some k).length := by
  unfold Chassis.grantsAt
  exact Vector.length_filter_toList c.ports fun r => r.granted == some k

theorem Chassis.portDraw_eq_list (x : Ctx) (c : Chassis) :
    c.portDraw x = ((List.finRange 256).map fun p => x.cfg.power.drawOf (c.port p).granted).sum := by
  unfold Chassis.portDraw
  rw [Vector.toList_eq_map, List.map_map]
  rfl

theorem WaitEntry.seconds_bytes (now : Nat) (e : WaitEntry) : u16 (e.seconds now).toNat =
    if (now - e.joinMs) / 1000 ≤ 65535 then u16 ((now - e.joinMs) / 1000)
    else powerHole now (2 + (now - e.joinMs) / 1000 * 256 + e.port.val) := by
  unfold WaitEntry.seconds
  dsimp only
  rw [powerHole_wait]
  split
  next h => rw [BitVec.toNat_ofNat, Nat.mod_eq_of_lt (Nat.lt_succ_of_le h)]
  next => rfl

theorem State.waitData_eq (e : WaitEntry) : s.waitData e =
    [BitVec.ofFin e.port] ++ u8 e.kind.code ++ u8 (s.cfg.port e.port).priority
      ++ (if (s.clockMs - e.joinMs) / 1000 ≤ 65535 then u16 ((s.clockMs - e.joinMs) / 1000)
        else powerHole s.clockMs (2 + (s.clockMs - e.joinMs) / 1000 * 256 + e.port.val)) := by
  unfold State.waitData
  rw [WaitEntry.seconds_bytes, u8_ofFin]

/-- R138, R139: what a grant record draws, class by class. -/
def PowerCfg.classDraw (g : PowerCfg) : Option RateClass → Nat
  | some .c1 => g.d1
  | some .c2 => g.d2
  | some .c3 => g.d3
  | some .c4 => g.d4
  | none => 0

theorem PowerCfg.drawOf_eq (g : PowerCfg) : g.drawOf = g.classDraw :=
  funext fun o => by rcases o with _ | _ | _ | _ | _ <;> rfl

/-- R150, R152: the pacing window. -/
def pacingFields (now : Nat) : Option Pacing → List Byte
  | some v => [0x01#8] ++ u8 v.count ++ u16 (v.dueMs - now)
  | none => [0x00#8, 0x00#8] ++ powerHole now 1

theorem pacingBytes_eq (now : Nat) (o : Option Pacing) : pacingBytes now o = pacingFields now o := by
  cases o with
  | some v => rfl
  | none =>
    show flag false ++ u8 0 ++ _ = _
    rw [u8_eq]
    rfl

/-- R152: the inlet temperature of the stages, 0x7FFF where there are none. -/
def inletStage : Option Stages → List Byte
  | some st => i16 st.inletT
  | none => u16 0x7FFF

theorem State.powerData_eq :
    let w := s.chassis.pwr
    let i := w.inputs
    let g := s.cfg.power
    let ports := ((List.finRange 256).map fun p => g.classDraw (s.chassis.port p).granted).sum
    let at_ (k : RateClass) : Nat := ((List.finRange 256).filter fun p => (s.chassis.port p).granted == some k).length
    s.powerData = (List.finRange 4).flatMap (fun k => u8 i.slots[k.val].code ++ u16 s.cfg.supply.ratings[k.val])
      ++ u8 s.cfg.supply.mode.code ++ flag i.settled ++ flag i.inlet.isSome ++ reading16 34 i.inlet ++ u8 i.trust.code
      ++ inletStage w.stages
      ++ flag i.thermal ++ u8 i.good ++ u8 i.present ++ u8 i.blades ++ stage16 Stages.raw w.stages
      ++ stage16 Stages.factor w.stages ++ stage16 Stages.electrical w.stages ++ stage16 Stages.cooling w.stages
      ++ stage16 Stages.available w.stages ++ u16 w.budget
      ++ u16 (g.chassisBase + i.blades * g.bladeBase + i.present * g.trayDraw + ports) ++ u16 g.chassisBase
      ++ u16 (i.blades * g.bladeBase) ++ u16 (i.present * g.trayDraw) ++ u16 ports ++ u16 (at_ .c1) ++ u16 (at_ .c2)
      ++ u16 (at_ .c3) ++ u16 (at_ .c4) ++ flag w.episode ++ secsLeft16 s.clockMs w.holdoff
      ++ pacingFields s.clockMs w.pacing
      ++ u16 (s.chassis.waitOrder s.ctx).length ++ (s.chassis.waitOrder s.ctx).flatMap s.waitData
      ++ flag w.powerWait ++ u8 g.knee ++ u8 g.slope ++ u8 g.untrustedInlet ++ u16 g.trayCapacity ++ u16 g.reserve
      ++ u16 g.chassisBase ++ u16 g.bladeBase ++ u8 g.trayDraw ++ u8 g.d1 ++ u8 g.d2 ++ u8 g.d3 ++ u8 g.d4
      ++ u16 g.margin ++ u16 g.holdoffSecs := by
  unfold State.powerData State.powerInputs State.powerDemand PowerCfg.bytes Chassis.demand
  dsimp only
  rw [Vector.flatMap_zip, Chassis.portDraw_eq_list, PowerCfg.drawOf_eq, ← pacingBytes_eq]
  simp only [Chassis.grantsAt_eq, List.append_assoc]
  rfl

end Power

/-! ## Alarm Read (R167) and Identity Read (R193) -/

section Alarms

variable (s : State)

/-- R163, R167: the relay line bits. -/
theorem State.lineBits_spec : s.lineBits < 8 ∧
    (s.lineBits.testBit 0 = true ↔ s.chassis.alm.Driven s.cfg.relays .minor) ∧
    (s.lineBits.testBit 1 = true ↔ s.chassis.alm.Driven s.cfg.relays .major) ∧
    (s.lineBits.testBit 2 = true ↔ s.chassis.alm.Driven s.cfg.relays .critical) := by
  simp only [← Alm.lineDriven_iff]
  exact bits_three _ _ _

/-- R167: the state of the Alarm Table Full entry. -/
def fullEntryBytes : Option AlarmEntry → List Byte
  | some e => u8 e.state.code
  | none => [0xFF#8]

theorem u8_fullByte (o : Option AlarmEntry) : u8 (fullByte o) = fullEntryBytes o := by
  cases o with
  | some e => rfl
  | none => exact u8_eq 0xFF

theorem State.alarmData_eq : s.alarmData =
    u8 s.chassis.alm.entries.length ++ s.chassis.alm.entries.flatMap AlarmEntry.bytes ++ fullEntryBytes s.chassis.alm.full
      ++ u8 s.lineBits
      ++ (List.finRange 20).flatMap (fun k => u8 s.cfg.relays[k.val].mode.code ++ flag s.cfg.relays[k.val].enable)
      ++ u16 s.cfg.noticeOrigin.toNat ++ u8 s.chassis.alm.notices.length ++ flag s.chassis.alm.dip := by
  rw [← u8_fullByte]
  unfold State.alarmData
  rw [Vector.flatMap_toList]

theorem Monitor.code_bytes (m : Monitor) : u8 m.code = flag (m != .normal) := by
  cases m <;> decide

/-- R193: the writer's state and the section under way. -/
def Writer.bytes : Writer → List Byte
  | .idle => [0x00#8, 0xFF#8]
  | .held => [0x01#8, 0xFF#8]
  | .writing (.settings _) => [0x02#8, 0x00#8]
  | .writing (.zones _) => [0x02#8, 0x01#8]
  | .writing (.licences _) => [0x02#8, 0x02#8]

theorem Writer.bytes_eq (w : Writer) : u8 w.code ++ u8 w.sectionCode = w.bytes := by
  rw [u8_eq, u8_eq]
  rcases w with _ | _ | _ | _ | _ <;> rfl

theorem State.identityData_eq : s.identityData =
    u16 0x0B27 ++ u16 0x0840 ++ u8 1 ++ capacities.flatMap u16 ++ u24 s.cfg.mgmtAddr.toNat
      ++ flag s.store.settingsDirty ++ flag s.store.settingsValid
      ++ flag s.store.zonesDirty ++ flag s.store.zonesValid
      ++ flag s.chassis.licencesDirty ++ flag s.store.licencesValid
      ++ s.store.writer.bytes ++ flag (s.store.monitor != .normal)
      ++ u8 s.store.cause.code ++ u32 s.seconds ++ flag s.store.startUp := by
  rw [← Monitor.code_bytes, ← Writer.bytes_eq]
  unfold State.identityData
  simp only [List.append_assoc]

end Alarms

end Sys2Proof.Machine

/-! # The nine reads (O25) -/

namespace Sys2Proof.Machine

/-- Settles O25: each read is `State.answer` of its data, and each layout is read field by field; what has no value in it
is `absentBytes` and `powerHole`. -/
theorem readsAnswerAndChangeNothing : Obligations.ReadsAnswerAndChangeNothing := by
  unfold Obligations.ReadsAnswerAndChangeNothing
  refine ⟨fun s pr => ?commands, fun s => ?lengths, fun c a hc => ?logins, fun s p => ?ports, fun s => ?zones, fun s => ?licences,
    fun s => ?environment, fun s => ?power, fun s => ?alarms, ?codes⟩
  case commands =>
    refine ⟨fun p h => ?_, fun f h => ?_, fun f h => ?_, fun f h => ?_, fun h => ?_, fun h => ?_, fun h => ?_, fun h => ?_,
      fun h => ?_⟩ <;> exact leaves_of_refusal rfl h rfl
  case lengths =>
    exact ⟨s.portData_length, s.environmentData_length, s.coolingData_length, s.powerData_length, s.alarmData_length,
      s.identityData_length, rfl⟩
  case logins => exact ⟨Chassis.loginRead_of_none, fun p before after h => Chassis.loginRead_of_some hc h⟩
  case ports => exact ⟨s.portData_eq p, s.chassis.loginRead_byPort p⟩
  case zones =>
    refine ⟨s.zoneRead_summary, fun k a n i nm hk => State.zoneRead_of_noSet hk a n i nm, fun k e hset => ?_⟩
    have hk := ZoneUnit.set?_of hset
    exact ⟨fun a n => State.zoneRead_list_cases hk a n, fun i => State.zoneRead_byIndex_cases hk i,
      fun nm => State.zoneRead_byName_cases hk nm⟩
  case licences =>
    exact ⟨s.licenceRead_summary, s.licenceRead_zero, fun id => State.licenceRead_of_unknown,
      fun l hl id hc h0 hid => State.licenceRead_of_mem hc h0 hl hid⟩
  case environment =>
    refine ⟨absentBytes, fun k => length_u16 _, ?_, s.overrideBits, s.overrideBits_spec.1, ?_, s.overrideBits_spec.2⟩
    · rw [State.environmentData_eq, funext s.channelData_eq]
      generalize s.env.scanner = sc
      cases sc <;> rfl
    · exact s.coolingData_eq
  case power =>
    refine ⟨powerHole s.clockMs, s.chassis.waitOrder s.ctx, length_powerHole s.clockMs, s.chassis.waitOrder_perm s.ctx,
      fun h => (Chassis.waitOrder_ordered (x := s.ctx) h).imp (Or.imp_right (And.imp_left Eq.symm)), ?_⟩
    rw [State.powerData_eq, funext s.waitData_eq]
    rfl
  case alarms => 
    refine ⟨⟨s.lineBits, s.lineBits_spec.1, ?_, s.lineBits_spec.2⟩, ?_⟩
    · exact s.alarmData_eq
    · exact s.identityData_eq
  case codes =>
    refine ⟨rfl, fun _ _ => rfl, rfl, rfl, rfl, fun _ => rfl, rfl, rfl, rfl, rfl, rfl, rfl, rfl, rfl, rfl, rfl, rfl, rfl, rfl,
      rfl, fun _ => rfl, rfl, fun _ => rfl, rfl, fun _ => rfl, fun _ => rfl, fun _ _ => rfl⟩

end Sys2Proof.Machine

/-! # Frames and their bytes (R173; O7) -/

namespace Sys2Proof.Machine

/-! ## Numbers and their bytes -/

theorem beNat_foldl_eq : ∀ (bs : List Byte) (n : Nat),
    bs.foldl (fun n b => n * 256 + b.toNat) n = n * 256 ^ bs.length + beNat bs
  | [], n => by simp [beNat]
  | b :: bs, n => by
    have h1 := beNat_foldl_eq bs (n * 256 + b.toNat)
    have h2 := beNat_foldl_eq bs (0 * 256 + b.toNat)
    unfold beNat at h1 ⊢
    rw [List.foldl_cons, List.foldl_cons, h1, h2, List.length_cons, pow_succ]
    unfold beNat
    ring

theorem beNat_cons (b : Byte) (bs : List Byte) : beNat (b :: bs) = b.toNat * 256 ^ bs.length + beNat bs := by
  calc beNat (b :: bs) = (0 * 256 + b.toNat) * 256 ^ bs.length + beNat bs := beNat_foldl_eq bs _
    _ = b.toNat * 256 ^ bs.length + beNat bs := by rw [Nat.zero_mul, Nat.zero_add]

theorem beBytes_mul_add (w a m : Nat) : beBytes w (a * 256 ^ w + m) = beBytes w m := by
  induction w generalizing a with
  | zero => rfl
  | succ w ih =>
    have hsplit : a * 256 ^ (w + 1) + m = a * 256 * 256 ^ w + m := by ring
    have hdiv : (a * 256 * 256 ^ w + m) / 256 ^ w = m / 256 ^ w + a * 256 := by
      rw [Nat.mul_comm (a * 256), Nat.mul_add_div (by positivity), Nat.add_comm]
    rw [beBytes, beBytes, hsplit, ih, hdiv]
    congr 1
    exact BitVec.eq_of_toNat_eq (by simp)

theorem beBytes_beNat (bs : List Byte) : beBytes bs.length (beNat bs) = bs := by
  induction bs with
  | nil => rfl
  | cons b bs ih =>
    have hdiv : (b.toNat * 256 ^ bs.length + beNat bs) / 256 ^ bs.length = b.toNat := by
      rw [Nat.mul_comm, Nat.mul_add_div (by positivity), Nat.div_eq_of_lt (beNat_lt bs), Nat.add_zero]
    rw [List.length_cons, beBytes, beNat_cons, beBytes_mul_add, ih, hdiv, BitVec.ofNat_toNat, BitVec.setWidth_eq]

theorem beNat_beBytes (w n : Nat) : beNat (beBytes w n) = n % 256 ^ w := by
  induction w with
  | zero => exact (Nat.mod_one n).symm
  | succ w ih =>
    rw [beBytes, beNat_cons, ih, length_beBytes, BitVec.toNat_ofNat, Nat.mod_pow_succ (x := n) (b := 256), Nat.mul_comm,
      Nat.add_comm]

theorem u8_toNat (b : Byte) : u8 b.toNat = [b] := by
  rw [u8_eq, BitVec.ofNat_toNat, BitVec.setWidth_eq]

theorem u16_beNat (a b : Byte) : u16 (beNat [a, b]) = [a, b] := beBytes_beNat [a, b]

theorem u16_wordOf (a b : Byte) : u16 (wordOf a b).toNat = [a, b] := by
  rw [wordOf, BitVec.toNat_ofNat, Nat.mod_eq_of_lt ((beNat_lt [a, b]).trans_eq (by norm_num)), u16_beNat]

theorem u24_addrOf (a b c : Byte) : u24 (addrOf a b c).toNat = [a, b, c] := by
  rw [addrOf, BitVec.toNat_ofNat, Nat.mod_eq_of_lt ((beNat_lt [a, b, c]).trans_eq (by norm_num))]
  exact beBytes_beNat [a, b, c]

theorem beNat_u16 {n : Nat} (h : n < 65536) : beNat (u16 n) = n :=
  (beNat_beBytes 2 n).trans (Nat.mod_eq_of_lt h)

theorem word_of_u16 (t : Word16) : BitVec.ofNat 16 (beNat (u16 t.toNat)) = t := by
  rw [beNat_u16 t.isLt, BitVec.ofNat_toNat, BitVec.setWidth_eq]

theorem addr_of_u24 (a : Addr) : BitVec.ofNat 24 (beNat (u24 a.toNat)) = a := by
  have h : beNat (u24 a.toNat) = a.toNat := (beNat_beBytes 3 a.toNat).trans (Nat.mod_eq_of_lt a.isLt)
  rw [h, BitVec.ofNat_toNat, BitVec.setWidth_eq]

/-! ## Command entries -/

theorem takeEntries_cons (n : Nat) (c l : Byte) (bs : List Byte) : takeEntries (n + 1) (c :: l :: bs) =
    if bs.length < l.toNat then none
    else (takeEntries n (bs.drop l.toNat)).map (fun es => ⟨c, bs.take l.toNat⟩ :: es) := rfl

theorem takeEntries_eq_some : ∀ {n : Nat} {bs : List Byte} {cs : List CmdEntry}, takeEntries n bs = some cs →
    cs.length = n ∧ cs.flatMap CmdEntry.bytes = bs
  | 0, [], cs, h => by cases h; exact ⟨rfl, rfl⟩
  | 0, _ :: _, cs, h => by cases h
  | n + 1, [], cs, h => by cases h
  | n + 1, [_], cs, h => by cases h
  | n + 1, c :: l :: bs, cs, h => by
    rw [takeEntries_cons] at h
    split at h
    · cases h
    next hlen =>
      obtain ⟨es, hes, rfl⟩ := Option.map_eq_some_iff.1 h
      obtain ⟨hl, hb⟩ := takeEntries_eq_some hes
      have htake : (bs.take l.toNat).length = l.toNat := List.length_take_of_le (Nat.not_lt.1 hlen)
      refine ⟨by rw [List.length_cons, hl], ?_⟩
      rw [List.flatMap_cons, hb, CmdEntry.bytes, htake, u8_toNat]
      exact congrArg (fun r => c :: l :: r) (List.take_append_drop _ _)

theorem takeEntries_flatMap_bytes : ∀ {cs : List CmdEntry}, cs.all CmdEntry.wf = true →
    takeEntries cs.length (cs.flatMap CmdEntry.bytes) = some cs
  | [], _ => rfl
  | c :: cs, h => by
    obtain ⟨hc, hcs⟩ := Bool.and_eq_true_iff.1 ((List.all_cons ..).symm.trans h)
    have hlen : (BitVec.ofNat 8 c.params.length).toNat = c.params.length := by
      rw [BitVec.toNat_ofNat]
      exact Nat.mod_eq_of_lt (Nat.lt_succ_of_le (of_decide_eq_true hc))
    have hbytes : (c :: cs).flatMap CmdEntry.bytes =
        c.code :: BitVec.ofNat 8 c.params.length :: (c.params ++ cs.flatMap CmdEntry.bytes) := by
      rw [List.flatMap_cons, CmdEntry.bytes, u8_eq]
      rfl
    rw [hbytes, List.length_cons, takeEntries_cons, hlen, if_neg (by simp), List.drop_left, List.take_left,
      takeEntries_flatMap_bytes hcs]
    rfl

theorem length_flatMap_bytes_le {cs : List CmdEntry} (h : cs.all CmdEntry.wf = true) :
    (cs.flatMap CmdEntry.bytes).length ≤ 257 * cs.length := by
  induction cs with
  | nil => exact le_rfl
  | cons c cs ih =>
    obtain ⟨hc, hcs⟩ := Bool.and_eq_true_iff.1 ((List.all_cons ..).symm.trans h)
    have hle : c.params.length ≤ 255 := of_decide_eq_true hc
    have := ih hcs
    simp only [List.flatMap_cons, CmdEntry.bytes, List.length_append, List.length_cons, length_u8]
    omega

/-! ## The bodies by their kind -/

theorem body?_of_parseQuery {b : List Byte} {c : Instr} (h : parseQuery b = some c) : c.body? = some (0x11#8, b) := by
  unfold parseQuery at h
  split at h
  · cases h
    simp only [Instr.body?, u16_wordOf, u24_addrOf]
    rfl
  · cases h

theorem body?_of_parsePortEvent {b : List Byte} {c : Instr} (h : parsePortEvent b = some c) :
    c.body? = some (0x12#8, b) := by
  unfold parsePortEvent at h
  split at h
  · split at h
    next he => subst he; cases h; rfl
    · cases h
  · split at h
    next he => subst he; cases h; rfl
    split at h
    next he => subst he; cases h; rfl
    split at h
    next he => subst he; cases h; rfl
    · cases h
  · split at h
    next he =>
      subst he
      cases h
      simp only [Instr.body?, u24_addrOf]
      rfl
    split at h
    next he =>
      subst he
      cases h
      simp only [Instr.body?, u24_addrOf]
      rfl
    · cases h
  · cases h

theorem body?_of_parseBlade {b : List Byte} {c : Instr} (h : parseBlade b = some c) : c.body? = some (0x13#8, b) := by
  unfold parseBlade at h
  split at h
  · split at h
    next he => subst he; cases h; rfl
    split at h
    next he => subst he; cases h; rfl
    · cases h
  · cases h

theorem body?_of_parseRequest {b : List Byte} {c : Instr} (h : parseRequest b = some c) : c.body? = some (0x14#8, b) := by
  unfold parseRequest at h
  split at h
  · obtain ⟨cs, hcs, rfl⟩ := Option.map_eq_some_iff.1 h
    obtain ⟨hlen, hbytes⟩ := takeEntries_eq_some hcs
    simp only [Instr.body?, u16_wordOf, hlen, hbytes, u8_toNat]
    rfl
  · cases h

theorem body?_of_parseBody {k : Byte} {b : List Byte} {c : Instr} (h : parseBody k b = some c) : c.body? = some (k, b) := by
  unfold parseBody at h
  split at h
  next hk => subst hk; exact body?_of_parseQuery h
  split at h
  next hk => subst hk; exact body?_of_parsePortEvent h
  split at h
  next hk => subst hk; exact body?_of_parseBlade h
  split at h
  next hk => subst hk; exact body?_of_parseRequest h
  · cases h

theorem parseRequest_body {o n : Word16} {pv : Byte} {cs : List CmdEntry}
    (h : Instr.wf (.managementRequest o pv n cs) = true) :
    parseRequest (u16 o.toNat ++ pv :: (u16 n.toNat ++ u8 cs.length ++ cs.flatMap CmdEntry.bytes)) =
      some (.managementRequest o pv n cs) := by
  simp only [Instr.wf, Bool.and_eq_true, decide_eq_true_eq] at h
  obtain ⟨⟨-, hmost⟩, hall⟩ := h
  have hlen : (BitVec.ofNat 8 cs.length).toNat = cs.length := by
    rw [BitVec.toNat_ofNat]
    exact Nat.mod_eq_of_lt (by omega)
  rw [u8_eq]
  show (takeEntries (BitVec.ofNat 8 cs.length).toNat (cs.flatMap CmdEntry.bytes)).map (Instr.managementRequest
    (BitVec.ofNat 16 (beNat (u16 o.toNat))) pv (BitVec.ofNat 16 (beNat (u16 n.toNat)))) = _
  rw [hlen, takeEntries_flatMap_bytes hall, word_of_u16, word_of_u16]
  rfl

theorem parseQuery_body (t : Word16) (p : PortId) (s d : Addr) (k : Byte) :
    parseQuery (u16 t.toNat ++ portByte p :: (u24 s.toNat ++ u24 d.toNat ++ [k])) = some (.admissionQuery t p s d k) := by
  show some (Instr.admissionQuery (BitVec.ofNat 16 (beNat (u16 t.toNat))) p (BitVec.ofNat 24 (beNat (u24 s.toNat)))
    (BitVec.ofNat 24 (beNat (u24 d.toNat))) k) = _
  rw [word_of_u16, addr_of_u24, addr_of_u24]

theorem parsePortEvent_login (p : PortId) (a : Addr) :
    parsePortEvent (portByte p :: 4#8 :: u24 a.toNat) = some (.login p a) := by
  show some (Instr.login p (BitVec.ofNat 24 (beNat (u24 a.toNat)))) = _
  rw [addr_of_u24]

theorem parsePortEvent_logout (p : PortId) (a : Addr) :
    parsePortEvent (portByte p :: 5#8 :: u24 a.toNat) = some (.logout p a) := by
  show some (Instr.logout p (BitVec.ofNat 24 (beNat (u24 a.toNat)))) = _
  rw [addr_of_u24]

theorem parseBody_of_body? {k : Byte} {b : List Byte} {c : Instr} (hwf : c.wf = true) (h : c.body? = some (k, b)) :
    parseBody k b = some c := by
  cases c
  case admissionQuery t p s d k => cases h; exact parseQuery_body t p s d k
  case linkUp | linkDown | portFault | faultCleared | bladeEventInserted | bladeEventRemoved => cases h; rfl
  case login p a => cases h; exact parsePortEvent_login p a
  case logout p a => cases h; exact parsePortEvent_logout p a
  case managementRequest => cases h; exact parseRequest_body hwf
  all_goals cases h

theorem body?_length {k : Byte} {b : List Byte} {c : Instr} (hwf : c.wf = true) (h : c.body? = some (k, b)) :
    b.length < 65536 := by
  cases c
  case managementRequest o pv n cs =>
    cases h
    simp only [Instr.wf, Bool.and_eq_true, decide_eq_true_eq] at hwf
    obtain ⟨⟨-, hmost⟩, hall⟩ := hwf
    have := length_flatMap_bytes_le hall
    simp only [List.length_append, List.length_cons, length_u8, length_u16]
    omega
  case admissionQuery | linkUp | linkDown | portFault | faultCleared | login | logout | bladeEventInserted | bladeEventRemoved =>
    cases h
    exact of_decide_eq_true rfl
  all_goals cases h

/-! ## Frames -/

theorem parseFrame_cons (k l1 l2 : Byte) (rest : List Byte) : parseFrame (k :: l1 :: l2 :: rest) =
    if rest.length = beNat [l1, l2] + 2 ∧
        rest.drop (beNat [l1, l2]) = u16 (frameCheck (k :: l1 :: l2 :: rest.take (beNat [l1, l2]))).toNat then
      (parseBody k (rest.take (beNat [l1, l2]))).filter Instr.wf
    else none := rfl

theorem parseFrame_frameOf {k : Byte} {b : List Byte} (h : b.length < 65536) :
    parseFrame (frameOf k b) = (parseBody k b).filter Instr.wf := by
  have hn : beNat [BitVec.ofNat 8 (b.length / 256 ^ 1), BitVec.ofNat 8 (b.length / 256 ^ 0)] = b.length := beNat_u16 h
  show parseFrame (k :: BitVec.ofNat 8 (b.length / 256 ^ 1) :: BitVec.ofNat 8 (b.length / 256 ^ 0) ::
    (b ++ u16 (frameCheck (k :: BitVec.ofNat 8 (b.length / 256 ^ 1) :: BitVec.ofNat 8 (b.length / 256 ^ 0) :: b)).toNat)) = _
  rw [parseFrame_cons, hn, List.take_left, List.drop_left, if_pos ⟨by rw [List.length_append, length_u16], rfl⟩]

theorem frameOf_of_parseFrame {bs : List Byte} {c : Instr} (h : parseFrame bs = some c) :
    ∃ k b, bs = frameOf k b ∧ parseBody k b = some c ∧ c.wf = true := by
  unfold parseFrame at h
  split at h
  next k l1 l2 rest =>
    dsimp only at h
    split at h
    next hcheck =>
      obtain ⟨hlen, hdrop⟩ := hcheck
      obtain ⟨hbody, hwf⟩ := Option.filter_eq_some_iff.1 h
      refine ⟨k, rest.take (beNat [l1, l2]), ?_, hbody, hwf⟩
      have htake : (rest.take (beNat [l1, l2])).length = beNat [l1, l2] := List.length_take_of_le (by omega)
      unfold frameOf
      rw [htake, u16_beNat]
      show k :: l1 :: l2 :: rest = k :: l1 :: l2 :: (rest.take (beNat [l1, l2]) ++
        u16 (frameCheck (k :: l1 :: l2 :: rest.take (beNat [l1, l2]))).toNat)
      rw [← hdrop, List.take_append_drop]
    · cases h
  · cases h

/-- Settles O7: bodies and their commands agree kind by kind, and a frame is its kind, its body's length, its body and the
check over the three. -/
theorem frameBytesReadBack : Obligations.FrameBytesReadBack := by
  unfold Obligations.FrameBytesReadBack
  intro c bs
  unfold Instr.frame?
  constructor
  · intro h
    obtain ⟨k, b, rfl, hbody, hwf⟩ := frameOf_of_parseFrame h
    exact ⟨hwf, by rw [body?_of_parseBody hbody]; rfl⟩
  · rintro ⟨hwf, h⟩
    obtain ⟨⟨k, b⟩, hbody, rfl⟩ := Option.map_eq_some_iff.1 h
    rw [parseFrame_frameOf (body?_length hwf hbody), parseBody_of_body? hwf hbody]
    exact Option.filter_eq_some_iff.2 ⟨rfl, hwf⟩

end Sys2Proof.Machine
